-- ==== Sys2Proof/Word.lean ====
section
/-! DEFINITION. The word types of the link (bytes and sixteen-bit item values), the channel numbers, and `Six`, the
type of a thing the part has six of (one per axle channel or wheel input). -/

namespace Sys2Proof

/-- One byte of a frame (R172, R173). -/
abbrev Byte := BitVec 8

/-- A sixteen-bit quantity of a frame or a profile item (R195: every value is 0..65535). -/
abbrev Word16 := BitVec 16

/-- An axle channel or a wheel input: the manual's channel `n` (1..6) is the index `n - 1`. -/
abbrev Chan := Fin 6

/-- The six channels (or wheel inputs) in ascending order. -/
def allChans : List Chan := [0, 1, 2, 3, 4, 5]

/-- Six like things, one for each axle channel or wheel input. -/
structure Six (α : Type) where
  c1 : α
  c2 : α
  c3 : α
  c4 : α
  c5 : α
  c6 : α
  deriving DecidableEq, Repr

/-- The entry of channel `c`. -/
def Six.get {α : Type} (v : Six α) (c : Chan) : α :=
  match c.val with
  | 0 => v.c1
  | 1 => v.c2
  | 2 => v.c3
  | 3 => v.c4
  | 4 => v.c5
  | _ => v.c6

/-- The six entries given by a function of the channel. -/
def Six.ofFn {α : Type} (f : Chan → α) : Six α := ⟨f 0, f 1, f 2, f 3, f 4, f 5⟩

/-- The same six entries, but channel `c` holds `x`. -/
def Six.put {α : Type} (v : Six α) (c : Chan) (x : α) : Six α :=
  Six.ofFn fun d => if d = c then x else v.get d

/-- Six equal entries. -/
def Six.const {α : Type} (x : α) : Six α := ⟨x, x, x, x, x, x⟩

/-- The entries in channel order. -/
def Six.toList {α : Type} (v : Six α) : List α := [v.c1, v.c2, v.c3, v.c4, v.c5, v.c6]

end Sys2Proof
end

