-- ==== Sys2Proof/Syntax.lean ====
section
/-! DEFINITION. The commands of the block: one constructor of `Instr` for each row of spec/opcode_table.json, in the
table's order, with the operands the row's rule gives it. A request carries its payload fields as the raw codes of
R189, so that every value a host can send is a command. -/

namespace Sys2Proof

/-- The two lift lines (R98). -/
inductive LiftLine where
  | lift1
  | lift2
  deriving DecidableEq, Repr

/-- The two driver lines (R135). -/
inductive DriverLine where
  | seat
  | door
  deriving DecidableEq, Repr

/-- A raw level of one of the digital lines, read as the manual reads it (R98, R135, R140); `pair` is both lines of the
pendant pair changing together, as its switch moves them (the worked example of 8.13). -/
inductive LineReading where
  | seat (occupied : Bool)
  | door (isOpen : Bool)
  | pa (high : Bool)
  | pb (high : Bool)
  | pair (pa pb : Bool)
  | lift (line : LiftLine) (raised : Bool)
  deriving DecidableEq, Repr

/-- The two critical notice sources (R151, R182). -/
inductive CriticalSource where
  | rollaway
  | short
  deriving DecidableEq, Repr

/-- The events that wake the part (R164). -/
inductive WakeCause where
  /-- The host asserts chip select. -/
  | chipSelect
  /-- A pendant or driver line changes level. -/
  | line (reading : LineReading)
  /-- A pulse on a wheel input, which wakes the part when it is a limit pulse. -/
  | pulse (input : Chan)
  deriving DecidableEq, Repr

/-- One sample set (R32): the converted reading of every analog input, kPa for the pressures, 0.01 m/s² for ACX. -/
structure SampleSet where
  psv : Six Int
  psu : Six Int
  pra : Int
  prb : Int
  acx : Int
  deriving DecidableEq, Repr

/-- The commands: one constructor for each row of the opcode table. -/
inductive Instr where
  /-- POWER_ON_RESET (R167). -/
  | powerOnReset
  /-- POWER_LOSS (R204). -/
  | powerLoss
  /-- IDLE_REQUEST, code 00h (R177). -/
  | idleRequest
  /-- BADFRAME: an exchange of twelve bytes or more whose check byte does not match; `echo` is its byte 0 (R176). -/
  | badframe (echo : Byte)
  /-- SHORT_EXCHANGE: an exchange that ended with fewer than twelve bytes received (R170). -/
  | shortExchange (received : List Byte)
  /-- UNKNOWN_REQUEST: a good frame with an unknown code (R178). -/
  | unknownRequest (code : Byte)
  /-- IDENT, 01h (R188). -/
  | ident
  /-- STATUS, 02h (R186). -/
  | status
  /-- NOTICE_MASK, 03h (R184): the enable set as a notice set byte. -/
  | noticeMask (enables : Byte)
  /-- KEEPALIVE, 10h (R149). -/
  | keepalive (answer : Byte)
  /-- RESYNC, 11h (R157). -/
  | resync
  /-- SLEEP, 12h (R162). -/
  | sleep
  /-- RESET, 13h (R165). -/
  | reset
  /-- OPEN_HOLD, 20h (R13). -/
  | openHold (owner cls tagFlag tag : Byte) (expiry : Word16)
  /-- AMEND_HOLD, 21h (R15). -/
  | amendHold (owner handle cls action : Byte) (value : Word16)
  /-- RELEASE_HOLD, 22h (R17). -/
  | releaseHold (owner handle : Byte)
  /-- READ_HOLD, 23h (R20). -/
  | readHold (handle : Byte)
  /-- LIST_HOLDS, 24h (R21). -/
  | listHolds (start : Byte)
  /-- DRIVE_STATE, 30h (R42). -/
  | driveState (force : Word16) (gear : Byte)
  /-- DRUM_STATE, 31h (R44). -/
  | drumState (mode weightFlag : Byte) (weight : Word16)
  /-- READ_MEASURE, 32h (R45). -/
  | readMeasure (page : Byte)
  /-- READ_CHANNEL, 40h (R105). -/
  | readChannel (channel page : Byte)
  /-- CHANNEL_RESTORE, 41h (R104). -/
  | channelRestore (channel : Byte)
  /-- PROFILE_READ, 50h (R197). -/
  | profileRead (item channel selector : Byte)
  /-- PROFILE_WRITE, 51h (R199). -/
  | profileWrite (item channel : Byte) (value : Word16)
  /-- PROFILE_COMMIT, 52h (R201). -/
  | profileCommit
  /-- COMMIT_END (R201). -/
  | commitEnd
  /-- SAMPLE_ARRIVAL (R32). -/
  | sampleArrival (readings : SampleSet)
  /-- RELIEF_TIMER_EXPIRY (R30). -/
  | reliefTimerExpiry
  /-- PWM_PERIOD_START of one channel (R85). -/
  | pwmPeriodStart (channel : Chan)
  /-- CONFIRMATION_WINDOW_EXPIRY of one channel (R92). -/
  | confirmationWindowExpiry (channel : Chan)
  /-- DRIFT_TIMER_EXPIRY of one channel (R92). -/
  | driftTimerExpiry (channel : Chan)
  /-- SPRING_TIMER_EXPIRY of one channel (R90). -/
  | springTimerExpiry (channel : Chan)
  /-- SPRING_CURRENT_CHANGE: the observed spring current of one channel (R93). -/
  | springCurrentChange (channel : Chan) (present : Bool)
  /-- CURRENT_MISMATCH_EXPIRY of one channel (R93). -/
  | currentMismatchExpiry (channel : Chan)
  /-- RAW_LINE_CHANGE: a digital line changes its raw level (R98, R135, R140). -/
  | rawLineChange (reading : LineReading)
  /-- LIFT_RAISED: a lift line has read RAISED for 50 ms (R98). -/
  | liftRaised (line : LiftLine)
  /-- LIFT_LOWERED: a lift line has read LOWERED for 50 ms (R99). -/
  | liftLowered (line : LiftLine)
  /-- WHEEL_PULSE on one wheel input (R123). -/
  | wheelPulse (input : Chan)
  /-- MOVING_TIMER_EXPIRY (R124). -/
  | movingTimerExpiry
  /-- STANDSTILL_TIMER_EXPIRY (R124). -/
  | standstillTimerExpiry
  /-- WATCH_AFTER_EXPIRY (R126). -/
  | watchAfterExpiry
  /-- DRIVER_LINE_DEBOUNCED: SEAT or DOOR has read its new level for 50 ms (R136). -/
  | driverLineDebounced (line : DriverLine)
  /-- SEAT_TIMER_EXPIRY (R136). -/
  | seatTimerExpiry
  /-- AUTOPARK_TIMER_EXPIRY (R138). -/
  | autoparkTimerExpiry
  /-- PENDANT_PAIR_DEBOUNCED (R140). -/
  | pendantPairDebounced
  /-- HOLD_EXPIRY of the record with a handle (R22). -/
  | holdExpiry (handle : Nat)
  /-- EXPIRY_TRAIN_END (R145). -/
  | expiryTrainEnd
  /-- RELEASE_TIMER_EXPIRY (R117). -/
  | releaseTimerExpiry
  /-- DRIVE_REPORT_STALE (R43). -/
  | driveReportStale
  /-- KEEPALIVE_WINDOW_OPENS (R150). -/
  | keepaliveWindowOpens
  /-- KEEPALIVE_WINDOW_CLOSES (R150). -/
  | keepaliveWindowCloses
  /-- CRITICAL_DEADLINE_EXPIRY of one critical source (R151). -/
  | criticalDeadlineExpiry (source : CriticalSource)
  /-- START_TIMER_EXPIRY (R153). -/
  | startTimerExpiry
  /-- RETRY_TIMER_EXPIRY (R154). -/
  | retryTimerExpiry
  /-- DEGRADED_TIMER_EXPIRY (R159). -/
  | degradedTimerExpiry
  /-- CLKREF_INTERVAL_END (R168). -/
  | clkrefIntervalEnd
  /-- CLOCK_MONITOR_TIMEOUT (R168). -/
  | clockMonitorTimeout
  /-- SLEEP_ENTRY: the end of the exchange after a taken SLEEP (R163). -/
  | sleepEntry
  /-- WAKE (R164). -/
  | wake (cause : WakeCause)
  /-- EXPIRY_COUNTDOWN: 100 ms have passed (R22). -/
  | expiryCountdown
  deriving DecidableEq, Repr

end Sys2Proof
end

