-- ==== Sys2Proof/Decode.lean ====
section
/-! DEFINITION. From an exchange to its command: the check byte (R174), the taking of the bytes of one exchange (R169,
R170, R175 to R179) by the frame layout of R172 and R189, and the frame that carries a request. No row of
spec/opcode_table.json gives bits, so `decodeTableWord` answers none for every word. -/

namespace Sys2Proof

/-- The command a word spells by the opcode table's bits: the table gives no row any bits. -/
def decodeTableWord (_nbits _w : Nat) : Option Instr := none

/-! ## The check byte (R174) -/

/-- One step of the CRC-8 register. -/
def crc8Step (r : Byte) : Byte := if r.msb then (r <<< 1) ^^^ 0x1D else r <<< 1

/-- One byte taken into the CRC-8 register: combined by exclusive-or, then eight steps. -/
def crc8Byte (r b : Byte) : Byte :=
  crc8Step (crc8Step (crc8Step (crc8Step (crc8Step (crc8Step (crc8Step (crc8Step (r ^^^ b))))))))

/-- The check byte over the bytes of a frame that come before it (R174). -/
def crc8 (bytes : List Byte) : Byte := bytes.foldl crc8Byte 0xFF

/-! ## Taking an exchange -/

/-- The sixteen-bit quantity of two bytes, most significant first (R173). -/
def wordOf (hi lo : Byte) : Word16 := hi ++ lo

/-- The upper and the lower byte of a sixteen-bit quantity. -/
def hiByte (w : Word16) : Byte := w.extractLsb' 8 8

/-- The lower byte of a sixteen-bit quantity. -/
def loByte (w : Word16) : Byte := w.extractLsb' 0 8

/-- The request of a frame with a good check byte, from its code (byte 0), its owner byte (byte 1) and its payload
(bytes 2 to 10) placed as R189 gives; bytes a request does not use are ignored (R172). An unknown code gives
UNKNOWN_REQUEST (R178). -/
def requestOf (code owner : Byte) (p : Nat → Byte) : Instr :=
  match code.toNat with
  | 0x00 => .idleRequest
  | 0x01 => .ident
  | 0x02 => .status
  | 0x03 => .noticeMask (p 2)
  | 0x10 => .keepalive (p 2)
  | 0x11 => .resync
  | 0x12 => .sleep
  | 0x13 => .reset
  | 0x20 => .openHold owner (p 2) (p 3) (p 4) (wordOf (p 5) (p 6))
  | 0x21 => .amendHold owner (p 2) (p 3) (p 4) (wordOf (p 5) (p 6))
  | 0x22 => .releaseHold owner (p 2)
  | 0x23 => .readHold (p 2)
  | 0x24 => .listHolds (p 2)
  | 0x30 => .driveState (wordOf (p 2) (p 3)) (p 4)
  | 0x31 => .drumState (p 2) (p 3) (wordOf (p 4) (p 5))
  | 0x32 => .readMeasure (p 2)
  | 0x40 => .readChannel (p 2) (p 3)
  | 0x41 => .channelRestore (p 2)
  | 0x50 => .profileRead (p 2) (p 3) (p 4)
  | 0x51 => .profileWrite (p 2) (p 3) (wordOf (p 4) (p 5))
  | 0x52 => .profileCommit
  | _ => .unknownRequest code

/-- The command that an exchange makes of the bytes received in it: a short exchange below twelve bytes (R170), and
otherwise its first twelve bytes judged by their check byte (R169, R175, R176) and dispatched by their code. -/
def commandOfExchange (received : List Byte) : Instr :=
  if received.length < 12 then .shortExchange received
  else if crc8 (received.take 11) = received.getD 11 0 then
    requestOf (received.getD 0 0) (received.getD 1 0) fun i => received.getD i 0
  else .badframe (received.getD 0 0)

/-! ## The frame that carries a request -/

/-- Bytes 0 to 10 of a request frame: code, owner byte and payload, filled with 00h to nine payload bytes. -/
def requestBody (code owner : Byte) (payload : List Byte) : List Byte :=
  code :: owner :: (payload ++ List.replicate (9 - payload.length) 0)

/-- Bytes 0 to 10 of the frame of a request (R172, R189), unused bytes 00h; none for a command that is no request. -/
def encodeBody : Instr → Option (List Byte)
  | .idleRequest => some (requestBody 0x00 0 [])
  | .ident => some (requestBody 0x01 0 [])
  | .status => some (requestBody 0x02 0 [])
  | .noticeMask enables => some (requestBody 0x03 0 [enables])
  | .keepalive answer => some (requestBody 0x10 0 [answer])
  | .resync => some (requestBody 0x11 0 [])
  | .sleep => some (requestBody 0x12 0 [])
  | .reset => some (requestBody 0x13 0 [])
  | .openHold owner cls tagFlag tag expiry =>
    some (requestBody 0x20 owner [cls, tagFlag, tag, hiByte expiry, loByte expiry])
  | .amendHold owner handle cls action value =>
    some (requestBody 0x21 owner [handle, cls, action, hiByte value, loByte value])
  | .releaseHold owner handle => some (requestBody 0x22 owner [handle])
  | .readHold handle => some (requestBody 0x23 0 [handle])
  | .listHolds start => some (requestBody 0x24 0 [start])
  | .driveState force gear => some (requestBody 0x30 0 [hiByte force, loByte force, gear])
  | .drumState mode weightFlag weight =>
    some (requestBody 0x31 0 [mode, weightFlag, hiByte weight, loByte weight])
  | .readMeasure page => some (requestBody 0x32 0 [page])
  | .readChannel channel page => some (requestBody 0x40 0 [channel, page])
  | .channelRestore channel => some (requestBody 0x41 0 [channel])
  | .profileRead item channel selector => some (requestBody 0x50 0 [item, channel, selector])
  | .profileWrite item channel value =>
    some (requestBody 0x51 0 [item, channel, hiByte value, loByte value])
  | .profileCommit => some (requestBody 0x52 0 [])
  | .unknownRequest code => some (requestBody code 0 [])
  | _ => none

/-- A body of eleven bytes closed by its check byte (R172, R174). -/
def closeFrame (body : List Byte) : List Byte := body ++ [crc8 body]

/-- The twelve bytes of the frame that carries a request; none for a command that is no request. -/
def encode (i : Instr) : Option (List Byte) := (encodeBody i).map closeFrame

end Sys2Proof
end

