-- ==== Sys2Proof/Config.lean ====
section
/-! DEFINITION. What the manual leaves open and no rule of the model may pick: the free values, as constants without a
body; and the model's unit of time. -/

namespace Sys2Proof.Config

/-- How many ticks of the model make one millisecond. DESIGN CHOICE (log entry 1): half a millisecond is the coarsest
tick at which every time the manual names (7.5 ms and 12.5 ms of R168 among them) is a whole number. -/
def ticksPerMs : Nat := 2

/-- A time of the manual, in milliseconds, as ticks of the model. -/
def ms (t : Nat) : Nat := ticksPerMs * t

/-- FREE VALUE (log entry 3). Events that come due at the same moment may be taken in any order (R30, R35, R43, R89,
R92, R93, R121, R124, R127, R134, R136, R150, R151, R153, R154, R159 say "may fall together"; R22 and R98 leave the order
of several records or channels open): `tieRank k n` says where, among `n` events already ordered at the `k`-th such moment,
the next one is put. -/
opaque tieRank : Nat → Nat → Nat

/-- FREE VALUE (log entry 4). What item number `i` of the stored image holds after the `k`-th loss of power during a
commit: R204 says only that the image may be partly rewritten. -/
opaque tornItem : Nat → Nat → Word16

end Sys2Proof.Config
end

