-- ==== Sys2Proof/Machine/State.lean ====
section
/-! DEFINITION. The state of the part, block by block as 00_scope.md 0.3 names them, the outcomes' reasons, and the state
after power-on reset of a part as it leaves the factory. Times are counted in ticks of `Config.ticksPerMs` per ms. -/

namespace Sys2Proof.Machine

/-- Why a step faults. The manual gives every command an effect, so no meaning of this model answers with a fault; the
type stands because the interface asks for one. -/
inductive Fault where
  /-- Raised by no command: the part has no state in which it stops. Safe: nothing is shut out by it. -/
  | stopped
  deriving DecidableEq, Repr

/-- Why a step is refused. -/
inductive Refusal where
  /-- The command has no meaning yet; raised in exec's arms alone. Safe: the model stops where the part goes on. -/
  | notModelled (mnemonic : String)
  deriving DecidableEq, Repr

/-- A timer of the part: stopped, running (ticks since its start), or run out and not started again since. -/
inductive Timer where
  | stopped
  | running (ticks : Nat)
  | ranOut
  deriving DecidableEq, Repr

/-! ## Hold Table (Chapter 1) -/

/-- The owner of a hold (R1). -/
inductive Owner where
  | cab
  | drum
  | service
  | pendant
  | monitor
  deriving DecidableEq, Repr

/-- The class of a hold (R1). -/
inductive HoldClass where
  | light
  | firm
  | park
  deriving DecidableEq, Repr

/-- The state of a hold record (R1, R8). -/
inductive RecState where
  | engaging
  | held
  | releasing
  deriving DecidableEq, Repr

/-- The cause of a MONITOR record (R1). -/
inductive Cause where
  | start
  | autopark
  | rollaway
  | failsafe
  deriving DecidableEq, Repr

/-- A hold record (R1). `expiry` counts units of 100 ms; `collected` is the collection mark of R18. -/
structure Record where
  handle : Nat
  owner : Owner
  cls : HoldClass
  state : RecState
  cause : Option Cause
  tag : Option Byte
  expiry : Option Nat
  collected : Bool
  deriving DecidableEq, Repr

/-- The Hold Table: the records oldest first (R3), the next-handle counter (R5), A (R28), the relief timer (R30), and
the 100 ms beat that counts expiries down (R22). -/
structure HoldTable where
  records : List Record
  nextHandle : Nat
  applied : Nat
  relief : Timer
  beat : Nat
  deriving DecidableEq, Repr

/-! ## Measurement Unit (Chapter 2) -/

/-- The validity of a pressure sensor, with its value or its run count (R33). -/
inductive Sensor where
  | unread
  | valid (kPa : Nat)
  | invalid (run : Nat)
  deriving DecidableEq, Repr

/-- The two reservoir circuits. -/
inductive Circuit where
  | a
  | b
  deriving DecidableEq, Repr

/-- The gear of the drive report (R42). -/
inductive Gear where
  | forward
  | reverse
  | neutral
  deriving DecidableEq, Repr

/-- The drum mode (R44). -/
inductive DrumMode where
  | stopped
  | agitate
  | mix
  | discharge
  deriving DecidableEq, Repr

/-- What the Measurement Unit holds of one circuit: its reservoir sensor, the available pressure and supply-low (R41). -/
structure Supply where
  sensor : Sensor
  avail : Nat
  low : Bool
  deriving DecidableEq, Repr

/-- The Measurement Unit: sensors (R33), grade window and G (R35 to R38), loads and weight (R39, R40), circuits (R41),
drive and drum reports (R42 to R44). The drive report is fresh while `driveAge` runs (R43). `awaitsFirstSample` is the
model's own mark that no sample has come since the last wake (R79, log entry 5). `sampleTimer` runs toward the next sample set
while the part is awake (R32), and `inputs` are the levels at the analog input pins, as converted readings, which a sample set
reads (log entry 41). -/
structure Measure where
  psv : Six Sensor
  psu : Six Sensor
  supplyA : Supply
  supplyB : Supply
  window : List Int
  grade : Int
  implausible : Nat
  forced : Bool
  loads : Six Nat
  weight : Nat
  driveForce : Int
  gear : Gear
  driveAge : Timer
  drum : DrumMode
  cRep : Option Nat
  awaitsFirstSample : Bool
  sampleTimer : Timer
  inputs : SampleSet
  deriving DecidableEq, Repr

/-! ## Force Calculator (Chapter 3) -/

/-- The results of the latest run of the Force Calculator (R46). -/
structure Force where
  fGrade : Nat
  fSigned : Int
  concrete : Nat
  slosh : Nat
  base : Nat
  rLight : Nat
  rFirm : Nat
  rPark : Nat
  fReq : Nat
  deriving DecidableEq, Repr

/-! ## Distribution Unit (Chapter 4) -/

/-- The state a distribution requests of a channel (R61). -/
inductive Requested where
  | idle
  | service
  | spring
  deriving DecidableEq, Repr

/-- The kind of SHORT (R73). -/
inductive ShortKind where
  | traction
  | capacity
  deriving DecidableEq, Repr

/-- One channel's part of the distribution in force (R61); `requested` is absent for a channel outside E. -/
structure Command where
  requested : Option Requested
  spring : Nat
  share : Nat
  pressure : Nat
  duty : Nat
  availUsed : Option Nat
  deriving DecidableEq, Repr

/-- The distribution in force (R61): case P or N, each channel's command, the assigned total and SHORT. E is the set of
channels with a requested state. -/
structure Distribution where
  caseP : Bool
  cmds : Six Command
  total : Nat
  short : Option ShortKind
  deriving DecidableEq, Repr

/-! ## Axle Channels (Chapter 5) -/

/-- The state of a channel (R82). -/
inductive ChanState where
  | absent
  | lifted
  | idle
  | service
  | spring
  | faulted
  deriving DecidableEq, Repr

/-- The fault cause of a channel (R81). -/
inductive FaultCause where
  | pressure
  | openCoil
  | stuck
  | sensor
  deriving DecidableEq, Repr

/-- The override of a channel (R102). -/
inductive Override where
  | none
  | zero
  | failsafe
  deriving DecidableEq, Repr

/-- The channel's own fields of the channel record (R81); the profile fields are those of the working profile, the
share and P_c those of the distribution in force. `latch` is true for ENERGIZED, `current` for PRESENT, `lift` for
RAISED. `pwm` is the time to the next PWM period start (R85), absent while the periods are stopped.
`failsafeMarked` is the mark of R161 step 3. -/
structure Channel where
  state : ChanState
  confirmed : Bool
  dutyBuffer : Nat
  dutyInForce : Nat
  latch : Bool
  current : Bool
  cause : Option FaultCause
  override : Override
  failsafeMarked : Bool
  lift : Bool
  window : Timer
  drift : Timer
  spring : Timer
  mismatch : Timer
  pwm : Option Nat
  deriving DecidableEq, Repr

/-! ## Release Gate (Chapter 6) -/

/-- The Release Gate (R106): ARMED or IDLE, the armed handle (0 while IDLE), the release timer's remaining time, and the
two causes of suspension. -/
structure Gate where
  armed : Bool
  handle : Nat
  remaining : Option Nat
  supplyCause : Bool
  modeCause : Bool
  deriving DecidableEq, Repr

/-! ## Standstill Monitor (Chapter 7) -/

/-- The motion state (R122). -/
inductive Motion where
  | standstill
  | creeping
  | moving
  deriving DecidableEq, Repr

/-- The standstill reference (R126). -/
inductive RefState where
  | clear
  | holding
  | watch
  deriving DecidableEq, Repr

/-- The rollaway stage (R129). -/
inductive Stage where
  | none
  | caught
  | secured
  | lost
  deriving DecidableEq, Repr

/-- The pendant pair state (R140). -/
inductive PairState where
  | asking
  | notAsking
  | lineFault
  deriving DecidableEq, Repr

/-- A pendant opening still owed (R26, R141): none, waiting for the truck to stop moving (`told` once FULL has been
raised for this asking), or waiting for room. -/
inductive PendantWant where
  | none
  | untilStill (told : Bool)
  | untilRoom
  deriving DecidableEq, Repr

/-- The pattern of the WARN output (R144); PULSE with the ticks since the start of its 500 ms period. -/
inductive Warn where
  | off
  | pulse (phase : Nat)
  | steady
  deriving DecidableEq, Repr

/-- One wheel input: the time of its last pulse (R122), its creep counter and its reached mark (R128). -/
structure Wheel where
  lastPulse : Option Nat
  creep : Nat
  reached : Bool
  deriving DecidableEq, Repr

/-- The Standstill Monitor (7.1 to 7.7). `moving` is the time left of the moving timer, which keeps the end it was
started with (R200). -/
structure Monitor where
  wheels : Six Wheel
  standstill : Timer
  moving : Option Nat
  motion : Motion
  ref : RefState
  watchAfter : Timer
  stage : Stage
  tractionLost : Bool
  driverPresent : Bool
  seatTimer : Timer
  autopark : Timer
  inhibit : Bool
  pendantWant : PendantWant
  train : Timer
  warn : Warn
  deriving DecidableEq, Repr

/-- One debounced line: its raw level, its debounced level and its 50 ms debounce (R98, R135). -/
structure Line where
  raw : Bool
  level : Bool
  debounce : Timer
  deriving DecidableEq, Repr

/-- The digital input pins with their debouncing (R98, R135, R140). -/
structure Lines where
  seat : Line
  door : Line
  lift1 : Line
  lift2 : Line
  pa : Bool
  pb : Bool
  pair : PairState
  pairDebounce : Timer
  deriving DecidableEq, Repr

/-! ## Mode Controller (Chapter 8) -/

/-- The mode (R146). -/
inductive Mode where
  | start
  | retry
  | run
  | degraded
  | safe
  | sleep
  deriving DecidableEq, Repr

/-- The supervision phase (R146); RESYNC with its run and whether its window has opened. -/
inductive Phase where
  | none
  | first
  | wait
  | windowOpen
  | awaitResync
  | resync (run : Nat) (opened : Bool)
  deriving DecidableEq, Repr

/-- The keepalive window's opening and closing moments (R146). -/
structure Window where
  opens : Nat
  closes : Nat
  deriving DecidableEq, Repr

/-- The clock monitor (R168): measuring (ticks since the measurement began; the first one after a reset or a wake begins at
that event: DESIGN CHOICE, log entry 42), stopped in SLEEP, or FAILED. -/
inductive Clock where
  | measuring (ticks : Nat)
  | stopped
  | failed
  deriving DecidableEq, Repr

/-- The Mode Controller (R146). -/
structure Control where
  mode : Mode
  degradations : Nat
  token : Byte
  phase : Phase
  window : Option Window
  timer : Timer
  sleepPending : Bool
  failsafeDone : Bool
  clock : Clock
  deriving DecidableEq, Repr

/-! ## Profile Store (Chapter 10) -/

/-- The vehicle items (R195, codes 01h to 14h), each as its sixteen-bit value. -/
structure VehicleItems where
  grossWeight : Word16
  emptyWeight : Word16
  mu : Word16
  marginLight : Word16
  marginFirm : Word16
  marginPark : Word16
  floorLight : Word16
  floorFirm : Word16
  floorPark : Word16
  sloshStopped : Word16
  sloshAgitate : Word16
  sloshMix : Word16
  sloshDischarge : Word16
  creepLimit : Word16
  movingInterval : Word16
  keepalivePeriod : Word16
  releaseTimeout : Word16
  driveMargin : Word16
  deadband : Word16
  minSupply : Word16
  deriving DecidableEq, Repr

/-- The items of one channel (R195, codes 20h to 2Eh), each as its sixteen-bit value. -/
structure ChannelItems where
  fitted : Word16
  role : Word16
  hasSpring : Word16
  liftLine : Word16
  circuit : Word16
  gain : Word16
  pushout : Word16
  pFull : Word16
  springCap : Word16
  staticLoad : Word16
  loadOffset : Word16
  loadGain : Word16
  minLoad : Word16
  maxLoad : Word16
  failSafe : Word16
  deriving DecidableEq, Repr

/-- One value for each item of 10.3. -/
structure Profile where
  vehicle : VehicleItems
  channels : Six ChannelItems
  deriving DecidableEq, Repr

/-- A commit in flight: its 250 ms timer and the contents to be written (R201). -/
structure Commit where
  ticks : Nat
  contents : Profile
  deriving DecidableEq, Repr

/-- The Profile Store (R190). -/
structure Store where
  working : Profile
  image : Profile
  crc : Word16
  mark : Bool
  count : Nat
  commit : Option Commit
  invalid : Bool
  deriving DecidableEq, Repr

/-! ## Link Interface (Chapter 9) -/

/-- The class of an answer (R173). -/
inductive AnswerClass where
  | done
  | pending
  | refused
  deriving DecidableEq, Repr

/-- The reason codes (R180). -/
inductive Reason where
  | none
  | badframe
  | unknown
  | field
  | mode
  | moving
  | full
  | ownerLimit
  | noSuch
  | notOwner
  | state
  | locked
  | busy
  | worn
  | range
  | window
  | token
  | releaseTimeout
  deriving DecidableEq, Repr

/-- An answer in the slot: bytes 0 to 10 of its frame (R173); byte 11 is the check byte over them (R174). -/
structure Answer where
  code : Byte
  cls : AnswerClass
  reason : Reason
  payload : List Byte
  deriving DecidableEq, Repr

/-- The idle answer (R177). -/
def Answer.idle : Answer := ⟨0, .done, .none, [0, 0, 0, 0, 0, 0, 0, 0]⟩

/-- The Link Interface: the answer slot (R171), the pending and enable flags as notice sets (R181, R189), the last HOLDS
event (R185) and the two deadline timers (R151). -/
structure Link where
  slot : Answer
  pending : Byte
  enable : Byte
  lastHandle : Nat
  lastReason : Reason
  rollawayDeadline : Timer
  shortDeadline : Timer
  deriving DecidableEq, Repr

/-! ## The part -/

/-- The state of the part. `powered`, `now` (ticks of the model's clock), `freeCount` (the counter behind the free
values) and `pending` (the commands waiting, first in, first out) are the model's own; the rest is the manual's. -/
structure State where
  powered : Bool
  now : Nat
  link : Link
  table : HoldTable
  meas : Measure
  force : Force
  dist : Distribution
  chans : Six Channel
  gate : Gate
  mon : Monitor
  lines : Lines
  ctl : Control
  store : Store
  freeCount : Nat
  pending : List Instr
  deriving DecidableEq, Repr

/-! ## The built-in and factory profiles -/

/-- The built-in vehicle items (R195, column "Built-in"). -/
def VehicleItems.builtIn : VehicleItems where
  grossWeight := 32000
  emptyWeight := 12000
  mu := 250
  marginLight := 120
  marginFirm := 150
  marginPark := 200
  floorLight := 1500
  floorFirm := 2500
  floorPark := 4000
  sloshStopped := 0
  sloshAgitate := 30
  sloshMix := 60
  sloshDischarge := 40
  creepLimit := 8
  movingInterval := 60
  keepalivePeriod := 100
  releaseTimeout := 3000
  driveMargin := 200
  deadband := 300
  minSupply := 500

/-- The built-in entry of a channel from the figures in which the channels differ (R193). -/
def ChannelItems.builtIn (fitted role hasSpring circuit staticLoad : Word16) : ChannelItems where
  fitted := fitted
  role := role
  hasSpring := hasSpring
  liftLine := 0
  circuit := circuit
  gain := 500
  pushout := 60
  pFull := 1000
  springCap := 3000
  staticLoad := staticLoad
  loadOffset := 0
  loadGain := 1000
  minLoad := 0
  maxLoad := 20000
  failSafe := 1

/-- The built-in default set (R193). -/
def Profile.builtIn : Profile where
  vehicle := VehicleItems.builtIn
  channels :=
    ⟨.builtIn 1 1 0 1 8000, .builtIn 1 2 1 1 12000, .builtIn 1 2 1 2 12000,
     .builtIn 0 3 0 1 0, .builtIn 0 3 0 1 0, .builtIn 0 3 0 1 0⟩

/-- The factory image (R194): the built-in set with μ 400. -/
def Profile.factory : Profile :=
  { Profile.builtIn with vehicle := { VehicleItems.builtIn with mu := 400 } }


/-! ## The state after power-on reset -/

/-- A stopped, settled line that reads its inactive level (log entry 7). -/
def Line.atReset : Line := ⟨false, false, .stopped⟩

/-- The analog inputs while nothing has moved them: each converts to 0. DESIGN CHOICE (log entry 41). -/
def inputsAtReset : SampleSet := ⟨.const 0, .const 0, 0, 0, 0⟩

/-- A channel of the factory truck right after the first distribution: its state, the timer of its test, its duty buffer and
the time to its first PWM period start (R83, R85, R87). -/
def Channel.atReset (state : ChanState) (window spring : Timer) (duty pwm : Nat) : Channel where
  state := state
  confirmed := false
  dutyBuffer := duty
  dutyInForce := 0
  latch := false
  current := false
  cause := none
  override := .none
  failsafeMarked := false
  lift := false
  window := window
  drift := .stopped
  spring := spring
  mismatch := .stopped
  pwm := some pwm

/-- A circuit whose reservoir sensor is UNREAD, with the factory profile's min_supply (R34, R41). -/
def Supply.atReset : Supply := ⟨.unread, 500, true⟩

/-- The machine right after power-on reset (R166, R167) of a part as it leaves the factory (R194), its lines at the levels
of log entry 7, its analog inputs at those of log entry 41, and no command waiting. The figures of the force are those of
the worked example of 3.9; the distribution is that of the end of 4.9 with the factory μ of 400. -/
def State.reset : State where
  powered := true
  now := 0
  link :=
    { slot := .idle, pending := 0x04, enable := 0xFF, lastHandle := 0, lastReason := .none,
      rollawayDeadline := .stopped, shortDeadline := .stopped }
  table :=
    { records := [⟨1, .monitor, .park, .engaging, some .start, none, none, false⟩], nextHandle := 2,
      applied := 41544, relief := .stopped, beat := 0 }
  meas :=
    { psv := .const .unread, psu := .const .unread, supplyA := .atReset, supplyB := .atReset, window := [],
      grade := 600, implausible := 0, forced := false, loads := ⟨8000, 12000, 12000, 0, 0, 0⟩, weight := 32000,
      driveForce := 0, gear := .neutral, driveAge := .stopped, drum := .mix, cRep := none,
      awaitsFirstSample := false, sampleTimer := .running 0, inputs := inputsAtReset }
  force :=
    { fGrade := 19572, fSigned := 19572, concrete := 20000, slosh := 1200, base := 20772, rLight := 24927,
      rFirm := 31158, rPark := 41544, fReq := 41544 }
  dist :=
    { caseP := true
      cmds :=
        ⟨⟨some .service, 0, 2200, 500, 500, some 500⟩, ⟨some .spring, 3000, 0, 0, 0, some 500⟩,
         ⟨some .spring, 3000, 0, 0, 0, some 500⟩, ⟨none, 0, 0, 0, 0, none⟩, ⟨none, 0, 0, 0, 0, none⟩,
         ⟨none, 0, 0, 0, 0, none⟩⟩
      total := 8200
      short := some .traction }
  chans :=
    ⟨.atReset .service (.running 0) .stopped 500 0, .atReset .spring .stopped (.running 0) 0 2,
     .atReset .spring .stopped (.running 0) 0 4, .atReset .absent .stopped .stopped 0 6,
     .atReset .absent .stopped .stopped 0 8, .atReset .absent .stopped .stopped 0 10⟩
  gate := ⟨false, 0, none, false, false⟩
  mon :=
    { wheels := .const ⟨none, 0, false⟩, standstill := .running 0, moving := none, motion := .creeping,
      ref := .holding, watchAfter := .stopped, stage := .none, tractionLost := false, driverPresent := false,
      seatTimer := .stopped, autopark := .stopped, inhibit := false, pendantWant := .none, train := .stopped,
      warn := .pulse 0 }
  lines :=
    { seat := .atReset, door := .atReset, lift1 := .atReset, lift2 := .atReset, pa := false, pb := true,
      pair := .notAsking, pairDebounce := .stopped }
  ctl :=
    { mode := .start, degradations := 0, token := 0, phase := .first, window := none, timer := .running 0,
      sleepPending := false, failsafeDone := false, clock := .measuring 0 }
  store :=
    { working := .factory, image := .factory, crc := 0xC640, mark := true, count := 0, commit := none,
      invalid := false }
  freeCount := 0
  pending := []

end Sys2Proof.Machine
end

