-- ==== Sys2Proof/Machine/Ops.lean ====
section
/-! DEFINITION. The operations every block uses: one setter per block of the state, rounding (00_scope.md 0.5), timers,
and the channel-wise updates. -/

namespace Sys2Proof.Machine

/-- The state with the `link` block replaced. -/
def State.withLink (s : State) (x : Link) : State := { s with link := x }

/-- The state with the `table` block replaced. -/
def State.withTable (s : State) (x : HoldTable) : State := { s with table := x }

/-- The state with the `meas` block replaced. -/
def State.withMeas (s : State) (x : Measure) : State := { s with meas := x }

/-- The state with the `force` block replaced. -/
def State.withForce (s : State) (x : Force) : State := { s with force := x }

/-- The state with the `dist` block replaced. -/
def State.withDist (s : State) (x : Distribution) : State := { s with dist := x }

/-- The state with the `chans` block replaced. -/
def State.withChans (s : State) (x : Six Channel) : State := { s with chans := x }

/-- The state with the `gate` block replaced. -/
def State.withGate (s : State) (x : Gate) : State := { s with gate := x }

/-- The state with the `mon` block replaced. -/
def State.withMon (s : State) (x : Monitor) : State := { s with mon := x }

/-- The state with the `lines` block replaced. -/
def State.withLines (s : State) (x : Lines) : State := { s with lines := x }

/-- The state with the `ctl` block replaced. -/
def State.withCtl (s : State) (x : Control) : State := { s with ctl := x }

/-- The state with the `store` block replaced. -/
def State.withStore (s : State) (x : Store) : State := { s with store := x }

/-- ⌈n / d⌉: a division that rounds up, toward more braking (0.5). -/
def ceilDiv (n d : Nat) : Nat := (n + (d - 1)) / d

/-! ## Timers -/

/-- A timer started from 0. -/
def Timer.start : Timer := .running 0

/-- One tick of main time passes. -/
def Timer.tick : Timer → Timer
  | .running n => .running (n + 1)
  | t => t

/-- The timer runs and has run `t` milliseconds. -/
def Timer.due (timer : Timer) (t : Nat) : Bool :=
  match timer with
  | .running n => Config.ms t ≤ n
  | _ => false

/-- The timer runs. -/
def Timer.isRunning : Timer → Bool
  | .running _ => true
  | _ => false

/-- The timer has run out and has not been started again. -/
def Timer.hasRunOut : Timer → Bool
  | .ranOut => true
  | _ => false

/-- A time left, one tick later. -/
def countDown : Option Nat → Option Nat
  | some n => some (n - 1)
  | none => none

/-! ## What falls together -/

/-- The list with an element put at a place. -/
def insertPlace {α : Type} (x : α) : List α → Nat → List α
  | ys, 0 => x :: ys
  | [], _ + 1 => [x]
  | y :: ys, k + 1 => y :: insertPlace x ys k

/-- What falls together, in the order in which it is taken: the manual leaves that order open, so each goes to a place that
`Config.tieRank` chooses (log entry 3). -/
def arrange {α : Type} (moment : Nat) : List α → List α
  | [] => []
  | [x] => [x]
  | x :: xs => insertPlace x (arrange moment xs) (Config.tieRank moment xs.length % (xs.length + 1))

/-! ## Channel-wise updates -/

/-- The state with the record of channel `c` replaced. -/
def State.withChan (s : State) (c : Chan) (x : Channel) : State := s.withChans (s.chans.put c x)

/-- The part is in a mode other than SLEEP (START, RETRY, RUN, DEGRADED, SAFE). -/
def State.awake (s : State) : Bool := s.ctl.mode != .sleep

/-- The outputs are forced: in SLEEP, and by a failed clock monitor (R86). -/
def State.forced (s : State) : Bool := s.ctl.mode == .sleep || s.ctl.clock == .failed

/-- The truck is at standstill (R122). -/
def State.atStandstill (s : State) : Bool := s.mon.motion == .standstill

end Sys2Proof.Machine
end

