-- ==== Sys2Proof/Machine/ProfileItems.lean ====
section
/-! DEFINITION. The profile's items by code, their ranges and constraints (R195, R196), the CRC-16 of the image (R191),
and the readings of an item that the other blocks use. -/

namespace Sys2Proof.Machine

/-! ## Readings of the channel items -/

/-- The channel is fitted (item 20h). -/
def ChannelItems.isFitted (v : ChannelItems) : Bool := v.fitted == 1

/-- The channel has spring brakes (item 22h). -/
def ChannelItems.springs (v : ChannelItems) : Bool := v.hasSpring == 1

/-- The lift line of the channel (item 23h): 0 none, 1 LIFT1, 2 LIFT2. -/
def ChannelItems.line (v : ChannelItems) : Option LiftLine :=
  if v.liftLine = 1 then some .lift1 else if v.liftLine = 2 then some .lift2 else none

/-- The reservoir circuit of the channel (item 24h): 1 A, 2 B. -/
def ChannelItems.supply (v : ChannelItems) : Circuit := if v.circuit = 2 then .b else .a

/-- The channel's fail-safe action is HOLD_LAST (item 2Eh: 1 SPRING, 2 HOLD_LAST). -/
def ChannelItems.holdsLast (v : ChannelItems) : Bool := v.failSafe == 2

/-- The working profile's items of channel `c`. -/
def State.items (s : State) (c : Chan) : ChannelItems := s.store.working.channels.get c

/-- The working profile's vehicle items. -/
def State.vehicle (s : State) : VehicleItems := s.store.working.vehicle

/-! ## Items by code (R195) -/

/-- The vehicle items in ascending code, 01h to 14h. -/
def VehicleItems.values (v : VehicleItems) : List Word16 :=
  [v.grossWeight, v.emptyWeight, v.mu, v.marginLight, v.marginFirm, v.marginPark, v.floorLight, v.floorFirm,
   v.floorPark, v.sloshStopped, v.sloshAgitate, v.sloshMix, v.sloshDischarge, v.creepLimit, v.movingInterval,
   v.keepalivePeriod, v.releaseTimeout, v.driveMargin, v.deadband, v.minSupply]

/-- The channel items in ascending code, 20h to 2Eh. -/
def ChannelItems.values (v : ChannelItems) : List Word16 :=
  [v.fitted, v.role, v.hasSpring, v.liftLine, v.circuit, v.gain, v.pushout, v.pFull, v.springCap, v.staticLoad,
   v.loadOffset, v.loadGain, v.minLoad, v.maxLoad, v.failSafe]

/-- The vehicle items whose value at position `i` (code `i + 1`) is `f i`. -/
def VehicleItems.ofValues (f : Nat → Word16) : VehicleItems :=
  ⟨f 0, f 1, f 2, f 3, f 4, f 5, f 6, f 7, f 8, f 9, f 10, f 11, f 12, f 13, f 14, f 15, f 16, f 17, f 18, f 19⟩

/-- The channel items whose value at position `i` (code `20h + i`) is `f i`. -/
def ChannelItems.ofValues (f : Nat → Word16) : ChannelItems :=
  ⟨f 0, f 1, f 2, f 3, f 4, f 5, f 6, f 7, f 8, f 9, f 10, f 11, f 12, f 13, f 14⟩

/-- An item of the table of R195 with the place it names: a vehicle item, a channel item of one channel, or the commit
count. -/
inductive Item where
  | vehicle (position : Nat)
  | channel (c : Chan) (position : Nat)
  | commitCount
  deriving DecidableEq, Repr

/-- The item a code and a channel number name: channel 0 for a vehicle item or item 1Fh, 1..6 for a channel item
(R197, R199); none for any other pair. -/
def itemAt (code channel : Byte) : Option Item :=
  let n := code.toNat
  let c := channel.toNat
  if 0x01 ≤ n ∧ n ≤ 0x14 then (if c = 0 then some (.vehicle (n - 1)) else none)
  else if n = 0x1F then (if c = 0 then some .commitCount else none)
  else if 0x20 ≤ n ∧ n ≤ 0x2E then
    (if h : 1 ≤ c ∧ c ≤ 6 then some (.channel ⟨c - 1, by omega⟩ (n - 0x20)) else none)
  else none

/-- The value a profile holds for an item; the commit count is no item of the profile and reads 0 here. -/
def Profile.read (p : Profile) : Item → Word16
  | .vehicle i => p.vehicle.values.getD i 0
  | .channel c i => (p.channels.get c).values.getD i 0
  | .commitCount => 0

/-- The profile with one item's value replaced. -/
def Profile.write (p : Profile) (item : Item) (value : Word16) : Profile :=
  match item with
  | .vehicle i =>
    { p with vehicle := .ofValues fun j => if j = i then value else p.vehicle.values.getD j 0 }
  | .channel c i =>
    { p with
      channels := p.channels.put c
        (.ofValues fun j => if j = i then value else (p.channels.get c).values.getD j 0) }
  | .commitCount => p

/-! ## Ranges and constraints -/

/-- The range of each vehicle item in ascending code, lowest and highest value (R195). -/
def vehicleRanges : List (Nat × Nat) :=
  [(5000, 65000), (3000, 30000), (150, 800), (100, 200), (110, 250), (120, 300), (500, 5000), (500, 8000),
   (1000, 12000), (0, 200), (0, 200), (0, 200), (0, 200), (2, 40), (20, 200), (50, 400), (1000, 10000), (0, 2000),
   (0, 1000), (300, 900)]

/-- The range of each channel item in ascending code, lowest and highest value (R195). -/
def channelRanges : List (Nat × Nat) :=
  [(0, 1), (1, 4), (0, 1), (0, 2), (1, 2), (100, 3000), (0, 150), (600, 1200), (0, 8000), (0, 30000), (0, 10000),
   (0, 5000), (0, 30000), (0, 30000), (1, 2)]

/-- The position of the keepalive period (code 10h) among the vehicle items. -/
def keepalivePosition : Nat := 0x10 - 1

/-- A value lies between the two ends of a range. -/
def inSpan (span : Nat × Nat) (value : Word16) : Bool :=
  decide (span.1 ≤ value.toNat) && decide (value.toNat ≤ span.2)

/-- A value lies within the range of the vehicle item at a position; the keepalive period is 50, 100, 200 or 400. -/
def vehicleInRange (position : Nat) (value : Word16) : Bool :=
  inSpan (vehicleRanges.getD position (1, 0)) value &&
    (position != keepalivePosition || [50, 100, 200, 400].contains value.toNat)

/-- A value lies within the range of the channel item at a position. -/
def channelInRange (position : Nat) (value : Word16) : Bool :=
  inSpan (channelRanges.getD position (1, 0)) value

/-- A value lies within the range of an item (R195). -/
def Item.inRange (item : Item) (value : Word16) : Bool :=
  match item with
  | .vehicle i => vehicleInRange i value
  | .channel _ i => channelInRange i value
  | .commitCount => false

/-- Every item value of the profile lies within its range (R192). -/
def Profile.inRanges (p : Profile) : Bool :=
  (p.vehicle.values.zipIdx.all fun (v, i) => vehicleInRange i v) &&
    allChans.all fun c => (p.channels.get c).values.zipIdx.all fun (v, i) => channelInRange i v

/-- The three constraints of R196. -/
def Profile.constraints (p : Profile) : Bool :=
  decide (p.vehicle.emptyWeight.toNat < p.vehicle.grossWeight.toNat) &&
    (allChans.all fun c => decide ((p.channels.get c).minLoad.toNat ≤ (p.channels.get c).maxLoad.toNat)) &&
    allChans.any fun c => (p.channels.get c).isFitted && (p.channels.get c).line.isNone

/-! ## The CRC-16 (R191) -/

/-- One step of the CRC-16 register: shifted toward the most significant end, and combined with 1021h if a 1 fell out. -/
def crc16Step (r : Word16) : Word16 := if r.msb then (r <<< 1) ^^^ 0x1021 else r <<< 1

/-- One byte taken into the CRC-16 register: combined into its upper eight bits, then eight steps. -/
def crc16Byte (r : Word16) (b : Byte) : Word16 :=
  crc16Step (crc16Step (crc16Step (crc16Step (crc16Step (crc16Step (crc16Step (crc16Step
    (r ^^^ (b.zeroExtend 16 <<< 8)))))))))

/-- The two bytes of a value, most significant first. -/
def bytesOf (w : Word16) : List Byte := [(w >>> 8).truncate 8, w.truncate 8]

/-- The item values in the order of 10.3: vehicle items, then the channel items of channel 1 to channel 6. -/
def Profile.values (p : Profile) : List Word16 :=
  p.vehicle.values ++ (p.channels.toList.map ChannelItems.values).flatten

/-- The CRC-16 over an image (R191). -/
def Profile.crc (p : Profile) : Word16 := (p.values.map bytesOf).flatten.foldl crc16Byte 0xFFFF

/-- A profile whose item number `i` in the order of 10.3 is `f i`. -/
def Profile.ofValues (f : Nat → Word16) : Profile where
  vehicle := .ofValues f
  channels := Six.ofFn fun c => .ofValues fun i => f (20 + 15 * c.val + i)

end Sys2Proof.Machine
end

