-- ==== Sys2Proof/Machine/Operands.lean ====
section
/-! DEFINITION. The codes by which values travel in frames (R1, R15, R42, R44, R180, R189, R195), read from a request and
placed in an answer; and the frame of an answer (R173, R174). -/

namespace Sys2Proof.Machine

/-! ## Codes read from a request -/

/-- The owner a request may name: 1 CAB, 2 DRUM, 3 SERVICE; none for 0, 4, 5 and any other code (R1, R13). -/
def requestOwner (b : Byte) : Option Owner :=
  match b.toNat with
  | 1 => some .cab
  | 2 => some .drum
  | 3 => some .service
  | _ => none

/-- The class of a class code (R1). -/
def classOf (b : Byte) : Option HoldClass :=
  match b.toNat with
  | 1 => some .light
  | 2 => some .firm
  | 3 => some .park
  | _ => none

/-- An expiry of a request: 0000h is absent (R173, R189). -/
def expiryOf (w : Word16) : Option Nat := if w.toNat = 0 then none else some w.toNat

/-- A tag of a request with its presence flag: any flag other than 0 is present (R173). -/
def tagOf (flag tag : Byte) : Option Byte := if flag = 0 then none else some tag

/-- The expiry action of AMEND HOLD (R15). -/
inductive ExpiryAction where
  | set (value : Nat)
  | clear
  | keep
  deriving DecidableEq, Repr

/-- The expiry action of an action code: 1 SET with the value, 2 CLEAR, 3 KEEP (R15). -/
def expiryActionOf (code : Byte) (value : Word16) : Option ExpiryAction :=
  match code.toNat with
  | 1 => some (.set value.toNat)
  | 2 => some .clear
  | 3 => some .keep
  | _ => none

/-- The gear of a gear code (R42). -/
def gearOf (b : Byte) : Option Gear :=
  match b.toNat with
  | 1 => some .forward
  | 2 => some .reverse
  | 3 => some .neutral
  | _ => none

/-- The drum mode of a drum mode code (R44). -/
def drumModeOf (b : Byte) : Option DrumMode :=
  match b.toNat with
  | 1 => some .stopped
  | 2 => some .agitate
  | 3 => some .mix
  | 4 => some .discharge
  | _ => none

/-- The channel a channel number names, 1..6 (R104, R105). -/
def channelOf (b : Byte) : Option Chan :=
  if h : 1 ≤ b.toNat ∧ b.toNat ≤ 6 then some ⟨b.toNat - 1, by omega⟩ else none

/-! ## Codes placed in an answer -/

/-- The owner code (R1). -/
def Owner.code : Owner → Byte
  | .cab => 1
  | .drum => 2
  | .service => 3
  | .pendant => 4
  | .monitor => 5

/-- The class code (R1). -/
def HoldClass.code : HoldClass → Byte
  | .light => 1
  | .firm => 2
  | .park => 3

/-- The record state code (R1). -/
def RecState.code : RecState → Byte
  | .engaging => 1
  | .held => 2
  | .releasing => 3

/-- The cause code (R1). -/
def Cause.code : Cause → Byte
  | .start => 1
  | .autopark => 2
  | .rollaway => 3
  | .failsafe => 4

/-- The gear code (R42). -/
def Gear.code : Gear → Byte
  | .forward => 1
  | .reverse => 2
  | .neutral => 3

/-- The drum mode code (R44). -/
def DrumMode.code : DrumMode → Byte
  | .stopped => 1
  | .agitate => 2
  | .mix => 3
  | .discharge => 4

/-- The channel state code (R189). -/
def ChanState.code : ChanState → Byte
  | .absent => 1
  | .lifted => 2
  | .idle => 3
  | .service => 4
  | .spring => 5
  | .faulted => 6

/-- The requested state code: the channel state's, 00h for none (R189). -/
def requestedCode : Option Requested → Byte
  | none => 0
  | some .idle => 3
  | some .service => 4
  | some .spring => 5

/-- The fault cause code, 00h for absent (R189). -/
def faultCode : Option FaultCause → Byte
  | none => 0
  | some .pressure => 1
  | some .openCoil => 2
  | some .stuck => 3
  | some .sensor => 4

/-- The override code (R189). -/
def Override.code : Override → Byte
  | .none => 1
  | .zero => 2
  | .failsafe => 3

/-- The mode code of STATUS (R189); no STATUS is taken in SLEEP. -/
def Mode.code : Mode → Byte
  | .start => 1
  | .retry => 2
  | .run => 3
  | .degraded => 4
  | .safe => 5
  | .sleep => 0

/-- The SHORT kind code of STATUS (R189). -/
def shortCode : Option ShortKind → Byte
  | none => 0
  | some .traction => 1
  | some .capacity => 2

/-- The answer class code (R173). -/
def AnswerClass.code : AnswerClass → Byte
  | .done => 0
  | .pending => 1
  | .refused => 2

/-- The reason code (R180). -/
def Reason.code : Reason → Byte
  | .none => 0x00
  | .badframe => 0x01
  | .unknown => 0x02
  | .field => 0x03
  | .mode => 0x04
  | .moving => 0x05
  | .full => 0x06
  | .ownerLimit => 0x07
  | .noSuch => 0x08
  | .notOwner => 0x09
  | .state => 0x0A
  | .locked => 0x0B
  | .busy => 0x0C
  | .worn => 0x0D
  | .range => 0x0E
  | .window => 0x0F
  | .token => 0x10
  | .releaseTimeout => 0x11

/-- A flag as a byte: 1 set, 0 clear (R189). -/
def flagByte (b : Bool) : Byte := if b then 1 else 0

/-- A flag at a bit of a byte. -/
def flagBit (b : Bool) (bit : Nat) : Byte := if b then 1 <<< bit else 0

/-- The lowest byte of a quantity. -/
def byteOf (n : Nat) : Byte := BitVec.ofNat 8 n

/-- A quantity as two bytes, most significant first (R173). -/
def bytes2 (n : Nat) : List Byte := [byteOf (n / 256), byteOf n]

/-- A quantity as three bytes, most significant first (R173). -/
def bytes3 (n : Nat) : List Byte := [byteOf (n / 65536), byteOf (n / 256), byteOf n]

/-- A signed quantity as two bytes in two's complement, most significant first (R173). -/
def signed2 (n : Int) : List Byte := bytes2 (BitVec.ofInt 16 n).toNat

/-! ## Answers -/

/-- Eight payload bytes, the ones a rule does not name 00h (R189). -/
def payload8 (bytes : List Byte) : List Byte := bytes ++ List.replicate (8 - bytes.length) 0

/-- The bytes 0 to 10 of an answer frame (R173). -/
def Answer.body (a : Answer) : List Byte := a.code :: a.cls.code :: a.reason.code :: a.payload

/-- The twelve bytes of an answer frame, the check byte last (R173, R174): what the next exchange shifts out (R169). -/
def Answer.frame (a : Answer) : List Byte := closeFrame a.body

/-- The state with an answer placed in the slot (R171). -/
def State.place (s : State) (a : Answer) : State := s.withLink { s.link with slot := a }

/-- A DONE answer with its payload. -/
def State.done (s : State) (code : Byte) (bytes : List Byte) : State :=
  s.place ⟨code, .done, .none, payload8 bytes⟩

/-- A PENDING answer with its payload. -/
def State.answerPending (s : State) (code : Byte) (bytes : List Byte) : State :=
  s.place ⟨code, .pending, .none, payload8 bytes⟩

/-- A REFUSED answer with its reason and a payload of 00h in every byte (R173). -/
def State.refuse (s : State) (code : Byte) (reason : Reason) : State :=
  s.place ⟨code, .refused, reason, payload8 []⟩

/-- The hold byte: owner in bits 2..0, class in bits 4..3, state in bits 6..5, tag presence in bit 7 (R189). -/
def Record.holdByte (r : Record) : Byte :=
  r.owner.code ||| (r.cls.code <<< 3) ||| (r.state.code <<< 5) ||| flagBit r.tag.isSome 7

/-- The byte after the hold byte: the cause of a MONITOR record, the tag of any other, 00h where absent (R189). -/
def Record.causeOrTag (r : Record) : Byte :=
  match r.cause with
  | some c => c.code
  | none => r.tag.getD 0

end Sys2Proof.Machine
end

