-- ==== Sys2Proof/Machine/Flags.lean ====
section
/-! DEFINITION. The notices and ATTN (9.5), the critical deadline timers (R151), and the WARN output (7.7). -/

namespace Sys2Proof.Machine

/-! ## Notices -/

/-- The eight notice sources (R181). -/
inductive Source where
  | holds
  | rollaway
  | short
  | channel
  | supply
  | sensor
  | mode
  | profile
  deriving DecidableEq, Repr

/-- The source's flag in a notice set (R189). -/
def Source.bit : Source → Byte
  | .holds => 0x01
  | .rollaway => 0x02
  | .short => 0x04
  | .channel => 0x08
  | .supply => 0x10
  | .sensor => 0x20
  | .mode => 0x40
  | .profile => 0x80

/-- The flags of the two critical sources, which stay enabled at every moment (R182). -/
def criticalBits : Byte := 0x06

/-- The source's pending flag is set. -/
def Link.isPending (l : Link) (src : Source) : Bool := l.pending &&& src.bit != 0

/-- A source is raised: its pending flag is set (R181); a critical source raised in RUN while not pending starts its
deadline timer (R151). -/
def State.raise (s : State) (src : Source) : State :=
  let starts := s.ctl.mode == .run && !s.link.isPending src
  s.withLink
    { s.link with
      pending := s.link.pending ||| src.bit
      rollawayDeadline := if starts && src == .rollaway then .start else s.link.rollawayDeadline
      shortDeadline := if starts && src == .short then .start else s.link.shortDeadline }

/-- HOLDS is raised and the last HOLDS event replaced (R185). -/
def State.raiseHolds (s : State) (handle : Nat) (reason : Reason) : State :=
  let t := s.raise .holds
  t.withLink { t.link with lastHandle := handle, lastReason := reason }

/-- ATTN: asserted while some source is both pending and enabled (R183). -/
def State.attn (s : State) : Bool := s.powered && s.link.pending &&& s.link.enable != 0

/-- Both deadline timers stop (R151). -/
def State.stopDeadlines (s : State) : State :=
  s.withLink { s.link with rollawayDeadline := .stopped, shortDeadline := .stopped }

/-- Entry into RUN starts the deadline timer of each critical source that is pending (R151). -/
def State.startDeadlines (s : State) : State :=
  s.withLink
    { s.link with
      rollawayDeadline := if s.link.isPending .rollaway then .start else s.link.rollawayDeadline
      shortDeadline := if s.link.isPending .short then .start else s.link.shortDeadline }

/-- The deadline timer of a critical source. -/
def State.deadline (s : State) : CriticalSource → Timer
  | .rollaway => s.link.rollawayDeadline
  | .short => s.link.shortDeadline

/-- A critical source's deadline timer stops. -/
def State.stopDeadline (s : State) : CriticalSource → State
  | .rollaway => s.withLink { s.link with rollawayDeadline := .stopped }
  | .short => s.withLink { s.link with shortDeadline := .stopped }

/-! ## WARN -/

/-- A live record has a given cause. -/
def State.hasCause (s : State) (c : Cause) : Bool := s.table.records.any fun r => r.cause == some c

/-- A steady cause of WARN holds: SAFE, TRACTION_LOST, or the independent output path of a failed clock (R144). -/
def State.warnSteady (s : State) : Bool := s.ctl.mode == .safe || s.mon.tractionLost || s.ctl.clock == .failed

/-- A pulse cause of WARN holds: a live ROLLAWAY record, SHORT, or the expiry pulse train (R144). -/
def State.warnPulses (s : State) : Bool := s.hasCause .rollaway || s.dist.short.isSome || s.mon.train.isRunning

/-- The WARN pattern after the causes have changed: OFF in SLEEP, STEADY while a steady cause holds, PULSE while a pulse
cause holds, its period kept if it was running and otherwise started with its on half (R144). -/
def State.warnNext (s : State) : Warn :=
  if s.ctl.mode = .sleep then .off
  else if s.warnSteady then .steady
  else if s.warnPulses then
    (match s.mon.warn with
    | .pulse phase => .pulse phase
    | _ => .pulse 0)
  else .off

/-- WARN follows its causes (R144). -/
def State.refreshWarn (s : State) : State := s.withMon { s.mon with warn := s.warnNext }

/-- The ticks of one period of PULSE: 250 ms on and 250 ms off (R144). -/
def warnPeriod : Nat := Config.ms 500

/-- One tick of the PULSE period. -/
def Warn.tick : Warn → Warn
  | .pulse phase => .pulse ((phase + 1) % warnPeriod)
  | w => w

/-- The level of the WARN line (R144). -/
def State.warnLine (s : State) : Bool :=
  s.powered &&
    match s.mon.warn with
    | .off => false
    | .steady => true
    | .pulse phase => phase < Config.ms 250

end Sys2Proof.Machine
end

