-- ==== Sys2Proof/Machine/Measuring.lean ====
section
/-! DEFINITION. What the Measurement Unit derives (Chapter 2) and what the Force Calculator makes of it (Chapter 3). -/

namespace Sys2Proof.Machine

/-! ## Sensors and circuits -/

/-- A pressure reading is in range (R33). -/
def pressureInRange (reading : Int) : Bool := decide (-20 ≤ reading) && decide (reading ≤ 1200)

/-- A reading acts on a sensor's state (R33). -/
def Sensor.take (sensor : Sensor) (reading : Int) : Sensor :=
  if pressureInRange reading then
    match sensor with
    | .invalid run => if run + 1 < 5 then .invalid (run + 1) else .valid reading.toNat
    | _ => .valid reading.toNat
  else .invalid 0

/-- The sensor is INVALID. -/
def Sensor.isInvalid : Sensor → Bool
  | .invalid _ => true
  | _ => false

/-- The value of a VALID sensor. -/
def Sensor.value : Sensor → Option Nat
  | .valid p => some p
  | _ => none

/-- The reading turns the sensor INVALID, which raises SENSOR (R33). -/
def Sensor.turnsInvalid (sensor : Sensor) (reading : Int) : Bool :=
  !sensor.isInvalid && (sensor.take reading).isInvalid

/-- The circuit's available pressure and supply-low from its reservoir sensor (R41). -/
def Supply.derive (sensor : Sensor) (minSupply : Nat) : Supply :=
  match sensor with
  | .valid p => ⟨sensor, p - 50, decide (p < 550)⟩
  | _ => ⟨sensor, minSupply, true⟩

/-- What the Measurement Unit holds of a circuit. -/
def Measure.supply (m : Measure) : Circuit → Supply
  | .a => m.supplyA
  | .b => m.supplyB

/-- P_avail of a channel: the available pressure of its circuit (R41). -/
def State.avail (s : State) (c : Chan) : Nat := (s.meas.supply (s.items c).supply).avail

/-- The channel's circuit is supply-low (R41). -/
def State.lowSupply (s : State) (c : Chan) : Bool := (s.meas.supply (s.items c).supply).low

/-! ## Loads and weight -/

/-- The load from the suspension pressure's straight line, clamped to the entry's limits (R39). -/
def ChannelItems.loadAt (v : ChannelItems) (p : Nat) : Nat :=
  min (max (v.loadOffset.toNat + p * v.loadGain.toNat / 100) v.minLoad.toNat) v.maxLoad.toNat

/-- The load of a channel (R39). -/
def State.loadOf (s : State) (c : Chan) : Nat :=
  if (s.chans.get c).state = .absent ∨ (s.chans.get c).state = .lifted then 0
  else
    match s.meas.psu.get c with
    | .valid p => (s.items c).loadAt p
    | _ => (s.items c).staticLoad.toNat

/-- The loads with a channel's profile figure in place of every measured one (R79). -/
def State.staticLoads (s : State) : Six Nat := Six.ofFn fun c =>
  if (s.chans.get c).state = .absent ∨ (s.chans.get c).state = .lifted then 0 else (s.items c).staticLoad.toNat

/-- The truck weight over a set of loads (R40): their sum over the fitted channels, at most 65000, if every fitted
channel's suspension sensor is VALID, and otherwise gross_weight. -/
def State.weightOf (s : State) (loads : Six Nat) : Nat :=
  let fitted := allChans.filter fun c => (s.items c).isFitted
  if fitted.all fun c => (s.meas.psu.get c).value.isSome then
    min (fitted.map loads.get).sum 65000
  else s.vehicle.grossWeight.toNat

/-- The loads are derived afresh (R39). -/
def State.deriveLoads (s : State) : State := s.withMeas { s.meas with loads := Six.ofFn s.loadOf }

/-- The loads and the weight are derived afresh (R39, R40). -/
def State.deriveWeight (s : State) : State :=
  let t := s.deriveLoads
  t.withMeas { t.meas with weight := t.weightOf t.meas.loads }

/-! ## The grade -/

/-- The entry of largest magnitude, the newest among equals (R36). -/
def worstOf (best : Int) : List Int → Int
  | [] => best
  | x :: xs => worstOf (if best.natAbs ≤ x.natAbs then x else best) xs

/-- The mean of sixteen entries, rounded away from zero (R36). -/
def meanOf (window : List Int) : Int := window.sum.sign * (ceilDiv window.sum.natAbs 16 : Nat)

/-- G of a window that is not empty (R36). -/
def gradeOf (frozen : Int) (window : List Int) : Int :=
  if window.length = 16 then meanOf window
  else if window = [] then frozen
  else worstOf 0 window

/-- A plausible reading joins the window, from which the oldest of seventeen leaves (R35). -/
def joinWindow (window : List Int) (reading : Int) : List Int :=
  let w := window ++ [reading]
  if 16 < w.length then w.drop (w.length - 16) else w

/-- The accelerometer reading is plausible (R37). -/
def plausible (reading : Int) : Bool := decide (reading.natAbs ≤ 600)

/-- An accelerometer reading at standstill acts on the grade window, the count, the forced flag and G (R35 to R37). -/
def Measure.takeGrade (m : Measure) (reading : Int) : Measure :=
  if plausible reading then
    let w := joinWindow m.window reading
    if m.forced then
      if w.length = 16 then { m with window := w, implausible := 0, forced := false, grade := meanOf w }
      else { m with window := w, implausible := 0, grade := 600 }
    else { m with window := w, implausible := 0, grade := gradeOf m.grade w }
  else if m.forced then { m with window := [], grade := 600 }
  else if m.implausible + 1 < 5 then
    { m with implausible := m.implausible + 1, grade := gradeOf m.grade m.window }
  else { m with window := [], implausible := 0, forced := true, grade := 600 }

/-- The end of standstill empties the window and returns the count to 0 (R35, R37). -/
def Measure.endStandstill (m : Measure) : Measure := { m with window := [], implausible := 0 }

/-! ## The drive report -/

/-- The effective drive force of a fresh report (R43). -/
def effectiveDrive (gear : Gear) (force : Int) : Int :=
  match gear with
  | .forward => max force 0
  | .reverse => min force 0
  | .neutral => 0

/-- D: the effective drive force, 0 for a stale report (R43). -/
def Measure.drive (m : Measure) : Int :=
  if m.driveAge.isRunning then effectiveDrive m.gear m.driveForce else 0

/-- The gear in force: NEUTRAL for a stale report (R43). -/
def Measure.gearInForce (m : Measure) : Gear := if m.driveAge.isRunning then m.gear else .neutral

/-! ## The Force Calculator -/

/-- F_grade = ⌈W × |G| / 981⌉ (R50). -/
def gradeForce (weight : Nat) (grade : Int) : Nat := ceilDiv (weight * grade.natAbs) 981

/-- F_signed: F_grade with the sign of G (R51). -/
def signedForce (fGrade : Nat) (grade : Int) : Int := grade.sign * (fGrade : Int)

/-- C: the reported concrete weight, or the estimate W − empty_weight within 0..40000 (R52). -/
def concreteOf (cRep : Option Nat) (weight empty : Nat) : Nat :=
  match cRep with
  | some c => c
  | none => min (weight - empty) 40000

/-- slosh_pm of a drum mode (R53). -/
def VehicleItems.sloshPm (v : VehicleItems) : DrumMode → Nat
  | .stopped => v.sloshStopped.toNat
  | .agitate => v.sloshAgitate.toNat
  | .mix => v.sloshMix.toNat
  | .discharge => v.sloshDischarge.toNat

/-- S = ⌈C × slosh_pm / 1000⌉ (R53). -/
def sloshOf (concrete pm : Nat) : Nat := ceilDiv (concrete * pm) 1000

/-- The margin of a class (R55). -/
def VehicleItems.margin (v : VehicleItems) : HoldClass → Nat
  | .light => v.marginLight.toNat
  | .firm => v.marginFirm.toNat
  | .park => v.marginPark.toNat

/-- The floor of a class (R55). -/
def VehicleItems.floor (v : VehicleItems) : HoldClass → Nat
  | .light => v.floorLight.toNat
  | .firm => v.floorFirm.toNat
  | .park => v.floorPark.toNat

/-- R_k: the greater of the class floor and ⌈B × margin / 100⌉ (R55). -/
def requirement (v : VehicleItems) (base : Nat) (k : HoldClass) : Nat :=
  max (v.floor k) (ceilDiv (base * v.margin k) 100)

/-- R_k of the latest run (R46). -/
def Force.ofClass (f : Force) : HoldClass → Nat
  | .light => f.rLight
  | .firm => f.rFirm
  | .park => f.rPark

/-- F_req: the greatest requirement over the classes of the live holds, 0 when there is none (R56). -/
def greatest (req : HoldClass → Nat) : List Record → Nat
  | [] => 0
  | r :: rs => max (req r.cls) (greatest req rs)

/-- The results of a run over the measurements, the profile and the table in force (R46). -/
def State.calculate (s : State) : Force :=
  let fGrade := gradeForce s.meas.weight s.meas.grade
  let concrete := concreteOf s.meas.cRep s.meas.weight s.vehicle.emptyWeight.toNat
  let slosh := sloshOf concrete (s.vehicle.sloshPm s.meas.drum)
  let base := fGrade + slosh
  { fGrade := fGrade
    fSigned := signedForce fGrade s.meas.grade
    concrete := concrete
    slosh := slosh
    base := base
    rLight := requirement s.vehicle base .light
    rFirm := requirement s.vehicle base .firm
    rPark := requirement s.vehicle base .park
    fReq := greatest (requirement s.vehicle base) s.table.records }

/-- A run of the Force Calculator, up to its offer (R46). -/
def State.runForce (s : State) : State := s.withForce s.calculate

end Sys2Proof.Machine
end

