-- ==== Sys2Proof/Machine/Distributing.lean ====
section
/-! DEFINITION. The Distribution Unit's run (Chapter 4), the commands it hands to the channels (5.3, 5.8), the report of
confirmation (R9, R88), and A with its ratchet, relief and hold-set changes (1.11). -/

namespace Sys2Proof.Machine

/-! ## Who takes part -/

/-- The channel takes part: fitted, and not ABSENT, LIFTED or FAULTED (R64). -/
def State.eligible (s : State) (c : Chan) : Bool :=
  (s.items c).isFitted &&
    match (s.chans.get c).state with
    | .absent => false
    | .lifted => false
    | .faulted => false
    | _ => true

/-- Some live hold has class PARK, whatever its state (R67). -/
def parkLive (records : List Record) : Bool := records.any fun r => r.cls == .park

/-- The channel's springs are applied: a spring channel in case P, or on a supply-low circuit (R67, R68, R69). -/
def State.springsApplied (s : State) (c : Chan) : Bool :=
  (s.items c).springs && (parkLive s.table.records || s.lowSupply c)

/-! ## Limits (R65, R66, R70) -/

/-- friction_c = ⌊L_c × μ / 1000⌋ (R65). -/
def frictionOf (load mu : Nat) : Nat := load * mu / 1000

/-- valve_c = ⌊gain × (P_avail − pushout) / 100⌋, 0 where P_avail is below pushout (R66). -/
def valveOf (gain avail pushout : Nat) : Nat := gain * (avail - pushout) / 100

/-- The friction limit of a channel over a set of loads (R65). -/
def State.friction (s : State) (loads : Six Nat) (c : Chan) : Nat :=
  frictionOf (loads.get c) s.vehicle.mu.toNat

/-- cap_c: the lesser of the friction limit and the valve capability (R66). -/
def State.cap (s : State) (loads : Six Nat) (c : Chan) : Nat :=
  min (s.friction loads c) (valveOf (s.items c).gain.toNat (s.avail c) (s.items c).pushout.toNat)

/-- K_c: the lesser of spring_cap and the friction limit (R70). -/
def State.springForce (s : State) (loads : Six Nat) (c : Chan) : Nat :=
  min (s.items c).springCap.toNat (s.friction loads c)

/-! ## Water-filling (R71) -/

/-- One channel in the sharing: its load and its cap. -/
structure Sharer where
  chan : Chan
  load : Nat
  cap : Nat
  deriving DecidableEq, Repr

/-- share_c = ⌈R × L_c / (sum of L over U)⌉ (R71 step 3). -/
def Sharer.share (x : Sharer) (remainder total : Nat) : Nat := ceilDiv (remainder * x.load) total

/-- The passes of R71, at most `passes` of them. `need` is A less the sum of K_c, `unfixed` is U, and `settled` holds the
channels fixed so far with their shares; the answer settles every channel. A remainder of 0 stands for 0 or less. -/
def waterFill : (passes need : Nat) → (unfixed : List Sharer) → (settled : List (Chan × Nat)) → List (Chan × Nat)
  | 0, _, unfixed, settled => settled ++ unfixed.map fun x => (x.chan, 0)
  | passes + 1, need, unfixed, settled =>
    let remainder := need - (settled.map Prod.snd).sum
    let total := (unfixed.map Sharer.load).sum
    if remainder = 0 ∨ total = 0 then settled ++ unfixed.map fun x => (x.chan, 0)
    else
      let exceeding := unfixed.filter fun x => x.cap < x.share remainder total
      if exceeding = [] then settled ++ unfixed.map fun x => (x.chan, x.share remainder total)
      else
        waterFill passes need (unfixed.filter fun x => x.share remainder total ≤ x.cap)
          (settled ++ exceeding.map fun x => (x.chan, x.cap))

/-- The passes a run may need: one for each channel of U, and the one that finds U empty (R72). -/
def maxPasses : Nat := 7

/-- The share a list of settled channels gives a channel; 0 for one it does not hold. -/
def shareIn (shares : List (Chan × Nat)) (c : Chan) : Nat := ((shares.find? fun x => x.1 == c).map Prod.snd).getD 0

/-! ## The run (R63) -/

/-- The channels in E. -/
def State.inE (s : State) : List Chan := allChans.filter s.eligible

/-- The channels of E that take a service share (R67), as sharers. -/
def State.sharers (s : State) (loads : Six Nat) : List Sharer :=
  (s.inE.filter fun c => !s.springsApplied c).map fun c => ⟨c, loads.get c, s.cap loads c⟩

/-- The sum of K_c over the channels requested SPRING. -/
def State.springTotal (s : State) (loads : Six Nat) : Nat :=
  ((s.inE.filter s.springsApplied).map (s.springForce loads)).sum

/-- The service shares of a run (R71). -/
def State.shares (s : State) (loads : Six Nat) : List (Chan × Nat) :=
  waterFill maxPasses (s.table.applied - s.springTotal loads) (s.sharers loads) []

/-- P_c of a service share: pushout + ⌈share × 100 / gain⌉, limited to P_avail (R75). -/
def pressureOf (v : ChannelItems) (avail share : Nat) : Nat :=
  min (v.pushout.toNat + ceilDiv (share * 100) v.gain.toNat) avail

/-- duty_c = ⌈P_c × 1000 / p_full⌉, limited to 0..1000 (R76). -/
def dutyOf (pressure pFull : Nat) : Nat := min (ceilDiv (pressure * 1000) pFull) 1000

/-- The entry of a channel outside E (R61, R78). -/
def Command.outside : Command := ⟨none, 0, 0, 0, 0, none⟩

/-- The entry of a channel in E from its share (R67, R75, R76). -/
def State.commandOf (s : State) (loads : Six Nat) (shares : List (Chan × Nat)) (c : Chan) : Command :=
  if s.eligible c then
    if s.springsApplied c then ⟨some .spring, s.springForce loads c, 0, 0, 0, some (s.avail c)⟩
    else
      let share := shareIn shares c
      if share = 0 then ⟨some .idle, 0, 0, 0, 0, some (s.avail c)⟩
      else
        let p := pressureOf (s.items c) (s.avail c) share
        ⟨some .service, 0, share, p, dutyOf p (s.items c).pFull.toNat, some (s.avail c)⟩
  else .outside

/-- SHORT after a run (R73). -/
def shortOf (assigned applied frictionTotal : Nat) (anyEligible : Bool) : Option ShortKind :=
  if applied ≤ assigned then none
  else if anyEligible && decide (frictionTotal < applied) then some .traction
  else some .capacity

/-- The distribution a run over a set of loads finds (R63). -/
def State.distribution (s : State) (loads : Six Nat) : Distribution :=
  let cmds := Six.ofFn (s.commandOf loads (s.shares loads))
  let total := (cmds.toList.map fun k => k.spring + k.share).sum
  { caseP := parkLive s.table.records
    cmds := cmds
    total := total
    short := shortOf total s.table.applied (s.inE.map (s.friction loads)).sum (!s.inE.isEmpty) }

/-! ## Commands at a channel (R87, R102) -/

/-- The command differs from the channel's previous command, or the channel had none (R87). -/
def Command.changes (old new : Command) : Bool :=
  old.requested != new.requested || old.pressure != new.pressure || old.duty != new.duty

/-- The outputs and the state a channel takes: latch, duty, state, and whether it is confirmed at once. -/
structure Outputs where
  state : ChanState
  latch : Bool
  duty : Nat
  atOnce : Bool
  deriving DecidableEq, Repr

/-- The state of a requested state. -/
def Requested.state : Requested → ChanState
  | .idle => .idle
  | .service => .service
  | .spring => .spring

/-- The spring latch of a requested state: DE-ENERGIZED for SPRING and for a channel without springs (R82, R87). -/
def Requested.latch (r : Requested) (springs : Bool) : Bool := springs && r != .spring

/-- The outputs of a command under an override (R87, R102). `frozen` is the duty that FAILSAFE with action HOLD_LAST
holds. -/
def outputsOf (v : ChannelItems) (override : Override) (r : Requested) (duty frozen : Nat) : Outputs :=
  match override with
  | .none => ⟨r.state, r.latch v.springs, if r = .service then duty else 0, false⟩
  | .zero => ⟨if r = Requested.spring then .spring else .idle, r.latch v.springs, 0, false⟩
  | .failsafe =>
    if v.holdsLast then
      ⟨if r = Requested.spring then .spring else if 0 < frozen then .service else .idle, r.latch v.springs, frozen,
        r != .spring⟩
    else ⟨if v.springs then .spring else .idle, false, 0, false⟩

/-- The state is one in which the current tests are made (R93). -/
def ChanState.tested : ChanState → Bool
  | .idle => true
  | .service => true
  | .spring => true
  | _ => false

/-- The current mismatch timer after an event (R93): it runs while latch and current disagree on a channel with springs
in a tested state whose outputs are not forced, from the event at which they begin to disagree. -/
def mismatchTimer (v : ChannelItems) (forced : Bool) (oldLatch : Bool) (ch : Channel) : Timer :=
  if v.springs && ch.state.tested && !forced && ch.latch != ch.current then
    (if ch.mismatch.isRunning && oldLatch == ch.latch then ch.mismatch else .start)
  else .stopped

/-- A channel takes a command, or a change of override, that is a change (R87, R102): its outputs are set and every test
starts afresh. -/
def Channel.command (ch : Channel) (v : ChannelItems) (forced : Bool) (r : Requested) (duty frozen : Nat) : Channel :=
  let o := outputsOf v ch.override r duty frozen
  let next :=
    { ch with
      state := o.state
      latch := o.latch
      dutyBuffer := o.duty
      confirmed := o.atOnce
      drift := .stopped
      window := if o.state = ChanState.spring ∨ o.atOnce then .stopped else .start
      spring := if o.state = ChanState.spring then .start else .stopped }
  { next with mismatch := mismatchTimer v forced ch.latch next }

/-- The records of the channels after a distribution is handed over: each channel in E takes its command if it is a
change, and every one does at wake (R77, R87, R101). Under FAILSAFE with action HOLD_LAST the frozen duty is the buffer, which
the freeze set equal to it (R102); a channel lifted after the freeze had its buffer set to 0 (R98), and one that is lowered
again in SAFE holds that 0: R102 and R161 do not say whether the duty frozen before the lift comes back. DEDUCED (log
entry 20). -/
def State.handOver (s : State) (d : Distribution) (fresh : Bool) : Six Channel := Six.ofFn fun c =>
  let ch := s.chans.get c
  match (d.cmds.get c).requested with
  | some r =>
    if fresh || (s.dist.cmds.get c).changes (d.cmds.get c) then
      ch.command (s.items c) s.forced r (d.cmds.get c).duty ch.dutyBuffer
    else ch
  | none => ch

/-! ## The report of confirmation (R9, R88, R131) -/

/-- Every creep counter goes to 0 and every reached mark is cleared (R126, R128). -/
def Monitor.zeroCounters (m : Monitor) : Monitor :=
  { m with wheels := Six.ofFn fun c => { m.wheels.get c with creep := 0, reached := false } }

/-- The distribution in force is confirmed: E is not empty and every channel in E is confirmed (R9). -/
def State.distConfirmed (s : State) : Bool :=
  !s.inE.isEmpty && s.inE.all fun c => (s.chans.get c).confirmed

/-- The record is the ROLLAWAY record. -/
def Record.isRollaway (r : Record) : Bool := r.cause == some .rollaway

/-- The ROLLAWAY record's passage to HELD: counters to 0, stage SECURED (R131). -/
def Monitor.secure (m : Monitor) : Monitor := { m.zeroCounters with stage := .secured }

/-- An ENGAGING record moves to HELD (R9). -/
def Record.hold (r : Record) : Record := if r.state = .engaging then { r with state := .held } else r

/-- Every ENGAGING record moves to HELD (R9), the ROLLAWAY record with its passage (R131). -/
def State.engagingToHeld (s : State) : State :=
  let passes := s.table.records.any fun r => r.isRollaway && r.state == .engaging
  let t := s.withTable { s.table with records := s.table.records.map Record.hold }
  if passes then t.withMon t.mon.secure else t

/-- The check of R9 and the report of R88: where the distribution in force is confirmed, ENGAGING records move to
HELD. -/
def State.reportConfirmed (s : State) : State := if s.distConfirmed then s.engagingToHeld else s

/-- SHORT changes from clear to set at a run, which raises the critical SHORT notice (R74). -/
def State.raiseShort (s : State) (before : Option ShortKind) : State :=
  if before.isNone && s.dist.short.isSome then s.raise .short else s

/-- A run of the Distribution Unit over a set of loads (R63); `fresh` where every command counts as a change (R101). -/
def State.distributeWith (s : State) (loads : Six Nat) (fresh : Bool) : State :=
  let d := s.distribution loads
  (((s.withChans (s.handOver d fresh)).withDist d).raiseShort s.dist.short).reportConfirmed

/-- A run of the Distribution Unit over the loads in force. -/
def State.distribute (s : State) : State := s.distributeWith s.meas.loads false

/-! ## The applied requirement A -/

/-- The relief timer after an offer taken without a hold-set change (R30). -/
def reliefAfter (relief : Timer) (fReq applied : Nat) : Timer :=
  if fReq * 100 ≤ applied * 80 then (if relief.isRunning then relief else .start) else .stopped

/-- A set to a new value, which is handed to the Distribution Unit if it changes (R31). -/
def State.applyForce (s : State) (a : Nat) : State :=
  let t := s.withTable { s.table with applied := a }
  if a = s.table.applied then t else t.distribute

/-- An offer of F_req taken without a hold-set change (R28, R29, R30). -/
def State.offer (s : State) : State :=
  let f := s.force.fReq
  let t := s.withTable { s.table with relief := reliefAfter s.table.relief f s.table.applied }
  t.applyForce (max f s.table.applied)

/-- A run of the Force Calculator with its offer, no hold-set change (R46, R47). -/
def State.runAndOffer (s : State) : State := s.runForce.offer

/-- A hold-set change with its offer (R7, R28, R48): A becomes the F_req over the table as it stands, the relief timer
stops, and the Distribution Unit runs if A changed or a PARK hold came or went (R62). `parkBefore`: a PARK hold was live
before the change. -/
def State.holdSetChange (s : State) (parkBefore : Bool) : State :=
  let t := s.runForce
  let u := t.withTable { t.table with applied := t.force.fReq, relief := .stopped }
  if u.table.applied = s.table.applied ∧ parkLive u.table.records = parkBefore then u else u.distribute

end Sys2Proof.Machine
end

