-- ==== Sys2Proof/Machine/Holding.lean ====
section
/-! DEFINITION. The Hold Table's openings and retirements (Chapter 1), the Release Gate (Chapter 6), the fault of a
channel (5.5), autopark and the pendant (7.5, 7.6), and what every event that may change the holds ends with. -/

namespace Sys2Proof.Machine

/-! ## Handles and records -/

/-- Some live record holds the handle. -/
def handleUsed (records : List Record) (h : Nat) : Bool := records.any fun r => r.handle == h

/-- The handle counter advanced by one, with 255 followed by 1 (R5). -/
def nextAfter (h : Nat) : Nat := if 255 ≤ h then 1 else h + 1

/-- The first handle from the counter on that no live record holds (R5), within a number of tries. -/
def freeHandle (records : List Record) : (tries start : Nat) → Nat
  | 0, h => h
  | tries + 1, h => if handleUsed records h then freeHandle records tries (nextAfter h) else h

/-- The handle the next opening is given (R5). -/
def HoldTable.newHandle (t : HoldTable) : Nat := freeHandle t.records 255 t.nextHandle

/-- The record that a handle names. -/
def State.record (s : State) (h : Nat) : Option Record := s.table.records.find? fun r => r.handle == h

/-- The table with the record of a handle changed; its place is kept (R3). -/
def updateRecord (records : List Record) (h : Nat) (f : Record → Record) : List Record :=
  records.map fun r => if r.handle = h then f r else r

/-- The record is RELEASING. -/
def Record.isReleasing (r : Record) : Bool := r.state == .releasing

/-- How many records belong to an owner, in every state (R13). -/
def ownedBy (records : List Record) (o : Owner) : Nat := (records.filter fun r => r.owner == o).length

/-- How many records belong to owners other than MONITOR (R4). -/
def nonMonitorCount (records : List Record) : Nat := (records.filter fun r => r.owner != .monitor).length

/-- The per-owner limit (R4); MONITOR records are limited by their causes. -/
def Owner.limit : Owner → Nat
  | .cab => 6
  | .drum => 6
  | .service => 2
  | .pendant => 1
  | .monitor => 4

/-! ## Retirement -/

/-- What the Standstill Monitor does when records are retired: a ROLLAWAY record resets the stage (R133), an AUTOPARK
record sets the inhibit (R139). -/
def Monitor.retired (m : Monitor) (gone : List Record) : Monitor :=
  let m1 := if gone.any Record.isRollaway then { m.zeroCounters with stage := .none, tractionLost := false } else m
  if gone.any fun r => r.cause == some .autopark then { m1 with inhibit := true } else m1

/-- The standstill reference is set: HOLDING, counters 0, watch-after stopped (R126). -/
def Monitor.setReference (m : Monitor) : Monitor := { m.zeroCounters with ref := .holding, watchAfter := .stopped }

/-- The standstill reference is dropped: CLEAR, counters 0, watch-after stopped (R126). -/
def Monitor.dropReference (m : Monitor) : Monitor := { m.zeroCounters with ref := .clear, watchAfter := .stopped }

/-- The watch-after begins: WATCH, its timer from 0, counters kept (R126, R127). -/
def Monitor.beginWatch (m : Monitor) : Monitor := { m with ref := .watch, watchAfter := .start }

/-- The Standstill Monitor is told that the table was emptied, by a drive-off or by another path (R126). -/
def Monitor.emptied (m : Monitor) (driveOff : Bool) : Monitor := if driveOff then m.dropReference else m.beginWatch

/-- The retirement of the record of a handle (R12): the record leaves, the hold-set change is taken, and the monitor is
told of a ROLLAWAY or AUTOPARK retirement and of an emptied table. -/
def State.retire (s : State) (h : Nat) (driveOff : Bool) : State :=
  let gone := s.table.records.filter fun r => r.handle == h
  let kept := s.table.records.filter fun r => r.handle != h
  let t := s.withTable { s.table with records := kept }
  let u := (t.withMon (t.mon.retired gone)).holdSetChange (parkLive s.table.records)
  if kept = [] then u.withMon (u.mon.emptied driveOff) else u

/-! ## Opening -/

/-- The gate in IDLE: armed handle 0, timer stopped, suspension clear (R106). -/
def Gate.idle : Gate := ⟨false, 0, none, false, false⟩

/-- An opening as one event (R14, R25, R26): the record made for the new handle is appended, every RELEASING record is
retired and the gate goes IDLE (R118), the hold-set change is taken, the reference is set if the table was empty, and
the check of R9 is made. -/
def State.openRecord (s : State) (make : Nat → Record) : State :=
  let h := s.table.newHandle
  let gone := s.table.records.filter Record.isReleasing
  let kept := s.table.records.filter fun r => !r.isReleasing
  let t := s.withTable { s.table with records := kept ++ [make h], nextHandle := nextAfter h }
  let u := (t.withMon (t.mon.retired gone)).withGate (if gone = [] then t.gate else .idle)
  let v := u.holdSetChange (parkLive s.table.records)
  (if s.table.records = [] then v.withMon v.mon.setReference else v).reportConfirmed

/-- The record of a MONITOR opening (R25). -/
def monitorRecord (c : Cause) (h : Nat) : Record := ⟨h, .monitor, .park, .engaging, some c, none, none, false⟩

/-- The record of a pendant opening (R26). -/
def pendantRecord (h : Nat) : Record := ⟨h, .pendant, .firm, .engaging, none, none, none, false⟩

/-- A MONITOR opening of a cause (R25): nothing if a record of the cause is live; otherwise the opening with its HOLDS
notice. -/
def State.monitorOpening (s : State) (c : Cause) : State :=
  if s.hasCause c then s
  else (s.openRecord (monitorRecord c)).raiseHolds s.table.newHandle .none

/-- The START opening at a reset, which raises no notice (R6). -/
def State.startOpening (s : State) : State := s.openRecord (monitorRecord .start)

/-! ## The Release Gate -/

/-- The gate is suspended (R106, R114). -/
def Gate.suspended (g : Gate) : Bool := g.supplyCause || g.modeCause

/-- The gate condition (R108). -/
def gateCondition (f : Force) (d : Int) (driveMargin deadband : Nat) : Bool :=
  if f.fGrade ≤ deadband then true
  else if 0 < d then decide ((driveMargin : Int) ≤ d + f.fSigned)
  else if d < 0 then decide (d + f.fSigned ≤ -(driveMargin : Int))
  else false

/-- The gate condition over the latest run and the effective drive force (R108). -/
def State.gateMet (s : State) : Bool :=
  gateCondition s.force s.meas.drive s.vehicle.driveMargin.toNat s.vehicle.deadband.toNat

/-- A drive-off (R116): the record is retired, the reference dropped, the gate IDLE, HOLDS raised. -/
def State.driveOff (s : State) : State :=
  ((s.retire s.gate.handle true).withGate .idle).raiseHolds s.gate.handle .none

/-- The gate evaluates its condition while ARMED and not suspended (R109). -/
def State.gateEvaluate (s : State) : State :=
  if s.gate.armed && !s.gate.suspended && s.gateMet then s.driveOff else s

/-- The supply cause of suspension holds (R112): the gate is ARMED over a PARK record and a spring channel in E has its
circuit supply-low. -/
def State.supplyCauseHolds (s : State) : Bool :=
  s.gate.armed &&
    ((s.record s.gate.handle).any fun r => r.cls == .park) &&
    s.inE.any fun c => (s.items c).springs && s.lowSupply c

/-- The gate decides its supply cause afresh (R112, R114): a beginning or an end raises SUPPLY, and the end of the last
cause lets the gate evaluate (R115). -/
def State.gateDecide (s : State) : State :=
  if s.gate.armed then
    let holds := s.supplyCauseHolds
    if holds = s.gate.supplyCause then s
    else
      let t := (s.withGate { s.gate with supplyCause := holds }).raise .supply
      if holds then t else t.gateEvaluate
  else s

/-- The gate is armed over a record (R107). -/
def State.gateArm (s : State) (h : Nat) : State :=
  let t := s.withGate ⟨true, h, some (Config.ms s.vehicle.releaseTimeout.toNat), false, s.ctl.mode != .run⟩
  t.gateDecide.gateEvaluate

/-- Every RELEASING record returns to HELD (R11). -/
def Record.backToHeld (r : Record) : Record := if r.state = .releasing then { r with state := .held } else r

/-- The return of the RELEASING record to HELD (R11); a ROLLAWAY record caught while ENGAGING makes its passage then
(R131). -/
def State.returnToHeld (s : State) : State :=
  let passes := s.mon.stage == .caught && s.table.records.any fun r => r.isRollaway && r.isReleasing
  let t := s.withTable { s.table with records := s.table.records.map Record.backToHeld }
  if passes then t.withMon t.mon.secure else t

/-- A release that fails (R117, R119): the record returns to HELD, the gate goes IDLE, HOLDS is raised with a reason. -/
def State.releaseFails (s : State) (reason : Reason) : State :=
  (s.returnToHeld.withGate .idle).raiseHolds s.gate.handle reason

/-- Entry into DEGRADED or SAFE cancels an armed release (R119). A release suspended by its supply cause is cancelled with
HOLDS alone: the cause has not ended, its gate has, and SUPPLY is not raised (R114). DEDUCED (log entry 38). -/
def State.gateCancel (s : State) : State := if s.gate.armed then s.releaseFails .mode else s

/-- Entry into RUN ends the mode cause of suspension (R113); the end of the last cause lets the gate evaluate (R115). -/
def State.gateEnterRun (s : State) : State :=
  if s.gate.armed && s.gate.modeCause then (s.withGate { s.gate with modeCause := false }).gateEvaluate else s

/-- A taken release of a live record (R19, R27): nothing for a RELEASING record; retirement where another live record is
not RELEASING; otherwise the record enters RELEASING and the gate is armed. -/
def State.release (s : State) (r : Record) : State :=
  if r.isReleasing then s
  else if s.table.records.any fun x => x.handle != r.handle && !x.isReleasing then s.retire r.handle false
  else
    (s.withTable
      { s.table with records := updateRecord s.table.records r.handle fun x => { x with state := .releasing } }
    ).gateArm r.handle

/-! ## The fault of a channel -/

/-- The fail-safe action of a faulting channel (R96), and the fields a fault sets (R95 steps 1 to 3). -/
def Channel.fault (ch : Channel) (v : ChannelItems) (cause : FaultCause) : Channel :=
  { ch with
    state := .faulted
    cause := some cause
    latch := v.holdsLast && ch.latch
    dutyBuffer := if v.holdsLast then ch.dutyInForce else 0
    confirmed := false
    window := .stopped
    drift := .stopped
    spring := .stopped
    mismatch := .stopped }

/-- The loads and the weight follow a change of a channel's state (R39, R40), the Distribution Unit runs, and the gate
decides its supply cause (R62, R112). -/
def State.eligibilityChanged (s : State) : State := s.deriveWeight.distribute.gateDecide

/-- The entry of a channel into FAULTED (R95). -/
def State.faultChannel (s : State) (c : Chan) (cause : FaultCause) : State :=
  ((s.withChan c ((s.chans.get c).fault (s.items c) cause)).raise .channel).distribute.gateDecide

/-! ## Autopark -/

/-- The autopark condition (R138, R139). -/
def State.autoparkMet (s : State) : Bool :=
  s.mon.autopark.hasRunOut && !parkLive s.table.records &&
    match s.ctl.mode with
    | .run => !s.mon.driverPresent && !s.mon.inhibit
    | .degraded => true
    | _ => false

/-- The autopark condition is evaluated; when it is met, the AUTOPARK opening is made (R138). -/
def State.autoparkEvaluate (s : State) : State := if s.autoparkMet then s.monitorOpening .autopark else s

/-! ## The pendant -/

/-- The pair state asks for a hold: ASKING or LINE_FAULT (R140). -/
def PairState.asks : PairState → Bool
  | .notAsking => false
  | _ => true

/-- The pair state of a combination of PA and PB (R140). -/
def pairOf (pa pb : Bool) : PairState :=
  match pa, pb with
  | true, false => .asking
  | false, true => .notAsking
  | _, _ => .lineFault

/-- The live PENDANT record. -/
def State.pendantLive (s : State) : Option Record := s.table.records.find? fun r => r.owner == .pendant

/-- No PENDANT record is live, or the live one is RELEASING (R26, R141). -/
def State.pendantFree (s : State) : Bool := s.pendantLive.all Record.isReleasing

/-- A pendant opening wanted later (R141). -/
def State.want (s : State) (w : PendantWant) : State := s.withMon { s.mon with pendantWant := w }

/-- A pendant opening is tried (R26): made where there is room, and otherwise owed, with a FULL notice once for each time
the line comes to ask (`told`). -/
def State.pendantTry (s : State) (told : Bool) : State :=
  if nonMonitorCount s.table.records < 12 then (s.openRecord pendantRecord).want .none
  else (if told then s else s.raiseHolds 0 .full).want .untilRoom

/-- A pendant opening where the PENDANT record allows one: at once, or when the truck stops moving (R141). -/
def State.pendantOpen (s : State) (told : Bool) : State :=
  if s.pendantFree then
    (if s.mon.motion = .moving then s.want (.untilStill told) else s.pendantTry told)
  else s.want .none

/-- The line stops asking (R142, R27): what is owed is given up, and a live PENDANT record is released, but for SAFE. -/
def State.pendantStop (s : State) : State :=
  let t := s.want .none
  match t.pendantLive with
  | some r => if t.ctl.mode = .safe then t else t.release r
  | none => t

/-- A retry owed for lack of room, after a record of an owner other than MONITOR is retired (R26, R141). -/
def State.pendantRetry (s : State) : State :=
  if s.mon.pendantWant = .untilRoom ∧ s.lines.pair.asks then s.pendantOpen true else s

/-! ## The end of an event -/

/-- The holds as a hold-set change sees them: which are live, and of what class (R7). -/
def holdSet (records : List Record) : List (Nat × HoldClass) := records.map fun r => (r.handle, r.cls)

/-- A record of an owner other than MONITOR has been retired since an earlier table (R26, R141). A handle that is free again
may be the next one given (R5), so the record is known by its handle and its owner: within one event only the part's own
AUTOPARK opening can take a handle retired in that event. -/
def retiredSince (before after : List Record) : Bool :=
  before.any fun r => r.owner != .monitor && !(after.any fun x => x.handle == r.handle && x.owner == r.owner)

/-- What an event that began in the state `before` ends with: a hold-set change that leaves no PARK record live has
autopark evaluated (R138), a retirement of a record of an owner other than MONITOR has an owed pendant opening retried
(R26), and WARN follows its causes (R144). DEDUCED (log entry 14): R7 and R48 speak of one event's hold-set changes, and
R12, R25 and R26 give a retirement and each opening a change of its own; an AUTOPARK or PENDANT opening that the event sets
off is here an opening of its own, with its own offer and run after those of the event. -/
def State.conclude (before s : State) : State :=
  let t :=
    if holdSet before.table.records ≠ holdSet s.table.records ∧ s.awake then s.autoparkEvaluate else s
  let u := if retiredSince before.table.records t.table.records ∧ t.awake then t.pendantRetry else t
  u.refreshWarn

/-- An event of a powered part, ended by `conclude`; without power nothing happens (R204). -/
def State.event (s : State) (f : State → State) : State := if s.powered then State.conclude s (f s) else s

end Sys2Proof.Machine
end

