-- ==== Sys2Proof/Machine/Modes.lean ====
section
/-! DEFINITION. The Mode Controller's changes of mode and their effect on the other blocks (Chapter 8), the rollaway
stages (7.3), reset, sleep and wake, power loss, and the taking of a request from the link (R148, R163, R179). -/

namespace Sys2Proof.Machine

/-! ## Overrides in SAFE (R102, R161) -/

/-- A channel's override changes (R102): a FAULTED channel keeps it and its outputs, a channel outside E records it, and
a channel in E takes it as a command change. `frozen` is the duty in force at the change. -/
def State.overrideChannel (s : State) (c : Chan) (o : Override) : State :=
  let ch := s.chans.get c
  if ch.state = .faulted ∨ ch.override = o then s
  else
    let next := { ch with override := o }
    match (s.dist.cmds.get c).requested with
    | some r =>
      if s.eligible c then
        s.withChan c (next.command (s.items c) s.forced r (s.dist.cmds.get c).duty ch.dutyInForce)
      else s.withChan c next
    | none => s.withChan c next

/-- Each channel not FAULTED is marked to become FAILSAFE at the start of its next PWM period (R161 step 3). -/
def markFailsafe (chans : Six Channel) : Six Channel := Six.ofFn fun c =>
  let ch := chans.get c
  if ch.state = .faulted then ch else { ch with failsafeMarked := true }

/-- The first standstill in SAFE (R161): the FAILSAFE opening, failsafe done, the overrides marked. -/
def State.firstStandstillInSafe (s : State) : State :=
  let t := s.monitorOpening .failsafe
  let u := t.withCtl { t.ctl with failsafeDone := true }
  u.withChans (markFailsafe u.chans)

/-- The overrides at the entry into SAFE (R161): the first standstill at once, or ZERO until it. -/
def State.safeOverrides (s : State) : State :=
  if s.atStandstill then s.firstStandstillInSafe
  else allChans.foldl (fun t c => t.overrideChannel c .zero) s

/-! ## Changes of mode -/

/-- Entry into SAFE (R160). -/
def State.enterSafe (s : State) : State :=
  let t := (s.withCtl { s.ctl with mode := .safe }).raise .mode
  let u := (t.withCtl
    { t.ctl with timer := .stopped, phase := .none, window := none, sleepPending := false }).stopDeadlines
  u.gateCancel.safeOverrides

/-- Entry into DEGRADED (R156). -/
def State.enterDegraded (s : State) : State :=
  let t := (s.withCtl { s.ctl with mode := .degraded }).raise .mode
  let u := (t.withCtl
    { t.ctl with timer := .start, phase := .awaitResync, window := none, sleepPending := false }).stopDeadlines
  u.gateCancel.autoparkEvaluate

/-- A supervision fault in RUN (R152): the degradation count rises, and the part enters SAFE at 3, else DEGRADED. -/
def State.supervisionFault (s : State) : State :=
  let t := s.withCtl { s.ctl with degradations := s.ctl.degradations + 1 }
  if 3 ≤ t.ctl.degradations then t.enterSafe else t.enterDegraded

/-- P, the keepalive period of the working profile, in milliseconds (R150). -/
def State.period (s : State) : Nat := s.vehicle.keepalivePeriod.toNat

/-- The window after a keepalive accepted now: from P/2 to P (R150). -/
def State.nextWindow (s : State) : Window := ⟨s.now + Config.ms s.period / 2, s.now + Config.ms s.period⟩

/-- The expected token answer is 255 − t (R149). -/
def State.expectedAnswer (s : State) : Byte := 255 - s.ctl.token

/-- An accepted keepalive advances t by 37 (R149). -/
def State.advanceToken (s : State) : State := s.withCtl { s.ctl with token := s.ctl.token + 37 }

/-- Entry into RUN (R155). -/
def State.enterRun (s : State) : State :=
  let t := (s.withCtl { s.ctl with timer := .stopped, mode := .run }).raise .mode
  let u := t.withCtl { t.ctl with phase := .wait, window := some t.nextWindow }
  u.startDeadlines.gateEnterRun.autoparkEvaluate

/-- The clock monitor finds a failure (R168): FAILED, the outputs forced, and SAFE. -/
def State.clockFailure (s : State) : State :=
  let t := s.withCtl { s.ctl with clock := .failed }
  let u := t.withChans (Six.ofFn fun c => { t.chans.get c with mismatch := .stopped })
  if u.ctl.mode = .safe then u.raise .mode else u.enterSafe

/-! ## Rollaway (7.3) -/

/-- The first rollaway (R130). The stage is CAUGHT before the opening, so that a record that moves to HELD within the
opening leaves it SECURED (the note of R130). -/
def State.firstRollaway (s : State) : State :=
  ((s.withMon { s.mon with stage := .caught }).monitorOpening .rollaway).raise .rollaway

/-- The collection mark of the ROLLAWAY record is set to a value (R18). -/
def State.markCollected (s : State) (b : Bool) : State :=
  s.withTable
    { s.table with records := s.table.records.map fun r => if r.isRollaway then { r with collected := b } else r }

/-- The second rollaway (R132). -/
def State.secondRollaway (s : State) : State :=
  let t := ((s.withMon { s.mon with tractionLost := true }).raise .rollaway).markCollected false
  t.withMon { t.mon with stage := .lost }

/-- A limit pulse acts by the stage (R129). -/
def State.limitPulse (s : State) : State :=
  match s.mon.stage with
  | .none => s.firstRollaway
  | .caught => s
  | .secured => s.secondRollaway
  | .lost => s

/-! ## What a reset and a wake set -/

/-- The time to the first PWM period start of a channel: c − 1 ms after a reset or a wake (R85). -/
def firstPwm (c : Chan) : Option Nat := some (Config.ms c.val)

/-- The raw level of a lift line. -/
def Lines.lift (l : Lines) : LiftLine → Line
  | .lift1 => l.lift1
  | .lift2 => l.lift2

/-- A line takes the level it reads, without debouncing (R83, R101, R137). -/
def Line.settle (l : Line) : Line := ⟨l.raw, l.raw, .stopped⟩

/-- Every line and the pendant pair take what they read (R83, R101, R137, R143). -/
def Lines.settle (l : Lines) : Lines where
  seat := l.seat.settle
  door := l.door.settle
  lift1 := l.lift1.settle
  lift2 := l.lift2.settle
  pa := l.pa
  pb := l.pb
  pair := pairOf l.pa l.pb
  pairDebounce := .stopped

/-- The debounced level of the lift line a channel names; false where it names none. -/
def State.liftLevel (s : State) (c : Chan) : Bool :=
  match (s.items c).line with
  | some line => (s.lines.lift line).level
  | none => false

/-- A channel's record as a reset rebuilds it from the profile and the lift level (R83). The spring current is an input
and keeps what the line shows. -/
def Channel.rebuilt (v : ChannelItems) (raised current : Bool) (c : Chan) : Channel :=
  let state : ChanState :=
    if !v.isFitted then .absent
    else if v.line.isSome && raised then .lifted
    else if v.springs then .spring
    else .idle
  { state := state
    confirmed := false
    dutyBuffer := 0
    dutyInForce := 0
    latch := false
    current := current
    cause := none
    override := .none
    failsafeMarked := false
    lift := raised
    window := .stopped
    drift := .stopped
    spring := if state = .spring then .start else .stopped
    mismatch := .stopped
    pwm := firstPwm c }

/-- The sensors, circuits and reports as a wake finds them (R34, R38, R41, R43), the first sample set 10 ms away (R32). -/
def Measure.wake (m : Measure) (minSupply : Nat) : Measure :=
  { m.endStandstill with
    psv := Six.const .unread
    psu := Six.const .unread
    supplyA := Supply.derive .unread minSupply
    supplyB := Supply.derive .unread minSupply
    driveAge := .stopped
    awaitsFirstSample := true
    sampleTimer := .start }

/-- The Measurement Unit's reset values (R34, R38, R43, R44); loads and weight are derived after it. -/
def Measure.reset (m : Measure) (minSupply : Nat) : Measure :=
  { m.wake minSupply with
    grade := 600
    forced := false
    driveForce := 0
    gear := .neutral
    drum := .mix
    cRep := none
    awaitsFirstSample := false }

/-- The distribution after a reset, before its first run (R61). -/
def Distribution.empty : Distribution := ⟨false, Six.const Command.outside, 0, none⟩

/-- The Standstill Monitor's reset values (R125, R126, R129, R137 to R139, R144, R145). WARN is OFF here, so a PULSE that the
reset's own causes call for starts its period afresh, with its on half, also at a soft reset that came upon a PULSE (R144,
R166). DEDUCED (log entry 39). -/
def Monitor.reset (seatOccupied : Bool) : Monitor where
  wheels := Six.const ⟨none, 0, false⟩
  standstill := .start
  moving := none
  motion := .creeping
  ref := .clear
  watchAfter := .stopped
  stage := .none
  tractionLost := false
  driverPresent := seatOccupied
  seatTimer := .stopped
  autopark := .stopped
  inhibit := false
  pendantWant := .none
  train := .stopped
  warn := .off

/-- The Mode Controller's reset values (R146). DESIGN CHOICE (log entry 42): the new measurement of the clock monitor counts
from the reset. -/
def Control.reset : Control := ⟨.start, 0, 0, .first, none, .start, false, false, .measuring 0⟩

/-- The Link Interface's reset values: slot idle, notices cleared, every enable set (R166, R181, R185). -/
def Link.reset : Link := ⟨.idle, 0, 0xFF, 0, .none, .stopped, .stopped⟩

/-- The hold table emptied by a reset (R6). -/
def HoldTable.reset : HoldTable := ⟨[], 1, 0, .stopped, 0⟩

/-- The profile is loaded (R192): the image where it is accepted, and otherwise the built-in set. -/
def Store.load (p : Store) : Store :=
  if p.mark && p.image.crc == p.crc && p.image.inRanges && p.image.constraints then
    { p with working := p.image, invalid := false }
  else { p with working := .builtIn, invalid := true }

/-- The pendant pair as a reset or a wake finds it (R143). -/
def State.pendantAsRead (s : State) : State :=
  if s.lines.pair.asks then
    (if s.lines.pair = .lineFault then s.raise .sensor else s).pendantOpen false
  else s.pendantStop

/-- The reset sequence, in the order of R166: profile, mode, link, channels, measurement and distribution, gate, monitor,
the emptied table with its START opening, and the pendant pair. -/
def State.resetSequence (s : State) : State :=
  let s1 := (s.withStore s.store.load).withLines s.lines.settle
  let s2 := (s1.withCtl .reset).withLink .reset
  let s3 := s2.withChans (Six.ofFn fun c =>
    Channel.rebuilt (s2.items c) (s2.liftLevel c) (s2.chans.get c).current c)
  let s4 := ((s3.withMeas (s3.meas.reset s3.vehicle.minSupply.toNat)).deriveWeight).withDist .empty
  let s5 := (s4.withGate .idle).withMon (.reset s4.lines.seat.level)
  ((s5.withTable .reset).startOpening.pendantAsRead).refreshWarn

/-- Soft reset (R166). -/
def State.softReset (s : State) : State := s.resetSequence

/-- A loss of power (R204): the part's activity ends, and a commit in flight is lost with its image partly rewritten. -/
def State.losePower (s : State) : State :=
  let t := { s with powered := false }
  if s.store.commit.isSome then
    { (t.withStore
        { t.store with commit := none, image := .ofValues fun i => Config.tornItem s.freeCount i }) with
      freeCount := s.freeCount + 1 }
  else t

/-- Power-on reset (R167): as a soft reset, leaving SAFE and lifting the clock monitor's forcing. A commit that was in
flight is lost as at a loss of power (R190, R203). -/
def State.powerOn (s : State) : State :=
  let t := if s.store.commit.isSome then s.losePower else s
  { t with powered := true }.resetSequence

/-! ## Sleep and wake -/

/-- The conditions under which SLEEP is taken and entered (R162). -/
def State.sleepConditions (s : State) : Bool :=
  s.atStandstill &&
    (s.table.records.any fun r => r.cls == .park && r.state == .held) &&
    (s.table.records.all fun r => r.state != .engaging) &&
    !s.gate.armed && s.store.commit.isNone

/-- A channel at SLEEP entry: unconfirmed, every timer and the PWM periods stopped (R100). -/
def Channel.sleep (ch : Channel) : Channel :=
  { ch with
    confirmed := false
    window := .stopped
    drift := .stopped
    spring := .stopped
    mismatch := .stopped
    pwm := none }

/-- A line is no longer debounced (R135, R163). -/
def Line.stopDebounce (l : Line) : Line := { l with debounce := .stopped }

/-- No line is debounced in SLEEP (R135, R143, R163). -/
def Lines.sleep (l : Lines) : Lines :=
  { l with
    seat := l.seat.stopDebounce
    door := l.door.stopDebounce
    lift1 := l.lift1.stopDebounce
    lift2 := l.lift2.stopDebounce
    pairDebounce := .stopped }

/-- Entry into SLEEP (R163). -/
def State.enterSleep (s : State) : State :=
  let t := (s.withCtl
    { s.ctl with
      mode := .sleep
      sleepPending := false
      phase := .none
      window := none
      timer := .stopped
      clock := .stopped }).stopDeadlines
  let t := t.withMeas { t.meas with sampleTimer := .stopped }
  let u := (t.withTable { t.table with relief := .stopped }).withChans (Six.ofFn fun c => (t.chans.get c).sleep)
  (u.withLines u.lines.sleep).withMon { u.mon with seatTimer := .stopped, train := .stopped }

/-- A channel with the outputs a lift gives it: LIFTED, DE-ENERGIZED, duty 0, unconfirmed, every timer stopped (R98). -/
def Channel.lifted (ch : Channel) : Channel :=
  { ch with
    state := .lifted
    latch := false
    dutyBuffer := 0
    confirmed := false
    cause := none
    window := .stopped
    drift := .stopped
    spring := .stopped
    mismatch := .stopped }

/-- A channel that joins E and is about to take its command: no command before it, no fault, every timer stopped
(R99, R103, R104). -/
def Channel.joining (ch : Channel) : Channel :=
  { ch with
    state := .idle
    confirmed := false
    cause := none
    window := .stopped
    drift := .stopped
    spring := .stopped
    mismatch := .stopped }

/-- A channel takes a lift level (R98, R99): a raised line lifts it, a lowered line lets a LIFTED channel join; a FAULTED
or ABSENT channel records the level alone (R97). -/
def Channel.takeLift (ch : Channel) (raised : Bool) : Channel :=
  let next := { ch with lift := raised }
  if raised && ch.state.tested then next.lifted
  else if !raised && ch.state == .lifted then next.joining
  else next

/-- A channel at wake (R101): its PWM periods start again, and it takes the level its lift line reads; a FAULTED channel
keeps its recorded lift level. DEDUCED (log entry 6): the line itself takes the level it reads in every case. -/
def Channel.wake (ch : Channel) (line : Option LiftLine) (raised : Bool) (c : Chan) : Channel :=
  let next := { ch with pwm := firstPwm c }
  if line.isNone ∨ ch.state = .faulted then next else next.takeLift raised

/-- Wake (R164), up to the event that caused it. DESIGN CHOICE (log entry 42): the new measurement of the clock monitor counts
from the wake. -/
def State.wakeUp (s : State) : State :=
  let s1 := (s.withCtl
    { s.ctl with
      mode := .start
      timer := .start
      token := 0
      phase := .first
      window := none
      clock := .measuring 0 }).raise .mode
  let s2 := ((s1.place .idle).withLines s1.lines.settle)
  let s3 := s2.withMeas (s2.meas.wake s2.vehicle.minSupply.toNat)
  let s4 := s3.withChans (Six.ofFn fun c => (s3.chans.get c).wake (s3.items c).line (s3.liftLevel c) c)
  let s5 := s4.deriveWeight
  let s6 := s5.distributeWith s5.meas.loads true
  (s6.withMon { s6.mon with driverPresent := s6.lines.seat.level, seatTimer := .stopped }).pendantAsRead

/-! ## Taking a request -/

/-- The requests of R148. -/
inductive Request where
  | ident
  | status
  | noticeMask
  | keepalive
  | resync
  | sleep
  | reset
  | openHold
  | amendHold
  | releaseHold
  | readHold
  | listHolds
  | driveState
  | drumState
  | readMeasure
  | readChannel
  | channelRestore
  | profileRead
  | profileWrite
  | profileCommit
  deriving DecidableEq, Repr

/-- The request code (9.4). -/
def Request.code : Request → Byte
  | .ident => 0x01
  | .status => 0x02
  | .noticeMask => 0x03
  | .keepalive => 0x10
  | .resync => 0x11
  | .sleep => 0x12
  | .reset => 0x13
  | .openHold => 0x20
  | .amendHold => 0x21
  | .releaseHold => 0x22
  | .readHold => 0x23
  | .listHolds => 0x24
  | .driveState => 0x30
  | .drumState => 0x31
  | .readMeasure => 0x32
  | .readChannel => 0x40
  | .channelRestore => 0x41
  | .profileRead => 0x50
  | .profileWrite => 0x51
  | .profileCommit => 0x52

/-- The mode admits the request to its own rule (R148); otherwise it is refused MODE. -/
def Request.admitted (r : Request) (m : Mode) : Bool :=
  match r with
  | .ident => true
  | .status => true
  | .noticeMask => m != .degraded && m != .safe
  | .keepalive => m != .safe
  | .resync => m == .degraded
  | .sleep => m == .run
  | .reset => m == .run || m == .degraded
  | .openHold => m != .degraded && m != .safe
  | .amendHold => m != .degraded && m != .safe
  | .releaseHold => m != .degraded && m != .safe
  | .readHold => true
  | .listHolds => true
  | .driveState => m != .degraded && m != .safe
  | .drumState => m != .degraded && m != .safe
  | .readMeasure => true
  | .readChannel => true
  | .channelRestore => m != .degraded && m != .safe
  | .profileRead => true
  | .profileWrite => m != .degraded && m != .safe
  | .profileCommit => m != .degraded && m != .safe

/-- The end of an exchange (R163, R164, R169): without power nothing happens; in SLEEP the exchange's chip select wakes
the part and its request is discarded; while sleep is pending the conditions of R162 are checked again and, where they
hold, the part enters SLEEP and the request is discarded; otherwise the request is taken by `take`. -/
def State.exchange (s : State) (take : State → State) : State :=
  if !s.powered then s
  else if s.ctl.mode = .sleep then State.conclude s s.wakeUp
  else if s.ctl.sleepPending then
    (if s.sleepConditions then State.conclude s s.enterSleep
     else take (s.withCtl { s.ctl with sleepPending := false }))
  else take s

/-- A request with a good check byte and a known code (R179): refused MODE by R148, or handed to the rule that owns it. -/
def State.request (s : State) (r : Request) (own : State → State) : State :=
  s.exchange fun t => if r.admitted t.ctl.mode then own t else t.refuse r.code .mode

end Sys2Proof.Machine
end

