-- ==== Sys2Proof/Machine/LinkFamily.lean ====
section
/-! DEFINITION. The meanings of the link's own requests and of exchanges that carry no request (9.1 to 9.7), and of power-on
reset and loss of power. -/

namespace Sys2Proof.Machine

/-- The outcome of a command of this part. -/
abbrev Result := Host.Outcome State Fault Refusal

/-- POWER_ON_RESET (R167). -/
def execPowerOnReset (s : State) : Result := .next s.powerOn

/-- POWER_LOSS (R204); a part without power stays as it is. -/
def execPowerLoss (s : State) : Result := .next (if s.powered then s.losePower else s)

/-- IDLE_REQUEST (R177): the idle answer, and no other change. -/
def execIdleRequest (s : State) : Result := .next (s.exchange fun t => t.place .idle)

/-- BADFRAME (R176): the BADFRAME answer, and no other change. -/
def execBadframe (echo : Byte) (s : State) : Result := .next (s.exchange fun t => t.refuse echo .badframe)

/-- SHORT_EXCHANGE (R170): the BADFRAME answer echoing the first byte received, 00h if there was none. -/
def execShortExchange (received : List Byte) (s : State) : Result :=
  .next (s.exchange fun t => t.refuse (received.getD 0 0) .badframe)

/-- UNKNOWN_REQUEST (R178): refused UNKNOWN, and no other change. -/
def execUnknownRequest (code : Byte) (s : State) : Result := .next (s.exchange fun t => t.refuse code .unknown)

/-- IDENT (R188): vendor code, part code, silicon revision and stored profile CRC. -/
def execIdent (s : State) : Result :=
  .next (s.request .ident fun t => t.done 0x01 ([0x5A, 0xB6, 0x03] ++ bytes2 t.store.crc.toNat))

/-- The payload of a STATUS answer (R186, R189). -/
def State.statusPayload (s : State) : List Byte :=
  [s.link.pending,
   s.ctl.mode.code ||| (byteOf s.ctl.degradations <<< 3) ||| flagBit s.mon.tractionLost 5 |||
     flagBit s.store.invalid 6,
   byteOf s.table.records.length ||| (shortCode s.dist.short <<< 5)] ++
    bytes3 s.table.applied ++ [byteOf s.link.lastHandle, s.link.lastReason.code]

/-- What a STATUS does after its snapshot (R186): the reported flags are cleared, a reported ROLLAWAY sets the collection
mark, and the deadline timer of each critical source reported stops. -/
def State.collect (s : State) : State :=
  let t := if s.link.isPending .rollaway then s.markCollected true else s
  t.withLink
    { t.link with
      pending := 0
      rollawayDeadline := if s.link.isPending .rollaway then .stopped else t.link.rollawayDeadline
      shortDeadline := if s.link.isPending .short then .stopped else t.link.shortDeadline }

/-- STATUS (R186). -/
def execStatus (s : State) : Result :=
  .next (s.request .status fun t => (t.done 0x02 t.statusPayload).collect)

/-- NOTICE_MASK (R184): the enable flags of the non-critical sources follow the set; the answer carries the set in
force. -/
def execNoticeMask (enables : Byte) (s : State) : Result :=
  .next (s.request .noticeMask fun t =>
    (t.withLink { t.link with enable := enables ||| criticalBits }).done 0x03 [enables ||| criticalBits])

end Sys2Proof.Machine
end

