-- ==== Sys2Proof/Machine/ChannelFamily.lean ====
section
/-! DEFINITION. The meanings of the axle channels' requests, timers, spring currents, PWM periods and lift lines
(Chapter 5). A timer's expiry acts when the timer has run its time (log entry 2). -/

namespace Sys2Proof.Machine

/-! ## Requests -/

/-- The lift line level code of a channel, 00h without a lift line (R189). -/
def liftCode (v : ChannelItems) (ch : Channel) : Byte :=
  if v.line.isNone then 0 else if ch.lift then 1 else 2

/-- The sensed service pressure with its presence flag in bit 15 (R189). The pressure bits of a sensor that is not VALID are 0:
DESIGN CHOICE (log entry 36), the flag alone tells that it is absent. -/
def sensedPressure (sensor : Sensor) : Nat :=
  match sensor with
  | .valid p => 0x8000 + p
  | _ => 0

/-- The payload of a page of READ CHANNEL (R105, R189); none for a page above 2. -/
def State.channelPage (s : State) (c : Chan) (page : Byte) : Option (List Byte) :=
  let ch := s.chans.get c
  let v := s.items c
  let k := s.dist.cmds.get c
  match page.toNat with
  | 0 =>
    some [ch.state.code, requestedCode k.requested, faultCode ch.cause, v.failSafe.truncate 8, ch.override.code,
      flagBit ch.confirmed 0 ||| flagBit ch.latch 1 ||| flagBit ch.current 2, liftCode v ch]
  | 1 =>
    some (bytes2 k.share ++ bytes2 k.pressure ++ bytes2 (k.availUsed.getD 0) ++
      bytes2 (sensedPressure (s.meas.psv.get c)))
  | 2 =>
    some (bytes2 ch.dutyBuffer ++ bytes2 ch.dutyInForce ++
      [flagByte v.isFitted, v.role.truncate 8, flagByte v.springs, v.circuit.truncate 8])
  | _ => none

/-- READ_CHANNEL (R105). -/
def execReadChannel (channel page : Byte) (s : State) : Result :=
  .next (s.request .readChannel fun t =>
    match (channelOf channel).bind fun c => t.channelPage c page with
    | some bytes => t.done 0x40 bytes
    | none => t.refuse 0x40 .field)

/-- A taken CHANNEL RESTORE (R104): to LIFTED, into FAULTED again with cause SENSOR, or into E. Each of the three makes the
Distribution Unit run and the gate decide its supply cause (R62, R112, R120), also the one that leads to LIFTED and leaves E
as it was. DEDUCED (log entry 37). -/
def State.restore (s : State) (c : Chan) : State :=
  let ch := s.chans.get c
  if (s.items c).line.isSome && ch.lift then (s.withChan c ch.lifted).eligibilityChanged
  else if (s.meas.psv.get c).isInvalid then
    (s.withChan c { ch with cause := none }).faultChannel c .sensor
  else (s.withChan c ch.joining).eligibilityChanged

/-- CHANNEL_RESTORE (R104). -/
def execChannelRestore (channel : Byte) (s : State) : Result :=
  .next (s.request .channelRestore fun t =>
    if t.ctl.mode ≠ .run then t.refuse 0x41 .mode
    else
      match channelOf channel with
      | none => t.refuse 0x41 .field
      | some c =>
        if (t.chans.get c).state ≠ .faulted then t.refuse 0x41 .state
        else State.conclude t ((t.done 0x41 []).restore c))

/-! ## PWM periods -/

/-- The next PWM period of the channel starts now (R85). -/
def State.pwmDue (s : State) (c : Chan) : Bool := (s.chans.get c).pwm == some 0

/-- A SPRING channel whose spring timer has run out is confirmed once its current is ABSENT (R90), with its duty in force
(R85). -/
def Channel.springConfirm (ch : Channel) : Channel :=
  if ch.state = .spring ∧ ch.spring = .ranOut ∧ ch.current = false ∧ ch.dutyInForce = ch.dutyBuffer then
    { ch with confirmed := true }
  else ch

/-- The start of a PWM period (R85): the duty in force takes the buffer, and the override marked by the first standstill
in SAFE becomes FAILSAFE (R161). -/
def State.pwmStart (s : State) (c : Chan) : State :=
  let ch := s.chans.get c
  let next :=
    { ch with dutyInForce := ch.dutyBuffer, pwm := some (Config.ms 5), failsafeMarked := false }.springConfirm
  let t := s.withChan c next
  if ch.failsafeMarked then (t.overrideChannel c .failsafe).reportConfirmed
  else if next.confirmed && !ch.confirmed then t.reportConfirmed
  else t

/-- PWM_PERIOD_START (R85). -/
def execPwmPeriodStart (channel : Chan) (s : State) : Result :=
  .next (s.event fun t => if t.pwmDue channel then t.pwmStart channel else t)

/-! ## Confirmation and faults -/

/-- The confirmation window of a channel has run 400 ms (R92). -/
def State.windowDue (s : State) (c : Chan) : Bool := (s.chans.get c).window.due 400

/-- The drift timer of a channel has run 400 ms (R92). -/
def State.driftDue (s : State) (c : Chan) : Bool := (s.chans.get c).drift.due 400

/-- The spring timer of a channel has run 600 ms (R90). -/
def State.springDue (s : State) (c : Chan) : Bool := (s.chans.get c).spring.due 600

/-- The current mismatch timer of a channel has run 50 ms (R93). -/
def State.mismatchDue (s : State) (c : Chan) : Bool := (s.chans.get c).mismatch.due 50

/-- The channel is in SERVICE or IDLE, where the PRESSURE faults arise (R92). -/
def ChanState.pressured : ChanState → Bool
  | .idle => true
  | .service => true
  | _ => false

/-- CONFIRMATION_WINDOW_EXPIRY (R92). -/
def execConfirmationWindowExpiry (channel : Chan) (s : State) : Result :=
  .next (s.event fun t =>
    let ch := t.chans.get channel
    if t.windowDue channel then
      (if ch.state.pressured && !ch.confirmed then t.faultChannel channel .pressure
       else t.withChan channel { ch with window := .stopped })
    else t)

/-- DRIFT_TIMER_EXPIRY (R92). -/
def execDriftTimerExpiry (channel : Chan) (s : State) : Result :=
  .next (s.event fun t =>
    let ch := t.chans.get channel
    if t.driftDue channel then
      (if ch.state.pressured then t.faultChannel channel .pressure
       else t.withChan channel { ch with drift := .stopped })
    else t)

/-- SPRING_TIMER_EXPIRY (R90). -/
def execSpringTimerExpiry (channel : Chan) (s : State) : Result :=
  .next (s.event fun t =>
    if t.springDue channel then
      (t.withChan channel { t.chans.get channel with spring := .ranOut }.springConfirm).reportConfirmed
    else t)

/-- A change of a channel's observed spring current in an awake mode: the mismatch timer starts or stops (R93), and a
waiting SPRING channel confirms (R90). -/
def State.currentChange (s : State) (c : Chan) (present : Bool) : State :=
  let ch := { s.chans.get c with current := present }
  let next := { ch with mismatch := mismatchTimer (s.items c) s.forced ch.latch ch }
  (s.withChan c next.springConfirm).reportConfirmed

/-- SPRING_CURRENT_CHANGE (R93). The line shows its current whether or not the part reads it; the tests are made in an
awake mode alone (R100). -/
def execSpringCurrentChange (channel : Chan) (present : Bool) (s : State) : Result :=
  .next
    (if (s.chans.get channel).current = present then s
     else if s.powered ∧ s.awake then State.conclude s (s.currentChange channel present)
     else s.withChan channel { s.chans.get channel with current := present })

/-- CURRENT_MISMATCH_EXPIRY (R93): cause OPEN for an ENERGIZED latch, STUCK for a DE-ENERGIZED one. -/
def execCurrentMismatchExpiry (channel : Chan) (s : State) : Result :=
  .next (s.event fun t =>
    if t.mismatchDue channel then
      t.faultChannel channel (if (t.chans.get channel).latch then .openCoil else .stuck)
    else t)

/-! ## Lift lines -/

/-- The lift lines with one of them at a new debounced level. -/
def Lines.setLift (l : Lines) (line : LiftLine) (raised : Bool) : Lines :=
  match line with
  | .lift1 => { l with lift1 := { l.lift1 with level := raised, debounce := .stopped } }
  | .lift2 => { l with lift2 := { l.lift2 with level := raised, debounce := .stopped } }

/-- A lift line has read a level for 50 ms (R98). -/
def State.liftDue (s : State) (line : LiftLine) (raised : Bool) : Bool :=
  (s.lines.lift line).debounce.due 50 && (s.lines.lift line).raw == raised

/-- The channel is LIFTED and its lowering finds its service sensor INVALID (R99). -/
def State.lowersIntoFault (s : State) (c : Chan) : Bool :=
  (s.chans.get c).state == .lifted && (s.meas.psv.get c).isInvalid

/-- The channel that a debounced change of its lift line leaves: lifted, joining, faulted with cause SENSOR, or with its
level recorded alone (R97, R98, R99). -/
def State.liftChannel (s : State) (raised : Bool) (c : Chan) : Channel :=
  let next := (s.chans.get c).takeLift raised
  if !raised && s.lowersIntoFault c then next.fault (s.items c) .sensor else next

/-- The event that a debounced change of its lift line is at one channel (R98, R99): the channel follows, a fault raises
CHANNEL, and where the channel entered or left E or faulted the Distribution Unit makes a run of this channel's own (R63),
over its load derived afresh (R39). -/
def State.liftOne (s : State) (raised : Bool) (c : Chan) : State :=
  let t := s.withChan c (s.liftChannel raised c)
  let u := if !raised && s.lowersIntoFault c then t.raise .channel else t
  if (s.chans.get c).state = (t.chans.get c).state then u else u.eligibilityChanged

/-- The channels whose profile names a lift line. -/
def State.onLine (s : State) (line : LiftLine) : List Chan := allChans.filter fun c => (s.items c).line == some line

/-- A debounced change of a lift line (R98, R99): the line takes its level, and then every channel on it follows in an event
of its own, two channels on one line with a run each, in an order that the manual leaves open (R63; log entry 3). -/
def State.liftChange (s : State) (line : LiftLine) (raised : Bool) : State :=
  let on := s.onLine line
  let t := s.event fun u =>
    { u with
      lines := u.lines.setLift line raised
      freeCount := if 1 < on.length then u.freeCount + 1 else u.freeCount }
  (arrange s.freeCount on).foldl (fun u c => u.event fun v => v.liftOne raised c) t

/-- LIFT_RAISED (R98). -/
def execLiftRaised (line : LiftLine) (s : State) : Result :=
  .next (if s.liftDue line true then s.liftChange line true else s.event id)

/-- LIFT_LOWERED (R99). -/
def execLiftLowered (line : LiftLine) (s : State) : Result :=
  .next (if s.liftDue line false then s.liftChange line false else s.event id)

end Sys2Proof.Machine
end

