-- ==== Sys2Proof/Machine/HoldFamily.lean ====
section
/-! DEFINITION. The meanings of the hold requests, expiry, relief and the release timer (Chapters 1 and 6). -/

namespace Sys2Proof.Machine

/-! ## OPEN HOLD -/

/-- The checks of OPEN HOLD in their order (R13): the reason of the first that fails. -/
def State.openHoldRefusal (s : State) (o : Option Owner) (k : Option HoldClass) (expiry : Option Nat) :
    Option Reason :=
  if s.ctl.mode ≠ .run then some .mode
  else
    match o, k with
    | some owner, some cls =>
      if (cls = .park ∧ expiry.isSome) ∨ 600 < expiry.getD 0 then some .field
      else if s.mon.motion = .moving then some .moving
      else if 12 ≤ nonMonitorCount s.table.records then some .full
      else if owner.limit ≤ ownedBy s.table.records owner then some .ownerLimit
      else none
    | _, _ => some .field

/-- The record of an OPEN HOLD (R14). -/
def openedRecord (o : Owner) (k : HoldClass) (tag : Option Byte) (expiry : Option Nat) (h : Nat) : Record :=
  ⟨h, o, k, .engaging, none, tag, expiry, false⟩

/-- The rule of OPEN HOLD (R13, R14). -/
def State.openHoldRule (s : State) (o : Option Owner) (k : Option HoldClass) (tag : Option Byte)
    (expiry : Option Nat) : State :=
  match s.openHoldRefusal o k expiry with
  | some reason => s.refuse 0x20 reason
  | none =>
    State.conclude s
      ((s.openRecord (openedRecord (o.getD .cab) (k.getD .park) tag expiry)).done 0x20 [byteOf s.table.newHandle])

/-- OPEN_HOLD (R13). -/
def execOpenHold (owner cls tagFlag tag : Byte) (expiry : Word16) (s : State) : Result :=
  .next (s.request .openHold fun t =>
    t.openHoldRule (requestOwner owner) (classOf cls) (tagOf tagFlag tag) (expiryOf expiry))

/-! ## AMEND HOLD -/

/-- The expiry action carries a value out of 1..600 (R15). -/
def ExpiryAction.badValue : ExpiryAction → Bool
  | .set v => decide (v = 0) || decide (600 < v)
  | _ => false

/-- The expiry after an action (R16). -/
def ExpiryAction.apply (a : ExpiryAction) (old : Option Nat) : Option Nat :=
  match a with
  | .set v => some v
  | .clear => none
  | .keep => old

/-- The checks of AMEND HOLD in their order (R15): the reason of the first that fails, or the record and its change. -/
def State.amendHoldCheck (s : State) (o : Option Owner) (h : Nat) (k : Option HoldClass)
    (action : Option ExpiryAction) : Reason ⊕ (Record × HoldClass × ExpiryAction) :=
  if s.ctl.mode ≠ .run then .inl .mode
  else
    match k, action with
    | some cls, some act =>
      if act.badValue then .inl .field
      else
        match s.record h with
        | none => .inl .noSuch
        | some r =>
          if h = 0 then .inl .noSuch
          else if o ≠ some r.owner then .inl .notOwner
          else if r.isReleasing then .inl .state
          else if cls = .park ∧ (act.apply r.expiry).isSome then .inl .field
          else .inr (r, cls, act)
    | _, _ => .inl .field

/-- A taken AMEND HOLD (R16): the class and the expiry change, and a changed class returns the record to ENGAGING (R10)
with the hold-set change and the check of R9. -/
def State.amend (s : State) (r : Record) (cls : HoldClass) (act : ExpiryAction) : State :=
  let changed := cls != r.cls
  let t := s.withTable
    { s.table with
      records := updateRecord s.table.records r.handle fun x =>
        { x with
          cls := cls
          expiry := act.apply x.expiry
          state := if changed then .engaging else x.state } }
  if changed then (t.holdSetChange (parkLive s.table.records)).reportConfirmed else t

/-- The rule of AMEND HOLD (R15, R16). -/
def State.amendHoldRule (s : State) (o : Option Owner) (h : Nat) (k : Option HoldClass)
    (action : Option ExpiryAction) : State :=
  match s.amendHoldCheck o h k action with
  | .inl reason => s.refuse 0x21 reason
  | .inr (r, cls, act) => State.conclude s ((s.amend r cls act).done 0x21 [byteOf h])

/-- AMEND_HOLD (R15). -/
def execAmendHold (owner handle cls action : Byte) (value : Word16) (s : State) : Result :=
  .next (s.request .amendHold fun t =>
    t.amendHoldRule (requestOwner owner) handle.toNat (classOf cls) (expiryActionOf action value))

/-! ## RELEASE HOLD -/

/-- Whether an owner may release a record, by the ownership table of R17: none where it is taken. -/
def State.releaseVerdict (s : State) (o : Owner) (r : Record) : Option Reason :=
  match r.owner, r.cause with
  | .monitor, some .start => if o = .cab then none else some .notOwner
  | .monitor, some .autopark => if o = .cab then none else some .notOwner
  | .monitor, some .rollaway =>
    if o = .cab then (if r.collected && s.atStandstill then none else some .state) else some .notOwner
  | .monitor, _ => some .notOwner
  | .pendant, _ => some .notOwner
  | owner, _ => if o = owner then none else some .notOwner

/-- The checks of RELEASE HOLD in their order (R17): the reason of the first that fails, or the record. -/
def State.releaseHoldCheck (s : State) (o : Option Owner) (h : Nat) : Reason ⊕ Record :=
  if s.ctl.mode ≠ .run then .inl .mode
  else
    match o with
    | none => .inl .field
    | some owner =>
      match s.record h with
      | none => .inl .noSuch
      | some r =>
        if h = 0 then .inl .noSuch
        else
          match s.releaseVerdict owner r with
          | some reason => .inl reason
          | none => .inr r

/-- The release retires the record at once: it is not RELEASING and some other live record is not (R19). -/
def State.releaseRetires (s : State) (r : Record) : Bool :=
  !r.isReleasing && s.table.records.any fun x => x.handle != r.handle && !x.isReleasing

/-- The rule of RELEASE HOLD (R17, R19). -/
def State.releaseHoldRule (s : State) (o : Option Owner) (h : Nat) : State :=
  match s.releaseHoldCheck o h with
  | .inl reason => s.refuse 0x22 reason
  | .inr r =>
    if r.isReleasing then s.answerPending 0x22 [byteOf h]
    else
      let t := if s.releaseRetires r then s.done 0x22 [byteOf h] else s.answerPending 0x22 [byteOf h]
      State.conclude s (t.release r)

/-- RELEASE_HOLD (R17). -/
def execReleaseHold (owner handle : Byte) (s : State) : Result :=
  .next (s.request .releaseHold fun t => t.releaseHoldRule (requestOwner owner) handle.toNat)

/-! ## Reading the table -/

/-- The payload of a READ HOLD answer (R20, R189). -/
def State.readHoldPayload (s : State) (r : Record) : List Byte :=
  [byteOf r.handle, r.holdByte, r.causeOrTag,
   (byteOf (s.table.records.findIdx fun x => x.handle == r.handle) <<< 4) |||
     (byteOf (r.expiry.getD 0 / 256) &&& 3),
   byteOf (r.expiry.getD 0)] ++ bytes3 (s.force.ofClass r.cls)

/-- READ_HOLD (R20). -/
def execReadHold (handle : Byte) (s : State) : Result :=
  .next (s.request .readHold fun t =>
    match t.record handle.toNat with
    | some r => if handle = 0 then t.refuse 0x23 .noSuch else t.done 0x23 (t.readHoldPayload r)
    | none => t.refuse 0x23 .noSuch)

/-- The summary of the record at a place; 00h in each byte where there is none (R21, R189). -/
def State.summary (s : State) (place : Nat) : List Byte :=
  match s.table.records[place]? with
  | some r => [byteOf r.handle, r.holdByte, r.causeOrTag]
  | none => [0, 0, 0]

/-- LIST_HOLDS (R21). -/
def execListHolds (start : Byte) (s : State) : Result :=
  .next (s.request .listHolds fun t =>
    if 15 < start.toNat then t.refuse 0x24 .field
    else
      t.done 0x24 ([byteOf t.table.records.length] ++ t.summary start.toNat ++ t.summary (start.toNat + 1)))

/-! ## Expiry -/

/-- A record's expiry count runs: it is ENGAGING or HELD (R22). -/
def Record.counts (r : Record) : Bool := r.state != .releasing

/-- The record's count ends with its next unit: the count runs and stands at 1 (R22). A live record's count is never 0 (R1). -/
def Record.lastUnit (r : Record) : Bool := r.counts && r.expiry.any fun n => decide (n ≤ 1)

/-- The 100 ms beat has come round, in an awake mode (R22). -/
def State.beatDue (s : State) : Bool := s.awake && decide (Config.ms 100 ≤ s.table.beat)

/-- The handles of the records whose counts end with their next unit. -/
def State.lastUnits (s : State) : List Nat := (s.table.records.filter Record.lastUnit).map Record.handle

/-- The count of a handle's record reaches 0 with the beat that has come round (R22). -/
def State.expiryDue (s : State) (h : Nat) : Bool := s.beatDue && (s.record h).any Record.lastUnit

/-- The conversion of an expired record to PARK (R23). -/
def State.convertToPark (s : State) (h : Nat) : State :=
  let t := s.withTable
    { s.table with
      records := updateRecord s.table.records h fun r => { r with cls := .park, expiry := none, state := .engaging } }
  ((t.holdSetChange (parkLive s.table.records)).reportConfirmed).raiseHolds h .none

/-- The retirement of an expired record with the driver present (R24). -/
def State.retireExpired (s : State) (h : Nat) : State :=
  let t := (s.retire h false).raiseHolds h .none
  t.withMon { t.mon with train := .start }

/-- A record expires (R22): retired with the driver present, and else converted. -/
def State.expire (s : State) (h : Nat) : State :=
  if s.mon.driverPresent then s.retireExpired h else s.convertToPark h

/-- HOLD_EXPIRY (R22, R23, R24): the count of a record falls from 1 to 0 at the beat, and with that the record expires. -/
def execHoldExpiry (handle : Nat) (s : State) : Result :=
  .next (s.event fun t => if t.expiryDue handle then t.expire handle else t)

/-- A record's expiry counts down by 1 while it is ENGAGING or HELD (R22); a last unit is left to the expiry. -/
def Record.countDown (r : Record) : Record :=
  if r.counts && !r.lastUnit then { r with expiry := r.expiry.map (· - 1) } else r

/-- The beat's count (R22): each running count falls by 1, and the records whose count so reaches 0 expire in the same event, in
an order that the manual leaves open where there are several (log entries 3 and 35). -/
def State.countExpiries (s : State) : State :=
  let t := s.withTable { s.table with beat := 0, records := s.table.records.map Record.countDown }
  let u := (arrange s.freeCount s.lastUnits).foldl State.expire t
  if 1 < s.lastUnits.length then { u with freeCount := u.freeCount + 1 } else u

/-- EXPIRY_COUNTDOWN (R22). In the idling part the HOLD_EXPIRY of each last unit comes before it (log entry 35). -/
def execExpiryCountdown (s : State) : Result := .next (s.event fun t => if t.beatDue then t.countExpiries else t)

/-- The expiry pulse train has run 2000 ms (R145). -/
def State.trainDue (s : State) : Bool := s.mon.train.due 2000

/-- EXPIRY_TRAIN_END (R145). -/
def execExpiryTrainEnd (s : State) : Result :=
  .next (s.event fun t => if t.trainDue then t.withMon { t.mon with train := .stopped } else t)

/-! ## Relief and the release timer -/

/-- The relief timer has run 2000 ms (R30). -/
def State.reliefDue (s : State) : Bool := s.table.relief.due 2000

/-- RELIEF_TIMER_EXPIRY (R30): A becomes the F_req of the latest offer, and the timer restarts from 0. -/
def execReliefTimerExpiry (s : State) : Result :=
  .next (s.event fun t =>
    if t.reliefDue then (t.withTable { t.table with relief := .start }).applyForce t.force.fReq else t)

/-- The release timer, running, has reached 0 (R111). -/
def State.releaseDue (s : State) : Bool := s.gate.armed && !s.gate.suspended && s.gate.remaining == some 0

/-- RELEASE_TIMER_EXPIRY (R117). -/
def execReleaseTimerExpiry (s : State) : Result :=
  .next (s.event fun t => if t.releaseDue then t.releaseFails .releaseTimeout else t)

end Sys2Proof.Machine
end

