-- ==== Sys2Proof/Machine/MeasureFamily.lean ====
section
/-! DEFINITION. The meanings of sample arrivals and of the drive and drum reports (Chapter 2), with the tests the
channels make on a sample (5.4, 5.5). -/

namespace Sys2Proof.Machine

/-! ## The Measurement Unit on a sample -/

/-- The sensors after a sample set (R33). -/
def takeSensors (sensors : Six Sensor) (readings : Six Int) : Six Sensor :=
  Six.ofFn fun c => (sensors.get c).take (readings.get c)

/-- Some sensor of the sample set turns INVALID (R33). -/
def Measure.sensorLost (m : Measure) (r : SampleSet) : Bool :=
  (allChans.any fun c => (m.psv.get c).turnsInvalid (r.psv.get c) || (m.psu.get c).turnsInvalid (r.psu.get c)) ||
    m.supplyA.sensor.turnsInvalid r.pra || m.supplyB.sensor.turnsInvalid r.prb

/-- The change of a circuit's supply-low raises SUPPLY: every change, but for a circuit that the first sample after a
reset or wake (its sensor UNREAD until then) finds not low (R41). -/
def supplyNotice (old new : Supply) : Bool :=
  old.low != new.low && (new.low || old.sensor != .unread)

/-- A source is raised where a condition holds. -/
def State.raiseIf (s : State) (b : Bool) (src : Source) : State := if b then s.raise src else s

/-- The Measurement Unit brings its own state up to date from the readings (R32 to R41). -/
def State.measure (s : State) (r : SampleSet) : State :=
  let m := s.meas
  let minSupply := s.vehicle.minSupply.toNat
  let a := Supply.derive (m.supplyA.sensor.take r.pra) minSupply
  let b := Supply.derive (m.supplyB.sensor.take r.prb) minSupply
  let m1 := { m with psv := takeSensors m.psv r.psv, psu := takeSensors m.psu r.psu, supplyA := a, supplyB := b }
  let m2 := if s.atStandstill then m1.takeGrade r.acx else m1
  let t := (s.withMeas m2).deriveWeight
  (t.raiseIf (m.sensorLost r || (s.atStandstill && !plausible r.acx)) .sensor).raiseIf
    (supplyNotice m.supplyA a || supplyNotice m.supplyB b) .supply

/-! ## The channels on a sample -/

/-- The PRESSURE test is made on the channel: SERVICE or IDLE, and not under FAILSAFE with action HOLD_LAST (R89, R92,
R102). -/
def Channel.pressureTested (ch : Channel) (v : ChannelItems) : Bool :=
  (ch.state == .service || ch.state == .idle) && !(ch.override == .failsafe && v.holdsLast)

/-- The sensed pressure lies in the band of the channel's state (R89). -/
def inBand (state : ChanState) (pressure command : Nat) : Bool :=
  if state = .service then decide (command ≤ pressure + 30) && decide (pressure ≤ command + 30)
  else decide (pressure ≤ 30)

/-- A sensed pressure acts on a tested channel: an unconfirmed channel confirms when its duty is in force and the pressure
lies in the band (R89); a confirmed one has its drift timer started, kept or stopped (R91). -/
def Channel.testPressure (ch : Channel) (pressure command : Nat) : Channel :=
  let inside := inBand ch.state pressure command
  if ch.confirmed then
    { ch with drift := if inside then .stopped else if ch.drift.isRunning then ch.drift else .start }
  else if inside && ch.dutyInForce == ch.dutyBuffer then { ch with confirmed := true, window := .stopped }
  else ch

/-- The channels' tests on a sample (R89, R91). -/
def State.testPressures (s : State) : State :=
  s.withChans (Six.ofFn fun c =>
    let ch := s.chans.get c
    match (s.meas.psv.get c).value with
    | some p => if ch.pressureTested (s.items c) then ch.testPressure p (s.dist.cmds.get c).pressure else ch
    | none => ch)

/-- The channels whose service sensor turned INVALID at this arrival fault with cause SENSOR (R94); `before` is the
state of the sensors before it. -/
def State.sensorFaults (s : State) (before : Six Sensor) : State :=
  allChans.foldl
    (fun t c =>
      if (t.meas.psv.get c).isInvalid && !(before.get c).isInvalid && (t.chans.get c).state.tested then
        t.faultChannel c .sensor
      else t)
    s

/-- The Axle Channels on a sample: SENSOR faults, then the pressure tests, then the report (R88 to R94). -/
def State.channelsOnSample (s : State) (before : Six Sensor) : State :=
  (s.sensorFaults before).testPressures.reportConfirmed

/-! ## The Distribution Unit and the gate on a sample -/

/-- Two pressures differ by more than 20 kPa (R62). -/
def drifted (a b : Nat) : Bool := decide (a + 20 < b) || decide (b + 20 < a)

/-- The P_avail of some channel in E differs by more than 20 kPa from its P_avail used (R62). -/
def State.availDrifted (s : State) : Bool :=
  allChans.any fun c => ((s.dist.cmds.get c).availUsed).any fun used => drifted used (s.avail c)

/-- The loads a run made by a change of supply-low uses: those in force, and at the first sample after a wake, where it is
the second run of R79, the static ones. DEDUCED (log entry 5): R79 speaks of this run alone. -/
def State.supplyRunLoads (s : State) (first : Bool) : Six Nat :=
  if first then s.staticLoads else s.meas.loads

/-- The Distribution Unit on a sample (R62): it runs on a change of a circuit's supply-low or a drift of P_avail. -/
def State.supplyOnSample (s : State) (lowChanged first : Bool) : State :=
  if lowChanged then s.distributeWith (s.supplyRunLoads first) false
  else if s.availDrifted then s.distribute
  else s

/-- The moment of a sample set has come: 10 ms after a reset, a wake or the sample set before it, in an awake mode (R32). -/
def State.sampleDue (s : State) : Bool := s.awake && s.meas.sampleTimer.due 10

/-- The arrival of a sample set in an awake mode (R32): the Measurement Unit, then the Force Calculator, the Axle Channels,
the Distribution Unit and the Release Gate. -/
def State.sample (s : State) (r : SampleSet) : State :=
  let t := s.measure r
  let lowChanged := s.meas.supplyA.low != t.meas.supplyA.low || s.meas.supplyB.low != t.meas.supplyB.low
  let u := t.withMeas { t.meas with awaitsFirstSample := false, sampleTimer := .start }
  let v := if u.atStandstill ∨ u.table.records ≠ [] then u.runAndOffer else u
  ((v.channelsOnSample s.meas.psv).supplyOnSample lowChanged s.meas.awaitsFirstSample).gateDecide.gateEvaluate

/-- SAMPLE_ARRIVAL (R32). The analog inputs show the readings from now on; the part takes them as a sample set where the
moment of one has come, and at any other moment the inputs alone have changed. DESIGN CHOICE (log entries 2 and 41). -/
def execSampleArrival (readings : SampleSet) (s : State) : Result :=
  .next ((s.withMeas { s.meas with inputs := readings }).event fun t =>
    if t.sampleDue then t.sample readings else t)

/-! ## Reports -/

/-- A drive force outside −30000..+30000 is taken as the limit it passes (R42). -/
def clampForce (f : Int) : Int := max (-30000) (min f 30000)

/-- The Standstill Monitor takes a drive report: a drive force that is not 0 ends the watch-after (R126, R127). -/
def State.driveEndsWatch (s : State) : State :=
  if s.mon.ref = .watch ∧ s.meas.drive ≠ 0 then s.withMon s.mon.dropReference else s

/-- A taken DRIVE STATE (R42): stored and fresh, then the Force Calculator, the Release Gate and the Standstill Monitor. -/
def State.takeDrive (s : State) (force : Int) (gear : Gear) : State :=
  (s.withMeas { s.meas with driveForce := clampForce force, gear := gear, driveAge := .start }
  ).runAndOffer.gateEvaluate.driveEndsWatch

/-- DRIVE_STATE (R42). -/
def execDriveState (force : Word16) (gear : Byte) (s : State) : Result :=
  .next (s.request .driveState fun t =>
    match gearOf gear with
    | some g =>
      State.conclude t
        ((t.done 0x30 (signed2 (effectiveDrive g (clampForce force.toInt)))).takeDrive force.toInt g)
    | none => t.refuse 0x30 .field)

/-- The stored drive report is 200 ms old (R43). -/
def State.driveStaleDue (s : State) : Bool := s.meas.driveAge.due 200

/-- DRIVE_REPORT_STALE (R43): the report lapses, and the gate evaluates with D at 0 (R109). -/
def execDriveReportStale (s : State) : Result :=
  .next (s.event fun t =>
    if t.driveStaleDue then (t.withMeas { t.meas with driveAge := .stopped }).gateEvaluate else t)

/-- DRUM_STATE (R44). -/
def execDrumState (mode weightFlag : Byte) (weight : Word16) (s : State) : Result :=
  .next (s.request .drumState fun t =>
    match drumModeOf mode with
    | some d =>
      if weightFlag ≠ 0 ∧ 40000 < weight.toNat then t.refuse 0x31 .field
      else
        State.conclude t
          (((t.done 0x31 []).withMeas
            { t.meas with drum := d, cRep := if weightFlag = 0 then none else some weight.toNat }).runAndOffer)
    | none => t.refuse 0x31 .field)

/-! ## READ MEASURE -/

/-- The INVALID flags of six sensors, bit 0 for the first (R189). -/
def invalidBits (sensors : Six Sensor) : Byte :=
  allChans.foldl (fun b c => b ||| flagBit (sensors.get c).isInvalid c.val) 0

/-- The payload of page 3 of READ MEASURE (R45, R189). The bytes of a reservoir pressure that is not VALID are 00h: DESIGN
CHOICE (log entry 36), the flag alone tells that it is absent. -/
def State.supplyPage (s : State) : List Byte :=
  let a := s.meas.supplyA
  let b := s.meas.supplyB
  [flagBit a.sensor.value.isSome 0 ||| flagBit b.sensor.value.isSome 1 ||| flagBit a.low 2 ||| flagBit b.low 3 |||
     flagBit s.meas.forced 4] ++
    bytes2 (a.sensor.value.getD 0) ++ bytes2 (b.sensor.value.getD 0) ++
    [byteOf s.meas.window.length, invalidBits s.meas.psu,
     invalidBits s.meas.psv ||| flagBit a.sensor.isInvalid 6 ||| flagBit b.sensor.isInvalid 7]

/-- The payload of a page of READ MEASURE (R45, R189); none for a page above 3. The bytes of an absent C_rep are 00h: DESIGN
CHOICE (log entry 36), the flag alone tells that it is absent. -/
def State.measurePage (s : State) (page : Byte) : Option (List Byte) :=
  match page.toNat with
  | 0 => some (signed2 s.meas.grade ++ bytes2 s.meas.weight ++ bytes2 s.force.concrete ++ bytes2 s.force.slosh)
  | 1 => some (bytes2 s.force.fGrade ++ bytes3 s.force.fReq ++ bytes3 s.table.applied)
  | 2 =>
    some (signed2 s.meas.drive ++
      [s.meas.gearInForce.code, flagByte s.meas.driveAge.isRunning, s.meas.drum.code,
       flagByte s.meas.cRep.isSome] ++ bytes2 (s.meas.cRep.getD 0))
  | 3 => some s.supplyPage
  | _ => none

/-- READ_MEASURE (R45). -/
def execReadMeasure (page : Byte) (s : State) : Result :=
  .next (s.request .readMeasure fun t =>
    match t.measurePage page with
    | some bytes => t.done 0x32 bytes
    | none => t.refuse 0x32 .field)

end Sys2Proof.Machine
end

