-- ==== Sys2Proof/Machine/MotionFamily.lean ====
section
/-! DEFINITION. The meanings of the digital lines, the wheel pulses and the Standstill Monitor's timers (Chapter 7), and of
the events that wake the part (R164). A timer's expiry acts when the timer has run its time (log entry 2). -/

namespace Sys2Proof.Machine

/-! ## The raw levels of the lines -/

/-- A line reads a level: a new level starts its 50 ms, and the debounced level again ends them (R98, R135). -/
def Line.read (l : Line) (level : Bool) : Line :=
  if l.raw = level then l else ⟨level, l.level, if level = l.level then .stopped else .start⟩

/-- The pendant pair reads a combination: a different one starts the 50 ms (R140). -/
def Lines.readPair (l : Lines) (pa pb : Bool) : Lines :=
  if l.pa = pa ∧ l.pb = pb then l
  else { l with pa := pa, pb := pb, pairDebounce := if pairOf pa pb = l.pair then .stopped else .start }

/-- The lines after a reading, debounced (R98, R135, R140). -/
def Lines.read (l : Lines) : LineReading → Lines
  | .seat b => { l with seat := l.seat.read b }
  | .door b => { l with door := l.door.read b }
  | .lift .lift1 b => { l with lift1 := l.lift1.read b }
  | .lift .lift2 b => { l with lift2 := l.lift2.read b }
  | .pa b => l.readPair b l.pb
  | .pb b => l.readPair l.pa b
  | .pair pa pb => l.readPair pa pb

/-- The raw levels after a reading, with no debouncing (R135, R143, R163). -/
def Lines.readRaw (l : Lines) : LineReading → Lines
  | .seat b => { l with seat := { l.seat with raw := b } }
  | .door b => { l with door := { l.door with raw := b } }
  | .lift .lift1 b => { l with lift1 := { l.lift1 with raw := b } }
  | .lift .lift2 b => { l with lift2 := { l.lift2 with raw := b } }
  | .pa b => { l with pa := b }
  | .pb b => { l with pb := b }
  | .pair pa pb => { l with pa := pa, pb := pb }

/-- The reading changes the level of a line that wakes the part: PA, PB, SEAT or DOOR (R164). -/
def Lines.wakes (l : Lines) : LineReading → Bool
  | .seat b => l.seat.raw != b
  | .door b => l.door.raw != b
  | .lift _ _ => false
  | .pa b => l.pa != b
  | .pb b => l.pb != b
  | .pair pa pb => l.pa != pa || l.pb != pb

/-- A digital line shows a level: debounced in an awake mode; in SLEEP a change of a pendant or driver line wakes the part,
which then takes its levels (R164, R137, R143). Without power the line alone changes. Where PA and PB change together, one
reading carries both, so a part asleep wakes over the new combination (8.13); where a reading changes one of them alone, the
part wakes over what the pair reads then, a LINE_FAULT among them. DEDUCED (log entry 40). -/
def State.lineChange (s : State) (r : LineReading) : State :=
  if s.powered ∧ s.awake then s.withLines (s.lines.read r)
  else
    let t := s.withLines (s.lines.readRaw r)
    if s.powered && s.lines.wakes r then State.conclude s t.wakeUp else t

/-- RAW_LINE_CHANGE (R98, R135, R140). -/
def execRawLineChange (reading : LineReading) (s : State) : Result := .next (s.lineChange reading)

/-! ## Wheel pulses -/

/-- The interval since the last pulse of an input is shorter than the moving interval (R123 step 1). -/
def Monitor.shortInterval (m : Monitor) (n : Chan) (now interval : Nat) : Bool :=
  (m.wheels.get n).lastPulse.any fun last => decide (now - last < interval)

/-- The moving timer after a pulse (R123 step 1). -/
def Monitor.movingAfter (m : Monitor) (n : Chan) (now interval : Nat) : Option Nat :=
  if m.shortInterval n now interval then some interval else m.moving

/-- The motion timers and state after a pulse (R123 steps 1 to 4); the end of standstill stops the autopark timer and
clears the inhibit (R139). -/
def Monitor.pulse (m : Monitor) (n : Chan) (now interval : Nat) : Monitor :=
  { m with
    wheels := m.wheels.put n { m.wheels.get n with lastPulse := some now }
    moving := m.movingAfter n now interval
    standstill := .start
    motion := if (m.movingAfter n now interval).isSome then .moving else .creeping
    autopark := if m.motion = .standstill then .stopped else m.autopark
    inhibit := m.inhibit && m.motion != .standstill }

/-- The greatest value of a creep counter (R128). -/
def creepMax : Nat := 40

/-- A counter after a counted pulse (R128). -/
def Wheel.counted (w : Wheel) : Nat := min (w.creep + 1) creepMax

/-- The pulse is counted and is a limit pulse (R128). -/
def Monitor.limitOn (m : Monitor) (n : Chan) (limit : Nat) : Bool :=
  m.ref != .clear && !(m.wheels.get n).reached && decide (limit ≤ (m.wheels.get n).counted)

/-- The creep counters after a pulse (R128). -/
def Monitor.count (m : Monitor) (n : Chan) (limit : Nat) : Monitor :=
  if m.ref = .clear then m
  else
    { m with
      wheels := m.wheels.put n
        { m.wheels.get n with
          creep := (m.wheels.get n).counted
          reached := (m.wheels.get n).reached || m.limitOn n limit } }

/-- The steps 1 to 4 of a pulse at the part (R123): the monitor's, and the Measurement Unit told of an end of
standstill (R35, R37). -/
def State.pulseMotion (s : State) (n : Chan) : State :=
  let t := s.withMon (s.mon.pulse n s.now (Config.ms s.vehicle.movingInterval.toNat))
  if s.atStandstill then t.withMeas t.meas.endStandstill else t

/-- A pulse on a wheel input (R123): motion, count, and a limit pulse's rollaway, before which the part wakes if it was in
SLEEP (R129, R164). -/
def State.pulse (s : State) (n : Chan) : State :=
  let t := s.pulseMotion n
  let limit := t.vehicle.creepLimit.toNat
  let u := t.withMon (t.mon.count n limit)
  if t.mon.limitOn n limit then (if u.awake then u else u.wakeUp).limitPulse else u

/-- WHEEL_PULSE (R123). -/
def execWheelPulse (input : Chan) (s : State) : Result := .next (s.event fun t => t.pulse input)

/-! ## Motion timers -/

/-- The moving timer has run out (R124). -/
def State.movingDue (s : State) : Bool := s.mon.moving == some 0

/-- The moving timer runs out (R124): CREEPING, and a pendant opening that waited for it is made. -/
def State.stopMoving (s : State) : State :=
  let t := s.withMon { s.mon with moving := none, motion := .creeping }
  match t.mon.pendantWant with
  | .untilStill told => if t.awake ∧ t.lines.pair.asks then (t.want .none).pendantOpen told else t
  | _ => t

/-- MOVING_TIMER_EXPIRY (R124). -/
def execMovingTimerExpiry (s : State) : Result := .next (s.event fun t => if t.movingDue then t.stopMoving else t)

/-- The standstill timer has run 300 ms (R122). -/
def State.standstillDue (s : State) : Bool := s.mon.standstill.due 300

/-- Standstill begins (R124): STANDSTILL, the autopark timer, and the first standstill in SAFE (R161). -/
def State.beginStandstill (s : State) : State :=
  let t := s.withMon { s.mon with standstill := .ranOut, motion := .standstill, autopark := .start }
  if t.ctl.mode = .safe ∧ t.ctl.failsafeDone = false then t.firstStandstillInSafe else t

/-- STANDSTILL_TIMER_EXPIRY (R124). -/
def execStandstillTimerExpiry (s : State) : Result :=
  .next (s.event fun t => if t.standstillDue then t.beginStandstill else t)

/-- The watch-after timer has run 5000 ms (R126). -/
def State.watchDue (s : State) : Bool := s.mon.watchAfter.due 5000

/-- WATCH_AFTER_EXPIRY (R126). -/
def execWatchAfterExpiry (s : State) : Result :=
  .next (s.event fun t => if t.watchDue then t.withMon t.mon.dropReference else t)

/-! ## The driver -/

/-- The driver becomes ABSENT, which is handed to autopark (R136, R138). -/
def State.driverLeaves (s : State) : State :=
  (s.withMon { s.mon with driverPresent := false, seatTimer := .stopped }).autoparkEvaluate

/-- The driver becomes PRESENT, which clears the autopark inhibit (R136, R139). -/
def State.driverReturns (s : State) : State := s.withMon { s.mon with driverPresent := true, inhibit := false }

/-- A change of the debounced SEAT level acts on presence (R136); the level is that of the lines. -/
def State.seatChanged (s : State) : State :=
  if s.lines.seat.level then
    (if s.mon.driverPresent then s.withMon { s.mon with seatTimer := .stopped } else s.driverReturns)
  else if !s.mon.driverPresent then s
  else if s.lines.door.level then s.driverLeaves
  else s.withMon { s.mon with seatTimer := .start }

/-- A change of the debounced DOOR level acts on presence (R136); the level is that of the lines. -/
def State.doorChanged (s : State) : State :=
  if s.lines.door.level && !s.lines.seat.level && s.mon.driverPresent then s.driverLeaves else s

/-- A driver line. -/
def Lines.driver (l : Lines) : DriverLine → Line
  | .seat => l.seat
  | .door => l.door

/-- A driver line has read its new level for 50 ms (R135). -/
def State.driverLineDue (s : State) (line : DriverLine) : Bool := (s.lines.driver line).debounce.due 50

/-- A driver line's raw level becomes its debounced level (R135), and presence follows (R136). -/
def State.driverLineSettles (s : State) : DriverLine → State
  | .seat => (s.withLines { s.lines with seat := s.lines.seat.settle }).seatChanged
  | .door => (s.withLines { s.lines with door := s.lines.door.settle }).doorChanged

/-- DRIVER_LINE_DEBOUNCED (R136). -/
def execDriverLineDebounced (line : DriverLine) (s : State) : Result :=
  .next (s.event fun t => if t.driverLineDue line then t.driverLineSettles line else t)

/-- The seat timer has run 1500 ms (R136). -/
def State.seatDue (s : State) : Bool := s.mon.seatTimer.due 1500

/-- SEAT_TIMER_EXPIRY (R136). -/
def execSeatTimerExpiry (s : State) : Result := .next (s.event fun t => if t.seatDue then t.driverLeaves else t)

/-- The autopark timer has run 2000 ms (R138). -/
def State.autoparkDue (s : State) : Bool := s.mon.autopark.due 2000

/-- AUTOPARK_TIMER_EXPIRY (R138). -/
def execAutoparkTimerExpiry (s : State) : Result :=
  .next (s.event fun t =>
    if t.autoparkDue then (t.withMon { t.mon with autopark := .ranOut }).autoparkEvaluate else t)

/-! ## The pendant pair -/

/-- The pair has read its combination for 50 ms (R140). -/
def State.pairDue (s : State) : Bool := s.lines.pairDebounce.due 50

/-- The combination read becomes the debounced pair state (R140): a change into LINE_FAULT raises SENSOR, and a line that
comes to ask or stops asking acts by R141 or R142. -/
def State.pairSettles (s : State) : State :=
  let old := s.lines.pair
  let t := s.withLines { s.lines with pair := pairOf s.lines.pa s.lines.pb, pairDebounce := .stopped }
  let u := if t.lines.pair = .lineFault ∧ old ≠ .lineFault then t.raise .sensor else t
  if old.asks = false ∧ u.lines.pair.asks then u.pendantOpen false
  else if old.asks ∧ u.lines.pair.asks = false then u.pendantStop
  else u

/-- PENDANT_PAIR_DEBOUNCED (R140). -/
def execPendantPairDebounced (s : State) : Result :=
  .next (s.event fun t => if t.pairDue then t.pairSettles else t)

/-! ## Wake -/

/-- WAKE (R164): the chip select of an exchange, whose request is discarded, wakes a part in SLEEP; a line change and a
wheel pulse act as they do in any mode, waking the part where they are wake events. -/
def execWake (cause : WakeCause) (s : State) : Result :=
  .next
    (match cause with
    | .chipSelect => if s.powered ∧ s.ctl.mode = .sleep then State.conclude s s.wakeUp else s
    | .line reading => s.lineChange reading
    | .pulse input => s.event fun t => t.pulse input)

end Sys2Proof.Machine
end

