-- ==== Sys2Proof/Machine/ProfileFamily.lean ====
section
/-! DEFINITION. The meanings of the profile requests and of the end of a commit (Chapter 10). -/

namespace Sys2Proof.Machine

/-- A two-byte value as it travels, most significant byte first. -/
def valueBytes (w : Word16) : List Byte := bytes2 w.toNat

/-- The selector of PROFILE READ: true for STORED, false for WORKING (R197). -/
def selectorOf (b : Byte) : Option Bool :=
  match b.toNat with
  | 1 => some false
  | 2 => some true
  | _ => none

/-- The value a PROFILE READ gives (R197): the commit count for item 1Fh, and otherwise the item of the copy selected. -/
def Store.value (p : Store) (item : Item) (stored : Bool) : Word16 :=
  match item with
  | .commitCount => BitVec.ofNat 16 p.count
  | _ => if stored then p.image.read item else p.working.read item

/-- PROFILE_READ (R197). -/
def execProfileRead (item channel selector : Byte) (s : State) : Result :=
  .next (s.request .profileRead fun t =>
    match itemAt item channel, selectorOf selector with
    | some i, some stored =>
      if stored && t.store.commit.isSome then t.refuse 0x50 .busy
      else
        t.done 0x50 ([item, channel, selector] ++ valueBytes (t.store.value i stored) ++ [flagByte (!t.store.invalid)])
    | _, _ => t.refuse 0x50 .field)

/-- The lock condition (R198): RUN, standstill, and a SERVICE PARK record HELD. -/
def State.unlocked (s : State) : Bool :=
  s.ctl.mode == .run && s.atStandstill &&
    s.table.records.any fun r => r.owner == .service && r.cls == .park && r.state == .held

/-! ## PROFILE WRITE -/

/-- A changed item of a channel that rebuilds its record: fitted, role, has_spring, lift line (R103, R200). -/
def rebuilds (position : Nat) : Bool := decide (position ≤ 3)

/-- A changed item of a channel that the Distribution Unit reads: circuit, gain, pushout, p_full, spring_cap (R200). -/
def channelRuns (position : Nat) : Bool := decide (4 ≤ position) && decide (position ≤ 8)

/-- A changed load item of a channel: static_load, load_offset, load_gain, min_load, max_load (R200). -/
def loadItem (position : Nat) : Bool := decide (9 ≤ position) && decide (position ≤ 13)

/-- A changed vehicle item that the Force Calculator reads: gross_weight, empty_weight, margins, floors, slosh_pm
(R58, R200). -/
def forceItem (position : Nat) : Bool :=
  position == 0 || position == 1 || (decide (3 ≤ position) && decide (position ≤ 12))

/-- The channel's record after a rebuild, before its command (R103): ABSENT, LIFTED with the outputs of R98, or
joining E. -/
def Channel.rebuild (ch : Channel) (v : ChannelItems) (raised : Bool) : Channel :=
  let next := { ch with lift := raised, cause := none }
  if !v.isFitted then { next.lifted with state := .absent }
  else if v.line.isSome && raised then next.lifted
  else next.joining

/-- The rebuild of a channel's record by a profile write (R103): the record, its requested state none, its load and the
weight, and a run. -/
def State.rebuildChannel (s : State) (c : Chan) : State :=
  let t := s.withChan c ((s.chans.get c).rebuild (s.items c) (s.liftLevel c))
  (t.withDist { t.dist with cmds := t.dist.cmds.put c .outside }).eligibilityChanged

/-- What a changed value is handed on to, by its item's group (R200). -/
def State.handOn (s : State) (item : Item) : State :=
  match item with
  | .vehicle i => if forceItem i then s.runAndOffer else if i = 2 then s.distribute else s
  | .channel c i =>
    if rebuilds i then s.rebuildChannel c
    else if channelRuns i then s.distribute
    else if loadItem i then s.deriveLoads.distribute
    else s
  | .commitCount => s

/-- A taken PROFILE WRITE (R200): the value is placed in the working profile, and a changed one is handed on. -/
def State.writeItem (s : State) (item : Item) (value : Word16) : State :=
  let t := s.withStore { s.store with working := s.store.working.write item value }
  if s.store.working.read item = value then s else t.handOn item

/-- The checks of PROFILE WRITE in their order (R199): the reason of the first that fails, or the item. -/
def State.profileWriteCheck (s : State) (item : Option Item) (value : Word16) : Reason ⊕ Item :=
  if !s.unlocked then .inl .locked
  else
    match item with
    | none => .inl .field
    | some .commitCount => .inl .field
    | some i =>
      if s.store.commit.isSome then .inl .busy
      else if !(i.inRange value) || !(s.store.working.write i value).constraints then .inl .range
      else .inr i

/-- PROFILE_WRITE (R199, R200). -/
def execProfileWrite (item channel : Byte) (value : Word16) (s : State) : Result :=
  .next (s.request .profileWrite fun t =>
    match t.profileWriteCheck (itemAt item channel) value with
    | .inl reason => t.refuse 0x51 reason
    | .inr i => State.conclude t ((t.done 0x51 ([item, channel] ++ valueBytes value)).writeItem i value))

/-! ## PROFILE COMMIT -/

/-- The number of commits after which the part is worn (R202). -/
def commitLimit : Nat := 2000

/-- A commit starts (R201): its timer runs, the completion mark is cleared, the working profile is taken as the contents. -/
def Store.beginCommit (p : Store) : Store := { p with commit := some ⟨0, p.working⟩, mark := false }

/-- PROFILE_COMMIT (R201). -/
def execProfileCommit (s : State) : Result :=
  .next (s.request .profileCommit fun t =>
    if !t.unlocked then t.refuse 0x52 .locked
    else if t.store.commit.isSome then t.refuse 0x52 .busy
    else if commitLimit ≤ t.store.count then t.refuse 0x52 .worn
    else (t.answerPending 0x52 []).withStore t.store.beginCommit)

/-- The commit timer has run 250 ms (R201). -/
def State.commitDue (s : State) : Bool := s.store.commit.any fun k => decide (Config.ms 250 ≤ k.ticks)

/-- A commit reaches its end (R201): image, CRC, count, mark, and PROFILE_INVALID cleared. -/
def Store.endCommit (p : Store) (contents : Profile) : Store :=
  { p with
    image := contents
    crc := contents.crc
    count := p.count + 1
    mark := true
    commit := none
    invalid := false }

/-- COMMIT_END (R201). -/
def execCommitEnd (s : State) : Result :=
  .next (s.event fun t =>
    match t.store.commit with
    | some k => if t.commitDue then (t.withStore (t.store.endCommit k.contents)).raise .profile else t
    | none => t)

end Sys2Proof.Machine
end

