-- ==== Sys2Proof/Machine/SupervisionFamily.lean ====
section
/-! DEFINITION. The meanings of the supervision requests, the mode timers, the keepalive window, the critical deadlines,
the clock monitor, SLEEP entry and wake (Chapter 8). A timer's expiry acts when the timer has run its time; the same
command at any other moment names an event that has not come about and changes nothing (log entry 2). -/

namespace Sys2Proof.Machine

/-- The keepalive window is open (R150). -/
def Phase.isOpen : Phase → Bool
  | .windowOpen => true
  | .resync _ opened => opened
  | _ => false

/-- The supervision phase is AWAIT_RESYNC. -/
def Phase.isAwaitResync : Phase → Bool
  | .awaitResync => true
  | _ => false

/-- A keepalive accepted: t advances, and the answer is DONE carrying the new t (R149). -/
def State.acceptKeepalive (s : State) : State :=
  let t := s.advanceToken
  t.done 0x10 [t.ctl.token]

/-- The phase falls back to AWAIT_RESYNC (R158). -/
def State.awaitResync (s : State) : State := s.withCtl { s.ctl with phase := .awaitResync, window := none }

/-- A keepalive in START or RETRY (R149, R153, R154). -/
def State.keepaliveFirst (s : State) (answer : Byte) : State :=
  if answer = s.expectedAnswer then State.conclude s s.acceptKeepalive.enterRun
  else s.refuse 0x10 .token

/-- A keepalive in RUN (R149, R150, R152). -/
def State.keepaliveRun (s : State) (answer : Byte) : State :=
  if !s.ctl.phase.isOpen then State.conclude s (s.refuse 0x10 .window).supervisionFault
  else if answer ≠ s.expectedAnswer then State.conclude s (s.refuse 0x10 .token).supervisionFault
  else
    let t := s.acceptKeepalive
    t.withCtl { t.ctl with phase := .wait, window := some t.nextWindow }

/-- A keepalive in DEGRADED (R149, R158). -/
def State.keepaliveDegraded (s : State) (answer : Byte) : State :=
  match s.ctl.phase with
  | .resync run opened =>
    if !opened then (s.refuse 0x10 .window).awaitResync
    else if answer ≠ s.expectedAnswer then (s.refuse 0x10 .token).awaitResync
    else if 2 ≤ run then State.conclude s s.acceptKeepalive.enterRun
    else
      let t := s.acceptKeepalive
      t.withCtl { t.ctl with phase := .resync (run + 1) false, window := some t.nextWindow }
  | _ => s.refuse 0x10 .state

/-- The rule of KEEPALIVE by mode (R149). -/
def State.keepaliveRule (s : State) (answer : Byte) : State :=
  match s.ctl.mode with
  | .start => s.keepaliveFirst answer
  | .retry => s.keepaliveFirst answer
  | .run => s.keepaliveRun answer
  | .degraded => s.keepaliveDegraded answer
  | .safe => s.refuse 0x10 .mode
  | .sleep => s.refuse 0x10 .mode

/-- KEEPALIVE (R149). -/
def execKeepalive (answer : Byte) (s : State) : Result := .next (s.request .keepalive fun t => t.keepaliveRule answer)

/-- RESYNC (R157). -/
def execResync (s : State) : Result :=
  .next (s.request .resync fun t =>
    (t.withCtl
      { t.ctl with
        token := 0
        phase := .resync 0 true
        window := some ⟨t.now, t.now + Config.ms t.period⟩ }).done 0x11 [0])

/-- SLEEP (R162). -/
def execSleep (s : State) : Result :=
  .next (s.request .sleep fun t =>
    if t.sleepConditions then (t.withCtl { t.ctl with sleepPending := true }).done 0x12 []
    else t.refuse 0x12 .state)

/-- RESET (R165): a taken RESET has no answer of its own, since the soft reset sets the slot to idle. -/
def execReset (s : State) : Result :=
  .next (s.request .reset fun t => if t.store.commit.isSome then t.refuse 0x13 .busy else t.softReset)

/-- SLEEP_ENTRY (R163): the end of an exchange while sleep is pending. Where the conditions still hold the part enters
SLEEP; otherwise sleep pending becomes no, and the request of that exchange is the next command. -/
def execSleepEntry (s : State) : Result :=
  .next
    (if s.powered ∧ s.ctl.sleepPending then
      (if s.sleepConditions then State.conclude s s.enterSleep
       else s.withCtl { s.ctl with sleepPending := false })
     else s)

/-! ## The window -/

/-- The window's opening moment has come (R150). -/
def State.windowOpensDue (s : State) : Bool :=
  match s.ctl.window with
  | some w =>
    decide (w.opens ≤ s.now) &&
      match s.ctl.phase with
      | .wait => true
      | .resync _ opened => !opened
      | _ => false
  | none => false

/-- The window's closing moment has come (R150). -/
def State.windowClosesDue (s : State) : Bool :=
  match s.ctl.window with
  | some w => s.ctl.phase.isOpen && decide (w.closes ≤ s.now)
  | none => false

/-- KEEPALIVE_WINDOW_OPENS (R150). -/
def execKeepaliveWindowOpens (s : State) : Result :=
  .next (s.event fun t =>
    if t.windowOpensDue then
      t.withCtl
        { t.ctl with
          phase :=
            match t.ctl.phase with
            | .resync run _ => .resync run true
            | _ => .windowOpen }
    else t)

/-- KEEPALIVE_WINDOW_CLOSES (R150, R158): a supervision fault in RUN, a fall back to AWAIT_RESYNC in DEGRADED. -/
def execKeepaliveWindowCloses (s : State) : Result :=
  .next (s.event fun t =>
    if t.windowClosesDue then (if t.ctl.mode = .run then t.supervisionFault else t.awaitResync) else t)

/-- A critical source's deadline timer has run 500 ms (R151). -/
def State.deadlineDue (s : State) (src : CriticalSource) : Bool := (s.deadline src).due 500

/-- CRITICAL_DEADLINE_EXPIRY (R151). -/
def execCriticalDeadlineExpiry (source : CriticalSource) (s : State) : Result :=
  .next (s.event fun t =>
    if t.deadlineDue source then
      let u := t.stopDeadline source
      (if u.ctl.mode = .run then u.supervisionFault else u)
    else t)

/-! ## The mode timers -/

/-- The mode timer of a mode has run its time (R146). -/
def State.modeTimerDue (s : State) (m : Mode) (t : Nat) : Bool := s.ctl.mode == m && s.ctl.timer.due t

/-- START_TIMER_EXPIRY (R153): entry into RETRY. -/
def execStartTimerExpiry (s : State) : Result :=
  .next (s.event fun t =>
    if t.modeTimerDue .start 2000 then (t.withCtl { t.ctl with mode := .retry, timer := .start }).raise .mode else t)

/-- RETRY_TIMER_EXPIRY (R154): entry into SAFE. -/
def execRetryTimerExpiry (s : State) : Result :=
  .next (s.event fun t => if t.modeTimerDue .retry 4000 then t.enterSafe else t)

/-- DEGRADED_TIMER_EXPIRY (R159): entry into SAFE. -/
def execDegradedTimerExpiry (s : State) : Result :=
  .next (s.event fun t => if t.modeTimerDue .degraded 30000 then t.enterSafe else t)

/-! ## The clock monitor -/

/-- The measured main time of an interval lies within 7.5..12.5 ms (R168). -/
def intervalGood (ticks : Nat) : Bool := decide (Config.ms 15 ≤ 2 * ticks) && decide (2 * ticks ≤ Config.ms 25)

/-- CLKREF_INTERVAL_END (R168): the interval is judged, and a good one is followed by the next measurement. DESIGN CHOICE (log
entry 42): the first measurement after a reset or a wake counts from that event, whatever part of the reference interval that
ends it had passed before. -/
def execClkrefIntervalEnd (s : State) : Result :=
  .next (s.event fun t =>
    match t.ctl.clock with
    | .measuring ticks =>
      if intervalGood ticks then t.withCtl { t.ctl with clock := .measuring 0 } else t.clockFailure
    | _ => t)

/-- More than 12.5 ms of main time have passed without an interval's end (R168). -/
def State.clockTimeoutDue (s : State) : Bool :=
  match s.ctl.clock with
  | .measuring ticks => decide (Config.ms 25 < 2 * ticks)
  | _ => false

/-- CLOCK_MONITOR_TIMEOUT (R168). -/
def execClockMonitorTimeout (s : State) : Result :=
  .next (s.event fun t => if t.clockTimeoutDue then t.clockFailure else t)

end Sys2Proof.Machine
end

