-- ==== Sys2Proof/Machine/Idle.lean ====
section
/-! DEFINITION. What the part does while no command waits (DESIGN CHOICE, log entry 1): the events whose moment has come
join the queue, in an order the manual leaves free; and where none has, one tick of main time passes. -/

namespace Sys2Proof.Machine

/-! ## The events whose moment has come -/

/-- An event where its moment has come. -/
def dueIf (b : Bool) (i : Instr) : List Instr := if b then [i] else []

/-- The events of one channel whose moment has come (R85, R90, R92, R93). -/
def State.dueOfChannel (s : State) (c : Chan) : List Instr :=
  dueIf (s.pwmDue c) (.pwmPeriodStart c) ++ dueIf (s.windowDue c) (.confirmationWindowExpiry c) ++
    dueIf (s.driftDue c) (.driftTimerExpiry c) ++ dueIf (s.springDue c) (.springTimerExpiry c) ++
    dueIf (s.mismatchDue c) (.currentMismatchExpiry c)

/-- The line events whose moment has come (R98, R99, R135, R140). -/
def State.dueOfLines (s : State) : List Instr :=
  dueIf (s.liftDue .lift1 true) (.liftRaised .lift1) ++ dueIf (s.liftDue .lift1 false) (.liftLowered .lift1) ++
    dueIf (s.liftDue .lift2 true) (.liftRaised .lift2) ++ dueIf (s.liftDue .lift2 false) (.liftLowered .lift2) ++
    dueIf (s.driverLineDue .seat) (.driverLineDebounced .seat) ++
    dueIf (s.driverLineDue .door) (.driverLineDebounced .door) ++ dueIf s.pairDue .pendantPairDebounced

/-- The monitor's events whose moment has come (R124, R126, R136, R138, R145). -/
def State.dueOfMonitor (s : State) : List Instr :=
  dueIf s.movingDue .movingTimerExpiry ++ dueIf s.standstillDue .standstillTimerExpiry ++
    dueIf s.watchDue .watchAfterExpiry ++ dueIf s.seatDue .seatTimerExpiry ++
    dueIf s.autoparkDue .autoparkTimerExpiry ++ dueIf s.trainDue .expiryTrainEnd

/-- The expiry of each record whose count ends with the 100 ms beat that has come round, and where there is none the count of
the others (R22, log entry 35). -/
def State.dueOfExpiries (s : State) : List Instr :=
  if s.beatDue then (match s.lastUnits with
    | [] => [.expiryCountdown]
    | handles => handles.map .holdExpiry)
  else []

/-- The events of the holds, the gate, the samples and the drive report whose moment has come (R22, R30, R32, R43, R117); a
sample set reads what the analog inputs show. -/
def State.dueOfHolds (s : State) : List Instr :=
  dueIf s.reliefDue .reliefTimerExpiry ++ s.dueOfExpiries ++ dueIf s.releaseDue .releaseTimerExpiry ++
    dueIf s.sampleDue (.sampleArrival s.meas.inputs) ++ dueIf s.driveStaleDue .driveReportStale

/-- The supervision events and the end of a commit, where their moment has come (R150, R151, R153, R154, R159, R168,
R201). -/
def State.dueOfModes (s : State) : List Instr :=
  dueIf s.windowOpensDue .keepaliveWindowOpens ++ dueIf s.windowClosesDue .keepaliveWindowCloses ++
    dueIf (s.deadlineDue .rollaway) (.criticalDeadlineExpiry .rollaway) ++
    dueIf (s.deadlineDue .short) (.criticalDeadlineExpiry .short) ++
    dueIf (s.modeTimerDue .start 2000) .startTimerExpiry ++ dueIf (s.modeTimerDue .retry 4000) .retryTimerExpiry ++
    dueIf (s.modeTimerDue .degraded 30000) .degradedTimerExpiry ++ dueIf s.clockTimeoutDue .clockMonitorTimeout ++
    dueIf s.commitDue .commitEnd

/-- Every event whose moment has come. -/
def State.dueEvents (s : State) : List Instr :=
  s.dueOfHolds ++ allChans.flatMap s.dueOfChannel ++ s.dueOfLines ++ s.dueOfMonitor ++ s.dueOfModes

/-! ## One tick of main time -/

/-- A channel's timers after one tick (R81, R85). -/
def Channel.tick (ch : Channel) : Channel :=
  { ch with
    window := ch.window.tick
    drift := ch.drift.tick
    spring := ch.spring.tick
    mismatch := ch.mismatch.tick
    pwm := countDown ch.pwm }

/-- A line's debouncing after one tick. -/
def Line.tick (l : Line) : Line := { l with debounce := l.debounce.tick }

/-- The lines' debouncing after one tick. -/
def Lines.tick (l : Lines) : Lines :=
  { l with
    seat := l.seat.tick
    door := l.door.tick
    lift1 := l.lift1.tick
    lift2 := l.lift2.tick
    pairDebounce := l.pairDebounce.tick }

/-- The monitor's timers after one tick. -/
def Monitor.tick (m : Monitor) : Monitor :=
  { m with
    standstill := m.standstill.tick
    moving := countDown m.moving
    watchAfter := m.watchAfter.tick
    seatTimer := m.seatTimer.tick
    autopark := m.autopark.tick
    train := m.train.tick
    warn := m.warn.tick }

/-- The clock monitor after one tick of main time (R168). -/
def Clock.tick : Clock → Clock
  | .measuring n => .measuring (n + 1)
  | c => c

/-- The release timer after one tick: it runs while the gate is ARMED and not suspended (R111). -/
def Gate.tick (g : Gate) : Gate :=
  if g.armed && !g.suspended then { g with remaining := countDown g.remaining } else g

/-- The table's timers after one tick; the beat of the expiries pauses in SLEEP (R22). -/
def HoldTable.tick (t : HoldTable) (awake : Bool) : HoldTable :=
  { t with relief := t.relief.tick, beat := if awake then t.beat + 1 else t.beat }

/-- The link's deadline timers after one tick (R151). -/
def Link.tick (l : Link) : Link :=
  { l with rollawayDeadline := l.rollawayDeadline.tick, shortDeadline := l.shortDeadline.tick }

/-- A commit in flight after one tick (R201). -/
def Store.tick (p : Store) : Store := { p with commit := p.commit.map fun k => { k with ticks := k.ticks + 1 } }

/-- One tick of main time passes: every running timer moves, and nothing else changes. -/
def State.advance (s : State) : State :=
  { s with
    now := s.now + 1
    link := s.link.tick
    table := s.table.tick s.awake
    meas := { s.meas with driveAge := s.meas.driveAge.tick, sampleTimer := s.meas.sampleTimer.tick }
    chans := Six.ofFn fun c => (s.chans.get c).tick
    gate := s.gate.tick
    mon := s.mon.tick
    lines := s.lines.tick
    ctl := { s.ctl with timer := s.ctl.timer.tick, clock := s.ctl.clock.tick }
    store := s.store.tick }

/-- The part with no command waiting: without power nothing happens; the events whose moment has come join the queue; and
where there is none, one tick passes. -/
def State.idle (s : State) : State :=
  if !s.powered then s
  else
    match s.dueEvents with
    | [] => s.advance
    | i :: is => { s with pending := arrange s.freeCount (i :: is), freeCount := s.freeCount + 1 }

end Sys2Proof.Machine
end

