-- ==== Sys2Proof/Machine/Outputs.lean ====
section
/-! DEFINITION. The part's output lines as functions of its state: the service and spring drives (5.2), and what the link
shifts out (R169). ATTN and WARN stand with the notices (Flags.lean). -/

namespace Sys2Proof.Machine

/-- The service drive line of a channel, per mille: the duty in force, and 0 under forcing (R85, R86) or without power. -/
def State.serviceDrive (s : State) (c : Chan) : Nat :=
  if s.powered && !s.forced then (s.chans.get c).dutyInForce else 0

/-- The spring drive line of a channel is energized: as its latch, and never under forcing (R84, R86) or without power. -/
def State.springDrive (s : State) (c : Chan) : Bool := s.powered && !s.forced && (s.chans.get c).latch

/-- The frame an exchange that begins now shifts out: the answer slot's (R169), which the wake by its own chip select sets
to the idle answer first (R164). -/
def State.outgoing (s : State) : List Byte := if s.awake then s.link.slot.frame else Answer.idle.frame

/-- What an exchange of so many bytes that begins now shifts out: the twelve bytes of the outgoing frame, and 00h for every
byte after the twelfth (R169, R170). DEDUCED (log entry 9): a part without power does not drive its output, which the host
reads as 00h throughout (9.10). -/
def State.shiftedOut (s : State) (bytes : Nat) : List Byte :=
  if s.powered then (s.outgoing ++ List.replicate (bytes - 12) 0).take bytes else List.replicate bytes 0

end Sys2Proof.Machine
end

