-- ==== Sys2Proof/Machine/Dispatch.lean ====
section
/-! DEFINITION. The meaning of each command: one arm per constructor, in the table's order. -/

namespace Sys2Proof.Machine

def exec (i : Instr) (s : State) : Host.Outcome State Fault Refusal :=
  match i with
  | .powerOnReset => Sys2Proof.Machine.execPowerOnReset s
  | .powerLoss => Sys2Proof.Machine.execPowerLoss s
  | .idleRequest => Sys2Proof.Machine.execIdleRequest s
  | .badframe echo => Sys2Proof.Machine.execBadframe echo s
  | .shortExchange received => Sys2Proof.Machine.execShortExchange received s
  | .unknownRequest code => Sys2Proof.Machine.execUnknownRequest code s
  | .ident => Sys2Proof.Machine.execIdent s
  | .status => Sys2Proof.Machine.execStatus s
  | .noticeMask enables => Sys2Proof.Machine.execNoticeMask enables s
  | .keepalive answer => Sys2Proof.Machine.execKeepalive answer s
  | .resync => Sys2Proof.Machine.execResync s
  | .sleep => Sys2Proof.Machine.execSleep s
  | .reset => Sys2Proof.Machine.execReset s
  | .openHold owner cls tagFlag tag expiry => Sys2Proof.Machine.execOpenHold owner cls tagFlag tag expiry s
  | .amendHold owner handle cls action value => Sys2Proof.Machine.execAmendHold owner handle cls action value s
  | .releaseHold owner handle => Sys2Proof.Machine.execReleaseHold owner handle s
  | .readHold handle => Sys2Proof.Machine.execReadHold handle s
  | .listHolds start => Sys2Proof.Machine.execListHolds start s
  | .driveState force gear => Sys2Proof.Machine.execDriveState force gear s
  | .drumState mode weightFlag weight => Sys2Proof.Machine.execDrumState mode weightFlag weight s
  | .readMeasure page => Sys2Proof.Machine.execReadMeasure page s
  | .readChannel channel page => Sys2Proof.Machine.execReadChannel channel page s
  | .channelRestore channel => Sys2Proof.Machine.execChannelRestore channel s
  | .profileRead item channel selector => Sys2Proof.Machine.execProfileRead item channel selector s
  | .profileWrite item channel value => Sys2Proof.Machine.execProfileWrite item channel value s
  | .profileCommit => Sys2Proof.Machine.execProfileCommit s
  | .commitEnd => Sys2Proof.Machine.execCommitEnd s
  | .sampleArrival readings => Sys2Proof.Machine.execSampleArrival readings s
  | .reliefTimerExpiry => Sys2Proof.Machine.execReliefTimerExpiry s
  | .pwmPeriodStart channel => Sys2Proof.Machine.execPwmPeriodStart channel s
  | .confirmationWindowExpiry channel => Sys2Proof.Machine.execConfirmationWindowExpiry channel s
  | .driftTimerExpiry channel => Sys2Proof.Machine.execDriftTimerExpiry channel s
  | .springTimerExpiry channel => Sys2Proof.Machine.execSpringTimerExpiry channel s
  | .springCurrentChange channel present => Sys2Proof.Machine.execSpringCurrentChange channel present s
  | .currentMismatchExpiry channel => Sys2Proof.Machine.execCurrentMismatchExpiry channel s
  | .rawLineChange reading => Sys2Proof.Machine.execRawLineChange reading s
  | .liftRaised line => Sys2Proof.Machine.execLiftRaised line s
  | .liftLowered line => Sys2Proof.Machine.execLiftLowered line s
  | .wheelPulse input => Sys2Proof.Machine.execWheelPulse input s
  | .movingTimerExpiry => Sys2Proof.Machine.execMovingTimerExpiry s
  | .standstillTimerExpiry => Sys2Proof.Machine.execStandstillTimerExpiry s
  | .watchAfterExpiry => Sys2Proof.Machine.execWatchAfterExpiry s
  | .driverLineDebounced line => Sys2Proof.Machine.execDriverLineDebounced line s
  | .seatTimerExpiry => Sys2Proof.Machine.execSeatTimerExpiry s
  | .autoparkTimerExpiry => Sys2Proof.Machine.execAutoparkTimerExpiry s
  | .pendantPairDebounced => Sys2Proof.Machine.execPendantPairDebounced s
  | .holdExpiry handle => Sys2Proof.Machine.execHoldExpiry handle s
  | .expiryTrainEnd => Sys2Proof.Machine.execExpiryTrainEnd s
  | .releaseTimerExpiry => Sys2Proof.Machine.execReleaseTimerExpiry s
  | .driveReportStale => Sys2Proof.Machine.execDriveReportStale s
  | .keepaliveWindowOpens => Sys2Proof.Machine.execKeepaliveWindowOpens s
  | .keepaliveWindowCloses => Sys2Proof.Machine.execKeepaliveWindowCloses s
  | .criticalDeadlineExpiry source => Sys2Proof.Machine.execCriticalDeadlineExpiry source s
  | .startTimerExpiry => Sys2Proof.Machine.execStartTimerExpiry s
  | .retryTimerExpiry => Sys2Proof.Machine.execRetryTimerExpiry s
  | .degradedTimerExpiry => Sys2Proof.Machine.execDegradedTimerExpiry s
  | .clkrefIntervalEnd => Sys2Proof.Machine.execClkrefIntervalEnd s
  | .clockMonitorTimeout => Sys2Proof.Machine.execClockMonitorTimeout s
  | .sleepEntry => Sys2Proof.Machine.execSleepEntry s
  | .wake cause => Sys2Proof.Machine.execWake cause s
  | .expiryCountdown => Sys2Proof.Machine.execExpiryCountdown s

end Sys2Proof.Machine
end

