-- ==== Sys2Proof/Safety.lean ====
section
/-! DEFINITION. What a safe run keeps: the laws of the device, block by block, as predicates of a state; and the
conditions under which a command acts, in the terms the claims use. -/

namespace Sys2Proof.Machine

/-! ## When a command acts -/

/-- The part takes the request of an exchange that ends now: it has power, is awake, and no SLEEP is pending (R163,
R164). -/
def State.takes (s : State) : Prop :=
  s.powered = true ∧ s.ctl.mode ≠ .sleep ∧ s.ctl.sleepPending = false

/-- The state with another answer in the slot and nothing else changed. -/
def State.withSlot (s : State) (a : Answer) : State := { s with link := { s.link with slot := a } }

/-- A DONE answer: the code echoed, reason NONE, and the payload filled with 00h (R173, R189). -/
def doneAnswer (code : Byte) (bytes : List Byte) : Answer := ⟨code, .done, .none, bytes ++ List.replicate (8 - bytes.length) 0⟩

/-- A REFUSED answer: the code echoed, the reason, and a payload of 00h (R173). -/
def refusedAnswer (code : Byte) (reason : Reason) : Answer := ⟨code, .refused, reason, [0, 0, 0, 0, 0, 0, 0, 0]⟩

/-- A command that an exchange of the link makes: a request, or an exchange that carries none (R169, R170). -/
def isExchange : Instr → Bool
  | .idleRequest => true
  | .badframe _ => true
  | .shortExchange _ => true
  | .unknownRequest _ => true
  | .ident => true
  | .status => true
  | .noticeMask _ => true
  | .keepalive _ => true
  | .resync => true
  | .sleep => true
  | .reset => true
  | .openHold _ _ _ _ _ => true
  | .amendHold _ _ _ _ _ => true
  | .releaseHold _ _ => true
  | .readHold _ => true
  | .listHolds _ => true
  | .driveState _ _ => true
  | .drumState _ _ _ => true
  | .readMeasure _ => true
  | .readChannel _ _ => true
  | .channelRestore _ => true
  | .profileRead _ _ _ => true
  | .profileWrite _ _ _ => true
  | .profileCommit => true
  | _ => false

/-- The command is a reset that acts: a power-on reset, or a RESET that is taken, with no commit in flight (R165, R167). -/
def State.resetsBy (s : State) (i : Instr) : Prop :=
  s.store.commit = none ∧
    (i = .powerOnReset ∨ (i = .reset ∧ s.takes ∧ (s.ctl.mode = .run ∨ s.ctl.mode = .degraded)))

/-- The conditions of SLEEP (R162): at standstill, a PARK record HELD, none ENGAGING, the gate idle, no commit. -/
def State.maySleep (s : State) : Prop :=
  s.mon.motion = .standstill ∧ (∃ r ∈ s.table.records, r.cls = .park ∧ r.state = .held) ∧
    (∀ r ∈ s.table.records, r.state ≠ .engaging) ∧ s.gate.armed = false ∧ s.store.commit = none

/-- A supervision fault arises in RUN (R152): a keepalive too soon or with a wrong answer, the window closing, or a critical
deadline. -/
def State.faultsBy (s : State) (i : Instr) : Prop :=
  s.powered = true ∧ s.ctl.mode = .run ∧
    ((∃ a, i = .keepalive a ∧ s.ctl.sleepPending = false ∧
        (s.ctl.phase = .wait ∨ (s.ctl.phase = .windowOpen ∧ a ≠ 255 - s.ctl.token))) ∨
      (i = .keepaliveWindowCloses ∧ s.ctl.phase = .windowOpen ∧ ∃ w, s.ctl.window = some w ∧ w.closes ≤ s.now) ∨
      ∃ src n, i = .criticalDeadlineExpiry src ∧ s.deadline src = .running n ∧ Config.ms 500 ≤ n)

/-- What an accepted keepalive makes of the Mode Controller's token and window (R149, R150). -/
def State.afterKeepalive (s : State) (phase : Phase) : Control :=
  { s.ctl with
    token := s.ctl.token + 37
    phase := phase
    window :=
      some ⟨s.now + Config.ms s.vehicle.keepalivePeriod.toNat / 2, s.now + Config.ms s.vehicle.keepalivePeriod.toNat⟩ }

/-- The blocks that an event of the holds does not touch: power, the clock, lines, profile, free values and queue. -/
def State.keepsRest (s t : State) : Prop :=
  t.powered = s.powered ∧ t.now = s.now ∧ t.lines = s.lines ∧ t.store = s.store ∧ t.freeCount = s.freeCount ∧
    t.pending = s.pending

/-- A is the F_req of a run over the table and the measurements as they stand (R28, R48). -/
def State.freshForce (t : State) : Prop := t.force = t.calculate ∧ t.table.applied = t.force.fReq

/-! ## Checks of the requests, by their codes -/

/-- An OPEN HOLD fails its field check (R13): an owner code other than 1..3, a class code other than 1..3, a PARK hold with an
expiry, or an expiry above 600. -/
def badOpenHold (owner cls : Byte) (expiry : Word16) : Prop :=
  ¬(1 ≤ owner.toNat ∧ owner.toNat ≤ 3) ∨ ¬(1 ≤ cls.toNat ∧ cls.toNat ≤ 3) ∨ (cls.toNat = 3 ∧ expiry.toNat ≠ 0) ∨
    600 < expiry.toNat

/-- The owner with a code has used its share of the table (R4): 2 records for SERVICE, 6 for CAB and DRUM. -/
def State.ownerFull (s : State) (owner : Byte) : Prop :=
  (if owner = 3 then 2 else 6) ≤ (s.table.records.filter fun r => r.owner.code == owner).length

/-- An AMEND HOLD fails its first field check (R15): a class or action code other than 1..3, or a SET out of 1..600. -/
def badAmendHold (cls action : Byte) (value : Word16) : Prop :=
  ¬(1 ≤ cls.toNat ∧ cls.toNat ≤ 3) ∨ ¬(1 ≤ action.toNat ∧ action.toNat ≤ 3) ∨
    (action = 1 ∧ ¬(1 ≤ value.toNat ∧ value.toNat ≤ 600))

/-- The expiry an AMEND HOLD leaves (R15, R16): 1 SET, 2 CLEAR, 3 KEEP. -/
def amendedExpiry (action : Byte) (value : Word16) (old : Option Nat) : Option Nat :=
  if action = 1 then some value.toNat else if action = 2 then none else old

/-- The owner with a code may release the record (R17): CAB the START and AUTOPARK records, and a ROLLAWAY record that has
been collected at standstill; CAB, DRUM and SERVICE each its own; nobody a FAILSAFE or a PENDANT record. -/
def State.mayRelease (s : State) (owner : Byte) (r : Record) : Prop :=
  match r.owner with
  | .monitor =>
    owner = 1 ∧
      (r.cause = some .start ∨ r.cause = some .autopark ∨
        (r.cause = some .rollaway ∧ r.collected = true ∧ s.mon.motion = .standstill))
  | .pendant => False
  | o => o.code = owner

/-- The effective drive force of a fresh report (R42, R43): the force within ±30000, and 0 where it disagrees with the
gear. -/
def driveOf (force : Word16) (gear : Byte) : Int :=
  let f : Int := max (-30000) (min force.toInt 30000)
  if gear = 1 then max f 0 else if gear = 2 then min f 0 else 0

/-- The gate condition over a run's figures and a drive force (R108). -/
def State.letsGo (s : State) (f : Force) (d : Int) : Prop :=
  f.fGrade ≤ s.vehicle.deadband.toNat ∨ (0 < d ∧ (s.vehicle.driveMargin.toNat : Int) ≤ d + f.fSigned) ∨
    (d < 0 ∧ d + f.fSigned ≤ -(s.vehicle.driveMargin.toNat : Int))

/-- A spring channel in E has its circuit supply-low (R112). -/
def State.lowSpring (s : State) : Prop :=
  ∃ c : Chan, s.eligible c = true ∧ (s.items c).springs = true ∧ s.lowSupply c = true

/-- The lock condition of the Profile Store (R198). -/
def State.lockOpen (s : State) : Prop :=
  s.ctl.mode = .run ∧ s.mon.motion = .standstill ∧
    ∃ r ∈ s.table.records, r.owner = .service ∧ r.cls = .park ∧ r.state = .held

/-- The sample timer of the part has run its 10 ms (R32). -/
def State.samplesNow (s : State) : Prop := ∃ n, s.meas.sampleTimer = .running n ∧ Config.ms 10 ≤ n

/-- A limit pulse on an input (R128): the reference is not CLEAR, the counter had not reached the limit, and with this pulse
it does. -/
def State.limitBy (s : State) (n : Chan) : Prop :=
  s.mon.ref ≠ .clear ∧ (s.mon.wheels.get n).reached = false ∧
    s.vehicle.creepLimit.toNat ≤ min ((s.mon.wheels.get n).creep + 1) 40

/-- A limit pulse whose counters stay (R128): it is counted up to 40 on its own input and its reached mark is set, so that the
input gives no second one; the other inputs stand. -/
def State.limitCounted (s t : State) (n : Chan) : Prop :=
  t.mon.wheels.get n = ⟨some s.now, min ((s.mon.wheels.get n).creep + 1) 40, true⟩ ∧
    (∀ m, m ≠ n → t.mon.wheels.get m = s.mon.wheels.get m) ∧ ¬t.limitBy n

/-- What a reading makes of a sensor (R33): out of range it is INVALID with no run; in range it is VALID with the reading, 0 for
a negative one, except that an INVALID sensor needs its fifth in a row. -/
def sensorReads (old : Sensor) (reading : Int) (new : Sensor) : Prop :=
  (reading < -20 ∨ 1200 < reading → new = .invalid 0) ∧
    (-20 ≤ reading → reading ≤ 1200 →
      (∀ n, old = .invalid n → n < 4 → new = .invalid (n + 1)) ∧
        ((∀ n, old = .invalid n → 4 ≤ n) → new = .valid reading.toNat))

/-- The figures of a circuit (R41): P − 50 and low below 550 for a VALID sensor, min_supply and low otherwise. -/
def supplyReads (minSupply : Nat) (u : Supply) : Prop :=
  (∀ p, u.sensor = .valid p → u.avail = p - 50 ∧ (u.low = true ↔ p < 550)) ∧
    ((∀ p, u.sensor ≠ .valid p) → u.avail = minSupply ∧ u.low = true)

/-- The mean of a full window, rounded away from zero (R36). -/
def isMean (window : List Int) (g : Int) : Prop :=
  window.sum.natAbs ≤ 16 * g.natAbs ∧ 16 * g.natAbs < window.sum.natAbs + 16 ∧ (0 ≤ window.sum → 0 ≤ g) ∧
    (window.sum ≤ 0 → g ≤ 0)

/-- The entry of the largest magnitude, the newest among equals (R36). -/
def isWorst (window : List Int) (g : Int) : Prop :=
  ∃ older newer, window = older ++ g :: newer ∧ (∀ x ∈ older, x.natAbs ≤ g.natAbs) ∧ ∀ x ∈ newer, x.natAbs < g.natAbs

/-- The window after a plausible reading: its newest sixteen entries (R35). -/
def joined (window : List Int) (x : Int) : List Int := (window ++ [x]).drop (window.length + 1 - 16)

/-- The channel has just become FAULTED with a cause, its outputs as its fail-safe action sets them (R95, R96). -/
def Channel.faultedFrom (new old : Channel) (v : ChannelItems) (cause : FaultCause) : Prop :=
  new =
    { old with
      state := .faulted
      cause := some cause
      confirmed := false
      latch := if v.failSafe = 2 then old.latch else false
      dutyBuffer := if v.failSafe = 2 then old.dutyInForce else 0
      window := .stopped
      drift := .stopped
      spring := .stopped
      mismatch := .stopped }

/-! ## What a record tells, and what a change of one makes -/

/-- The hold byte and the byte after it tell the record: owner, class, state and tag presence at their bits, then the cause of
a MONITOR record or the tag of any other, 00h where it is absent (R1, R189). -/
def Record.toldBy (r : Record) (b x : Byte) : Prop :=
  (b.extractLsb' 0 3).toNat = (match r.owner with
    | .cab => 1
    | .drum => 2
    | .service => 3
    | .pendant => 4
    | .monitor => 5) ∧
  (b.extractLsb' 3 2).toNat = (match r.cls with
    | .light => 1
    | .firm => 2
    | .park => 3) ∧
  (b.extractLsb' 5 2).toNat = (match r.state with
    | .engaging => 1
    | .held => 2
    | .releasing => 3) ∧
  b.getLsbD 7 = r.tag.isSome ∧
  (r.cause = none → x = r.tag.getD 0) ∧
  ∀ c, r.cause = some c → x.toNat = (match c with
    | .start => 1
    | .autopark => 2
    | .rollaway => 3
    | .failsafe => 4)

/-- The part right after the hold-set change in which one record takes another form under its own handle (R7, R16). -/
def State.withHold (s : State) (r : Record) : State :=
  ({ s with
      table :=
        { s.table with
          records := s.table.records.map fun x => if x.handle = r.handle then r else x } } : State).holdSetChange
    (parkLive s.table.records)

/-! ## A sample at the channels and the gate -/

/-- The service sensor of a channel in IDLE, SERVICE or SPRING has turned INVALID between two states (R94). -/
def State.losesSensor (s t : State) (c : Chan) : Prop :=
  (s.chans.get c).state.tested = true ∧ (∃ n, t.meas.psv.get c = .invalid n) ∧
    ∀ n, s.meas.psv.get c ≠ .invalid n

/-- The supply-low of some circuit differs between two states (R41). -/
def State.lowDiffers (s t : State) : Prop :=
  s.meas.supplyA.low ≠ t.meas.supplyA.low ∨ s.meas.supplyB.low ≠ t.meas.supplyB.low

/-- The P_avail of some channel in E lies more than 20 kPa from the P_avail used (R62). -/
def State.availStrays (s t : State) : Prop :=
  ∃ (c : Chan) (used : Nat), (s.dist.cmds.get c).availUsed = some used ∧
    (used + 20 < t.avail c ∨ t.avail c + 20 < used)

/-- A sensed pressure lies in the band of a channel's state (R89): within 30 kPa of the command in SERVICE, at most 30 kPa in
IDLE. -/
def withinBand (state : ChanState) (command p : Nat) : Prop :=
  (state = .service → command ≤ p + 30 ∧ p ≤ command + 30) ∧ (state ≠ .service → p ≤ 30)

/-- The pressure tests are made on a channel (R89, R91, R102): in IDLE and SERVICE, but for FAILSAFE with HOLD_LAST. -/
def Channel.judgedByPressure (ch : Channel) (v : ChannelItems) : Prop :=
  (ch.state = .service ∨ ch.state = .idle) ∧ ¬(ch.override = .failsafe ∧ v.failSafe = 2)

/-- What a VALID service pressure makes of a channel whose command stands (R89, R91): it confirms an unconfirmed channel whose
duty is in force, ends the drift of a confirmed one inside the band, and starts it or lets it run outside; a channel on which
the tests are not made stands. -/
def Channel.pressedTo (new old : Channel) (v : ChannelItems) (command p : Nat) : Prop :=
  (¬old.judgedByPressure v → new = old) ∧
    (old.judgedByPressure v → old.confirmed = false →
      (withinBand old.state command p → old.dutyInForce = old.dutyBuffer →
          new = { old with confirmed := true, window := .stopped }) ∧
        (¬(withinBand old.state command p ∧ old.dutyInForce = old.dutyBuffer) → new = old)) ∧
    (old.judgedByPressure v → old.confirmed = true →
      (withinBand old.state command p → new = { old with drift := .stopped }) ∧
        (¬withinBand old.state command p →
          new = { old with drift := if old.drift.isRunning then old.drift else .running 0 }))

/-- The supply cause of suspension after an event (R112): a PARK hold was being released, and a spring channel in E is
supply-low now. -/
def State.heldLow (s t : State) : Prop := (∃ x ∈ s.table.records, x.cls = .park) ∧ t.lowSpring

/-- Every creep counter stands at 0 and every reached mark is clear (R126, R128). -/
def State.countersAtZero (s : State) : Prop :=
  ∀ c, (s.mon.wheels.get c).creep = 0 ∧ (s.mon.wheels.get c).reached = false

/-- No opening of the part's own can follow the emptying of the table within the event: the autopark timer has not run out
(R138), and no pendant opening is owed for lack of room (R26). -/
def State.nothingFollows (s : State) : Prop := s.mon.autopark ≠ .ranOut ∧ s.mon.pendantWant ≠ .untilRoom

/-- The autopark inhibit after the retirement of a record (R139): set by an AUTOPARK record, and else as it was. -/
def State.inhibitedBy (t s : State) (r : Record) : Prop :=
  (r.cause = some .autopark → t.mon.inhibit = true) ∧ (r.cause ≠ some .autopark → t.mon.inhibit = s.mon.inhibit)

/-- What a drive-off leaves of the holds and the reference (R116, R126, R139): the gate idle, HOLDS raised, A at the F_req over
the table, every counter at 0, and the inhibit set by an AUTOPARK record; the table is empty, with A at 0 and the reference
CLEAR without a watch-after, but for a hold that the part itself opens in the same event. -/
def State.drivenOff (s t : State) : Prop :=
  t.gate = ⟨false, 0, none, false, false⟩ ∧ t.link.pending.getLsbD 0 = true ∧ t.freshForce ∧ t.countersAtZero ∧
    (∀ r ∈ s.table.records, t.inhibitedBy s r) ∧
    (t.table.records = [] → t.mon.ref = .clear ∧ t.mon.watchAfter = .stopped ∧ t.table.applied = 0) ∧
    (s.nothingFollows → t.table.records = [])

/-- The truck drives off or stays (R109, R116): where the gate condition holds over a run's forces and a drive force, the
RELEASING record is retired by a drive-off; where not, the records stand under a gate that has no supply cause. -/
def State.judgedBy (s t : State) (f : Force) (d : Int) : Prop :=
  (s.letsGo f d → (∀ x ∈ t.table.records, x.state ≠ .releasing) ∧ s.drivenOff t) ∧
    (¬s.letsGo f d → t.gate = { s.gate with supplyCause := false } ∧ t.table.records = s.table.records)

/-- An armed gate decides its supply cause afresh (R112, R114, R115): the cause as a PARK release finds it, SUPPLY at its
beginning and its end, and at its end the gate judges, unless the mode still suspends it. -/
def State.decidesSupply (s t : State) : Prop :=
  (s.heldLow t → t.gate = { s.gate with supplyCause := true } ∧ t.table.records = s.table.records ∧
      (s.gate.supplyCause = false → t.link.pending.getLsbD 4 = true)) ∧
    (¬s.heldLow t → s.gate.supplyCause = false → t.gate = s.gate ∧ t.table.records = s.table.records) ∧
    (¬s.heldLow t → s.gate.supplyCause = true → t.link.pending.getLsbD 4 = true ∧
      (s.gate.modeCause = true →
        t.gate = { s.gate with supplyCause := false } ∧ t.table.records = s.table.records) ∧
      (s.gate.modeCause = false → s.judgedBy t s.force s.meas.drive))

/-- A release is cancelled by the mode (R11, R119): the gate idle, each record back to HELD, HOLDS raised; and where no hold
follows in the same event, HOLDS tells the handle and MODE, and the table's other figures, A, the forces and the distribution
stand. -/
def State.releaseCancelled (s t : State) (nothingOpens : Prop) : Prop :=
  t.gate = ⟨false, 0, none, false, false⟩ ∧
    (∀ r ∈ s.table.records, { r with state := .held } ∈ t.table.records) ∧ t.link.pending.getLsbD 0 = true ∧
    (nothingOpens →
      t.table = { s.table with records := s.table.records.map fun r => { r with state := .held } } ∧
        t.link.lastHandle = s.gate.handle ∧ t.link.lastReason = .mode ∧ t.force = s.force ∧ t.dist = s.dist)

/-! ## Autopark -/

/-- The autopark condition but for its timer (R138, R139): no PARK hold live, and in RUN the driver ABSENT and no inhibit, or
DEGRADED. -/
def State.parksWith (s : State) (absent : Prop) : Prop :=
  (∀ r ∈ s.table.records, r.cls ≠ .park) ∧
    ((s.ctl.mode = .run ∧ absent ∧ s.mon.inhibit = false) ∨ s.ctl.mode = .degraded)

/-- The part has opened its AUTOPARK hold (R25, R138): a live MONITOR record of class PARK and cause AUTOPARK, the last HOLDS
event, with no release under way and A at the F_req over the table. -/
def State.parkedFrom (t s : State) : Prop :=
  (∃ r ∈ t.table.records, r.owner = .monitor ∧ r.cls = .park ∧ r.cause = some .autopark ∧
      t.link.lastHandle = r.handle) ∧
    (∀ r ∈ t.table.records, r.state ≠ .releasing) ∧ t.gate.armed = false ∧ t.link.pending.getLsbD 0 = true ∧
    t.freshForce ∧ (s.table.records = [] → t.mon.ref = .holding)

/-! ## The pendant -/

/-- The pendant pair of a combination of its lines (R140). -/
def pairRead (pa pb : Bool) : PairState := if pa = pb then .lineFault else if pa then .asking else .notAsking

/-- No PENDANT record is live but one that is being released (R26, R141). -/
def State.noPendant (s : State) : Prop := ∀ r ∈ s.table.records, r.owner = .pendant → r.state = .releasing

/-- The part has opened its PENDANT hold (R5, R26): a PENDANT FIRM record under a handle of its own after the records that
stay, no release under way, A at the F_req over the table, nothing wanted any more, and the reference set where the table was
empty. -/
def State.pendantOpened (t s : State) (kept : List Record) : Prop :=
  (∃ h st, (1 ≤ h ∧ h ≤ 255) ∧ (∀ r ∈ kept, r.handle ≠ h) ∧ st ≠ RecState.releasing ∧
      ⟨h, .pendant, .firm, st, none, none, none, false⟩ ∈ t.table.records ∧
      (holdSet kept ++ [(h, HoldClass.firm)]).Sublist (holdSet t.table.records)) ∧
    (∀ r ∈ t.table.records, r.state ≠ .releasing) ∧ t.gate.armed = false ∧ t.freshForce ∧ t.mon.pendantWant = .none ∧
    (s.table.records = [] → t.mon.ref = .holding)

/-- A pendant opening found no room (R26): the table stands, the opening is owed, and HOLDS tells it with handle 0 and FULL,
once for each time the line comes to ask. -/
def State.pendantTurnedAway (s t : State) (told : Bool) : Prop :=
  t.table = s.table ∧ t.mon.pendantWant = .untilRoom ∧
    (told = false → t.link.pending.getLsbD 0 = true ∧ t.link.lastHandle = 0 ∧ t.link.lastReason = .full) ∧
    (told = true → t.link = s.link)

/-- A pendant opening is owed for lack of room while there is no room and the line asks, and not otherwise (R26, R142). -/
def State.pendantSettled (s : State) : Prop :=
  s.mon.pendantWant = .untilRoom → 12 ≤ nonMonitorCount s.table.records ∧ s.lines.pair ≠ .notAsking

/-- No autopark is owed (R138): wherever the autopark timer has run out, its condition does not hold. -/
def State.autoparkSettled (s : State) : Prop :=
  s.mon.autopark = .ranOut → ¬s.parksWith (s.mon.driverPresent = false)

/-- The gate at the entry into RUN (R113, R115, R155): its mode cause ends, and where that was the last cause it judges, over
the latest run and the drive force; a hold that it lets stand is then met by an AUTOPARK opening where one is owed (R138). -/
def State.judgedAtRun (s t : State) : Prop :=
  let parks := s.mon.autopark = .ranOut ∧ (∀ r ∈ s.table.records, r.cls ≠ .park) ∧ s.mon.driverPresent = false ∧
    s.mon.inhibit = false
  (s.gate.supplyCause = true ∨ ¬s.letsGo s.force s.meas.drive →
      (¬parks → t.gate = { s.gate with modeCause := false } ∧ t.table.records = s.table.records) ∧
        (parks → t.parkedFrom s)) ∧
    (s.gate.supplyCause = false → s.letsGo s.force s.meas.drive →
      s.drivenOff t ∧ ∀ r ∈ t.table.records, r.state ≠ .releasing)

/-! ## Sleep -/

/-- A line's 50 ms do not run. -/
def Line.atRest (l : Line) : Prop := l.debounce = .stopped

/-- What a part in SLEEP does not run (R32, R135, R143, R163): sample sets come just while the part is awake, and in SLEEP no
line is debounced and the clock monitor, the relief timer, the seat timer and the pulse train stand still. -/
def State.sleepSound (s : State) : Prop :=
  (s.meas.sampleTimer.isRunning = true ↔ s.ctl.mode ≠ .sleep) ∧
    (s.ctl.mode = .sleep →
      s.lines.seat.atRest ∧ s.lines.door.atRest ∧ s.lines.lift1.atRest ∧ s.lines.lift2.atRest ∧
        s.lines.pairDebounce = .stopped ∧ s.table.relief = .stopped ∧ s.mon.seatTimer = .stopped ∧
        s.mon.train = .stopped ∧ s.ctl.clock = .stopped)

/-! ## The counts of the expiries -/

/-- The record's count runs and stands at its last unit (R22). -/
abbrev Record.endsNext (r : Record) : Prop := r.state ≠ .releasing ∧ r.expiry = some 1

/-- What one beat makes of the counts (R22): a count that runs and is above 1 falls by 1; of any other record the expiry
stands. -/
def Record.countedTo (r : Record) : Option Nat :=
  if r.state = .releasing then r.expiry else r.expiry.map fun n => n - 1

/-! ## One tick of main time -/

/-- A timer one tick later: a running one has run one tick more, any other stands. -/
def Timer.movesTo (x y : Timer) : Prop := (∀ n, x = .running n → y = .running (n + 1)) ∧ (x.isRunning = false → y = x)

/-- A time left one tick later. -/
def leftAfter (x y : Option Nat) : Prop := (∀ n, x = some n → y = some (n - 1)) ∧ (x = none → y = none)

/-- A channel one tick later: its four test timers and its PWM count move, the rest stands (R81, R85). -/
def Channel.movesTo (x y : Channel) : Prop :=
  x.window.movesTo y.window ∧ x.drift.movesTo y.drift ∧ x.spring.movesTo y.spring ∧ x.mismatch.movesTo y.mismatch ∧
    leftAfter x.pwm y.pwm ∧
    y = { x with window := y.window, drift := y.drift, spring := y.spring, mismatch := y.mismatch, pwm := y.pwm }

/-- A line one tick later: its debounce moves, its levels stand. -/
def Line.movesTo (x y : Line) : Prop := x.debounce.movesTo y.debounce ∧ y = { x with debounce := y.debounce }

/-- The part one tick of main time later: each running timer has run one tick more, the beat of the expiries too while awake
(R22), the release timer one tick less while the gate is ARMED and not suspended (R111), and nothing else has changed. -/
def State.movesTo (s t : State) : Prop :=
  t = { s with
        now := s.now + 1
        link :=
          { s.link with rollawayDeadline := t.link.rollawayDeadline, shortDeadline := t.link.shortDeadline }
        table :=
          { s.table with
            relief := t.table.relief
            beat := if s.ctl.mode = .sleep then s.table.beat else s.table.beat + 1 }
        meas := { s.meas with driveAge := t.meas.driveAge, sampleTimer := t.meas.sampleTimer }
        chans := t.chans
        gate := { s.gate with remaining := t.gate.remaining }
        mon :=
          { s.mon with
            standstill := t.mon.standstill
            moving := t.mon.moving
            watchAfter := t.mon.watchAfter
            seatTimer := t.mon.seatTimer
            autopark := t.mon.autopark
            train := t.mon.train
            warn := t.mon.warn }
        lines := t.lines
        ctl := { s.ctl with timer := t.ctl.timer, clock := t.ctl.clock }
        store := { s.store with commit := s.store.commit.map fun k => { k with ticks := k.ticks + 1 } } } ∧
    s.link.rollawayDeadline.movesTo t.link.rollawayDeadline ∧ s.link.shortDeadline.movesTo t.link.shortDeadline ∧
    s.table.relief.movesTo t.table.relief ∧ s.meas.driveAge.movesTo t.meas.driveAge ∧
    s.meas.sampleTimer.movesTo t.meas.sampleTimer ∧
    (∀ c, (s.chans.get c).movesTo (t.chans.get c)) ∧
    (s.gate.armed = true → s.gate.supplyCause = false → s.gate.modeCause = false →
      leftAfter s.gate.remaining t.gate.remaining) ∧
    (s.gate.armed = false ∨ s.gate.supplyCause = true ∨ s.gate.modeCause = true →
      t.gate.remaining = s.gate.remaining) ∧
    (s.mon.standstill.movesTo t.mon.standstill ∧ leftAfter s.mon.moving t.mon.moving ∧
      s.mon.watchAfter.movesTo t.mon.watchAfter ∧ s.mon.seatTimer.movesTo t.mon.seatTimer ∧
      s.mon.autopark.movesTo t.mon.autopark ∧ s.mon.train.movesTo t.mon.train ∧
      (∀ n, s.mon.warn = .pulse n → t.mon.warn = .pulse ((n + 1) % 1000)) ∧
      ((∀ n, s.mon.warn ≠ .pulse n) → t.mon.warn = s.mon.warn)) ∧
    (s.lines.seat.movesTo t.lines.seat ∧ s.lines.door.movesTo t.lines.door ∧ s.lines.lift1.movesTo t.lines.lift1 ∧
      s.lines.lift2.movesTo t.lines.lift2 ∧ s.lines.pairDebounce.movesTo t.lines.pairDebounce ∧
      t.lines.pa = s.lines.pa ∧ t.lines.pb = s.lines.pb ∧ t.lines.pair = s.lines.pair) ∧
    s.ctl.timer.movesTo t.ctl.timer ∧
    (∀ n, s.ctl.clock = .measuring n → t.ctl.clock = .measuring (n + 1)) ∧
    ((∀ n, s.ctl.clock ≠ .measuring n) → t.ctl.clock = s.ctl.clock)

/-! ## A written item -/

/-- What a changed item of the working profile is handed on to, with the gate idle (R58, R103, R200). The figures of the Force
Calculator (vehicle items 0, 1, 3 to 12) make it run and offer; μ (2) and the items of a channel's commands (4 to 8) make the
Distribution Unit run; a load item (9 to 13) derives the loads first; fitted, role, has_spring and the lift line (0 to 3)
rebuild the channel's record; any other item changes nothing beside the profile. -/
def State.handedOn (s t : State) : Item → Prop
  | .vehicle i =>
    ((i ≤ 1 ∨ (3 ≤ i ∧ i ≤ 12)) →
      t.force = t.calculate ∧ t.table.applied = max s.table.applied t.force.fReq ∧ t.meas = s.meas ∧
        (t.table.applied = s.table.applied → t.dist = s.dist ∧ t.chans = s.chans) ∧
        (t.table.applied ≠ s.table.applied → t.dist = t.distribution s.meas.loads)) ∧
      (i = 2 → t.dist = t.distribution s.meas.loads ∧ t.force = s.force ∧ t.table.applied = s.table.applied ∧
        t.meas = s.meas) ∧
      (12 < i → t.dist = s.dist ∧ t.chans = s.chans ∧ t.force = s.force ∧ t.table = s.table ∧ t.meas = s.meas)
  | .channel c i =>
    t.force = s.force ∧ t.table.applied = s.table.applied ∧
      (i ≤ 3 →
        t.dist = t.distribution t.meas.loads ∧ (∀ d, t.meas.loads.get d = t.loadOf d) ∧
          t.meas = { s.meas with loads := t.meas.loads, weight := t.weightOf t.meas.loads } ∧
          (t.chans.get c).lift = t.liftLevel c ∧ (t.chans.get c).cause = none ∧
          ((t.items c).isFitted = false →
            (t.chans.get c).state = .absent ∧ (t.chans.get c).latch = false ∧ (t.chans.get c).dutyBuffer = 0 ∧
              (t.chans.get c).confirmed = false) ∧
          ((t.items c).isFitted = true → (t.items c).line.isSome = true → t.liftLevel c = true →
            (t.chans.get c).state = .lifted ∧ (t.chans.get c).latch = false ∧ (t.chans.get c).dutyBuffer = 0 ∧
              (t.chans.get c).confirmed = false) ∧
          ((t.items c).isFitted = true → (t.items c).line = none ∨ t.liftLevel c = false →
            (t.chans.get c).state.tested = true ∧ (t.dist.cmds.get c).requested.isSome = true)) ∧
      (4 ≤ i → i ≤ 8 → t.dist = t.distribution s.meas.loads ∧ t.meas = s.meas) ∧
      (9 ≤ i → i ≤ 13 →
        (∀ d, t.meas.loads.get d = t.loadOf d) ∧ t.meas = { s.meas with loads := t.meas.loads } ∧
          t.dist = t.distribution t.meas.loads) ∧
      (13 < i → t.dist = s.dist ∧ t.chans = s.chans ∧ t.table = s.table ∧ t.meas = s.meas)
  | .commitCount => True

/-! ## Answers (R173) -/

/-- An answer is whole (R173, R180): eight payload bytes; a DONE or PENDING answer carries reason NONE; a REFUSED one a
reason that answers carry, and a payload of 00h. -/
def Answer.sound (a : Answer) : Prop :=
  a.payload.length = 8 ∧
    match a.cls with
    | .refused =>
      a.reason ≠ .none ∧ a.reason ≠ .releaseTimeout ∧ a.payload = [0, 0, 0, 0, 0, 0, 0, 0]
    | _ => a.reason = .none

/-! ## The Hold Table and the Release Gate (R1 to R5, R11, R106) -/

/-- The fields of a record agree with each other (R1, R2). -/
def Record.sound (r : Record) : Prop :=
  (1 ≤ r.handle ∧ r.handle ≤ 255) ∧
    (r.owner = .monitor ↔ r.cause.isSome) ∧
    (r.owner = .monitor → r.cls = .park) ∧
    (r.owner = .pendant → r.cls = .firm) ∧
    (r.owner = .monitor ∨ r.owner = .pendant → r.tag = none) ∧
    (r.cls = .park ∨ r.owner = .pendant → r.expiry = none) ∧
    (r.expiry ≠ some 0 ∧ r.expiry.getD 1 ≤ 600)

/-- The limits of the table (R4): 16 records, 12 of owners other than MONITOR, each owner's own, and one of each cause. -/
def withinLimits (records : List Record) : Prop :=
  records.length ≤ 16 ∧
    nonMonitorCount records ≤ 12 ∧
    ownedBy records .cab ≤ 6 ∧
    ownedBy records .drum ≤ 6 ∧
    ownedBy records .service ≤ 2 ∧
    ownedBy records .pendant ≤ 1 ∧
    ∀ c ∈ [Cause.start, .autopark, .rollaway, .failsafe], (records.filter fun r => r.cause == some c).length ≤ 1

/-- The laws of the table (R1 to R5): sound records, distinct handles, the counter in 1..255, and the limits. -/
def HoldTable.sound (t : HoldTable) : Prop :=
  (∀ r ∈ t.records, r.sound) ∧
    (t.records.map Record.handle).Nodup ∧
    (1 ≤ t.nextHandle ∧ t.nextHandle ≤ 255) ∧
    withinLimits t.records

/-- The gate stands over the one live record, which is RELEASING, or is idle with no record RELEASING (6.2, R106); armed,
it has the mode cause of suspension outside RUN alone (R113), and it is armed in START, RETRY, RUN and DEGRADED alone. -/
def State.gateSound (s : State) : Prop :=
  if s.gate.armed then
    (∀ r ∈ s.table.records, r.state = .releasing ∧ r.handle = s.gate.handle) ∧
      s.table.records.length = 1 ∧
      s.gate.remaining.isSome ∧
      (s.gate.modeCause = true ↔ s.ctl.mode ≠ .run) ∧
      s.ctl.mode ≠ .safe ∧ s.ctl.mode ≠ .sleep
  else s.gate = .idle ∧ ∀ r ∈ s.table.records, r.state ≠ .releasing

/-- The holds of the part are sound: table and gate. -/
def State.holdsSound (s : State) : Prop := s.table.sound ∧ s.gateSound

/-! ## The forces (R28, R56, R73) -/

/-- The force a set of holds calls for is met by a figure: it is 0 for an empty table, and at least the floor of every live
class otherwise (R28, R56). -/
def coversFloors (v : VehicleItems) (records : List Record) (force : Nat) : Prop :=
  (records = [] → force = 0) ∧ ∀ r ∈ records, v.floor r.cls ≤ force

/-- A and F_req cover the floors of the live classes (R28), and while SHORT is clear the assigned forces sum to at least A
(R73). -/
def State.forcesSound (s : State) : Prop :=
  coversFloors s.vehicle s.table.records s.table.applied ∧
    coversFloors s.vehicle s.table.records s.force.fReq ∧
    (s.dist.short = none → s.table.applied ≤ s.dist.total)

/-! ## The distribution (R61, R75, R78) -/

/-- The entry of a channel in the distribution in force is within its bounds (R61, R75, R78). -/
def Command.sound (k : Command) : Prop :=
  k.duty ≤ 1000 ∧
    (k.requested = none → k = .outside) ∧
    (k.requested ≠ none → k.availUsed.isSome) ∧
    k.pressure ≤ k.availUsed.getD 0 ∧
    (k.requested ≠ some .service → k.share = 0 ∧ k.pressure = 0 ∧ k.duty = 0) ∧
    (k.requested = some .service → 0 < k.share) ∧
    (k.requested ≠ some .spring → k.spring = 0)

/-- A channel takes part in carrying A just where the distribution has a request for it (R64, R78, R82), a channel that
is not fitted is ABSENT (R82), and the current mismatch timer runs in IDLE, SERVICE and SPRING alone (R93). -/
def State.memberSound (s : State) (c : Chan) : Prop :=
  ((s.dist.cmds.get c).requested.isSome = (s.chans.get c).state.tested) ∧
    ((s.chans.get c).state = .absent ↔ (s.items c).isFitted = false) ∧
    ((s.chans.get c).mismatch.isRunning = true → (s.chans.get c).state.tested = true)

/-- The distribution in force is sound. -/
def State.distSound (s : State) : Prop := ∀ c : Chan, (s.dist.cmds.get c).sound ∧ s.memberSound c

/-- The report has been heard (R9, R88): while the distribution in force is confirmed, E not empty and every channel in E
confirmed, no record is ENGAGING. -/
def State.reportSound (s : State) : Prop :=
  (∃ c, s.eligible c = true) → (∀ c, s.eligible c = true → (s.chans.get c).confirmed = true) →
    ∀ r ∈ s.table.records, r.state ≠ .engaging

/-! ## A change of a lift line (R98, R99) -/

/-- A channel on a line that reads a new debounced level is moved by it (R98, R99): a raised line lifts a channel in E, a
lowered one brings a LIFTED channel down. -/
def State.movesBy (s : State) (raised : Bool) (c : Chan) : Prop :=
  (raised = true → (s.chans.get c).state.tested = true) ∧ (raised = false → (s.chans.get c).state = .lifted)

/-- The run that a lift or a lowering of a channel makes (R62, R63, R74, R98, R99): the channel has moved, the loads and the
weight are derived afresh, and the run is over them; SHORT raises its notice where this run changes it from clear to set.
With the gate idle nothing else comes of it, and A stands; an armed gate decides its supply cause. -/
def State.runsFor (s t : State) (c : Chan) : Prop :=
  let w := (s.withChan c (t.chans.get c)).deriveWeight
  let d := w.distribution w.meas.loads
  (s.dist.short = none → d.short ≠ none → t.link.pending.getLsbD 2 = true) ∧
    (s.gate.armed = false →
      t.dist = d ∧ t.meas = w.meas ∧ t.table.applied = s.table.applied ∧
        t.link.pending.getLsbD 2 = (s.link.pending.getLsbD 2 || s.dist.short.isNone && d.short.isSome)) ∧
    (s.gate.armed = true → s.holdsSound → s.decidesSupply t)

/-- The event of one channel whose lift line reads a new debounced level (R63, R98, R99): the level is recorded; a channel
that it moves has a run of its own, and a FAULTED channel, or one that stands so already, the record alone. Another channel
stands as it was where it is out of E, and in E stays there, changed only by a new command. -/
def State.followsLine (s t : State) (raised : Bool) (c : Chan) : Prop :=
  s.keepsRest t ∧ t.ctl = s.ctl ∧ (t.chans.get c).lift = raised ∧
    (s.movesBy raised c → s.runsFor t c) ∧
    (¬s.movesBy raised c →
      ∃ warn, t =
        { s with
          chans := s.chans.put c { s.chans.get c with lift := raised }
          mon := { s.mon with warn := warn } }) ∧
    ∀ b, b ≠ c →
      ((s.chans.get b).state.tested = false → t.chans.get b = s.chans.get b) ∧
        ((s.chans.get b).state.tested = true → (t.chans.get b).state.tested = true ∧
          (s.gate.armed = false → (s.dist.cmds.get b).requested = (t.dist.cmds.get b).requested →
            (s.dist.cmds.get b).pressure = (t.dist.cmds.get b).pressure →
            (s.dist.cmds.get b).duty = (t.dist.cmds.get b).duty → t.chans.get b = s.chans.get b))

/-- The channels of a list follow their lift line in turn, each in an event of its own (R63). -/
def State.followInTurn (raised : Bool) : List Chan → State → State → Prop
  | [], s, t => t = s
  | c :: cs, s, t => ∃ u, s.followsLine u raised c ∧ u.followInTurn raised cs t

/-! ## The springs (R82, R84) -/

/-- What a channel's latch owes to its state and its request: DE-ENERGIZED without springs, in ABSENT and LIFTED, and in E
where SPRING is requested (R82, R84, R102). -/
def State.latchSound (s : State) (c : Chan) : Prop :=
  ((s.items c).springs = false ∨ (s.chans.get c).state = .absent ∨ (s.chans.get c).state = .lifted ∨
      ((s.chans.get c).state ≠ .faulted ∧ (s.dist.cmds.get c).requested = some .spring) →
    (s.chans.get c).latch = false)

/-- The placement of case P: while a PARK hold is live, every spring channel in E is requested SPRING (R69). -/
def State.parkPlaced (s : State) : Prop :=
  parkLive s.table.records = true →
    ∀ c : Chan, s.eligible c = true → (s.items c).springs = true → (s.dist.cmds.get c).requested = some .spring

/-- The spring brakes are applied on a channel: its spring drive line is de-energized. -/
def State.springsOn (s : State) (c : Chan) : Prop := s.springDrive c = false

/-- The springs are sound: latches as the requests ask, and requests as a PARK hold asks. -/
def State.springsSound (s : State) : Prop :=
  (∀ c : Chan, s.latchSound c ∧ s.memberSound c) ∧ s.parkPlaced

/-! ## The Mode Controller (R146, R160, R202) -/

/-- The state of the Mode Controller agrees with its mode (R146, R152, R168): phases, mode timer, the degradation count, a
pending sleep in RUN alone, and a failed clock in SAFE alone. -/
def Control.sound (k : Control) : Prop :=
  k.degradations ≤ 3 ∧
    (k.degradations = 3 → k.mode = .safe) ∧
    (k.sleepPending = true → k.mode = .run) ∧
    (k.clock = .failed → k.mode = .safe) ∧
    (k.clock = .stopped ↔ k.mode = .sleep) ∧
    (match k.mode with
    | .start => k.phase = .first ∧ k.timer ≠ .stopped ∧ k.window = none
    | .retry => k.phase = .first ∧ k.timer ≠ .stopped ∧ k.window = none
    | .run => (k.phase = .wait ∨ k.phase = .windowOpen) ∧ k.timer = .stopped ∧ k.window.isSome
    | .degraded =>
      (match k.phase with
      | .awaitResync => k.window = none
      | .resync run _ => run ≤ 2 ∧ k.window.isSome
      | _ => False) ∧
        k.timer ≠ .stopped
    | .safe => k.phase = .none ∧ k.timer = .stopped ∧ k.window = none
    | .sleep => k.phase = .none ∧ k.timer = .stopped ∧ k.window = none)

/-- The supervision is sound: the Mode Controller, and the critical deadlines in RUN alone (R151). -/
def State.controlSound (s : State) : Prop :=
  s.ctl.sound ∧ (s.ctl.mode ≠ .run → s.link.rollawayDeadline = .stopped ∧ s.link.shortDeadline = .stopped)

/-- The commits that have reached their end and the one in flight are at most 2000 (R202). -/
def Store.sound (p : Store) : Prop := p.count + (if p.commit.isSome then 1 else 0) ≤ 2000

/-! ## The measurements (R37, R38, R40) -/

/-- |G| never exceeds 600, nor does any entry of the window, which holds at most 16; a forced grade is +600; the count of
implausible readings is at most 4 between readings; and W never exceeds 65000 or gross_weight's range (R35 to R38). -/
def Measure.gradeSound (m : Measure) : Prop :=
  m.grade.natAbs ≤ 600 ∧
    m.window.length ≤ 16 ∧
    (∀ x ∈ m.window, x.natAbs ≤ 600) ∧
    (m.forced = true → m.grade = 600 ∧ m.implausible = 0 ∧ m.window.length < 16) ∧
    m.implausible < 5

/-! ## The Standstill Monitor (R126 to R133) -/

/-- One wheel input's counter is in range (R128). -/
def Wheel.sound (w : Wheel) : Prop := w.creep ≤ 40

/-- The reference follows the table (R126), counters stand at 0 while it is CLEAR (R128), and the rollaway stage follows
the ROLLAWAY record and TRACTION_LOST: CAUGHT while the record is ENGAGING, SECURED or LOST once it is HELD (R129, R131 to
R133). -/
def State.referenceSound (s : State) : Prop :=
  (s.mon.ref = .holding ↔ s.table.records ≠ []) ∧
    (s.mon.watchAfter.isRunning = true ↔ s.mon.ref = .watch) ∧
    (∀ c : Chan, (s.mon.wheels.get c).sound) ∧
    (s.mon.ref = .clear → ∀ c : Chan, (s.mon.wheels.get c).creep = 0 ∧ (s.mon.wheels.get c).reached = false) ∧
    (s.mon.stage = .none ↔ s.hasCause .rollaway = false) ∧
    (s.mon.tractionLost = true ↔ s.mon.stage = .lost) ∧
    (∀ r ∈ s.table.records, r.isRollaway = true → r.state = .engaging → s.mon.stage = .caught) ∧
    (∀ r ∈ s.table.records, r.isRollaway = true → r.state = .held → s.mon.stage = .secured ∨ s.mon.stage = .lost)

/-- The figures of the part stay within their ranges (R28, R38, R40, R44, R50, R192, R196, R199): the grade, the working
profile with its constraints, W, C_rep, the latest F_grade, F_req and A. -/
def State.figuresSound (s : State) : Prop :=
  s.meas.gradeSound ∧ s.store.working.inRanges = true ∧ s.store.working.constraints = true ∧
    s.meas.weight ≤ 65000 ∧ s.meas.cRep.getD 0 ≤ 40000 ∧ s.force.fGrade ≤ 39756 ∧ s.force.fReq ≤ 143268 ∧
    s.table.applied ≤ 143268

/-- WARN shows its causes (R144): OFF in SLEEP; STEADY in SAFE, with TRACTION_LOST or a failed clock; PULSE with a ROLLAWAY
record, SHORT or the expiry pulse train; and OFF without a cause. -/
def State.warnSound (s : State) : Prop :=
  let steady := s.ctl.mode = .safe ∨ s.mon.tractionLost = true ∨ s.ctl.clock = .failed
  let pulses :=
    (∃ r ∈ s.table.records, r.cause = some .rollaway) ∨ s.dist.short ≠ none ∨ s.mon.train.isRunning = true
  (s.ctl.mode = .sleep → s.mon.warn = .off) ∧
    (s.ctl.mode ≠ .sleep →
      (steady → s.mon.warn = .steady) ∧ (¬steady → pulses → ∃ phase < 1000, s.mon.warn = .pulse phase) ∧
        (¬steady → ¬pulses → s.mon.warn = .off))

end Sys2Proof.Machine
end

