-- ==== Sys2Proof/WellFormed.lean ====
section
/-! DEFINITION. When a command is one that the part can meet: what the manual fixes of an operand and the operand's
type does not. Every other operand may take any value of its type. -/

namespace Sys2Proof

/-- The request codes of the table of 9.4, the idle request among them. -/
def knownCodes : List Byte :=
  [0x00, 0x01, 0x02, 0x03, 0x10, 0x11, 0x12, 0x13, 0x20, 0x21, 0x22, 0x23, 0x24, 0x30, 0x31, 0x32, 0x40, 0x41, 0x50,
   0x51, 0x52]

/-- A command the part can meet: a short exchange has fewer than twelve bytes (R170), an unknown request an unknown code
(R178), an expired record a handle 1..255 (R5), and an accelerometer reading lies within the rails of the converter,
which convert to ±2000 (the note of R37). -/
def Instr.wellFormed : Instr → Bool
  | .shortExchange received => decide (received.length < 12)
  | .unknownRequest code => !knownCodes.contains code
  | .holdExpiry handle => decide (1 ≤ handle) && decide (handle ≤ 255)
  | .sampleArrival readings => decide (readings.acx.natAbs ≤ 2000)
  | _ => true

end Sys2Proof
end

