-- ==== Sys2Proof/Certificates/Slice0/Obligations.lean ====
section
/-! DEFINITION. The statements for the provers: the step, the laws of the device that every step keeps, and the effect and
the frame of each command. -/

open Sys2Proof Sys2Proof.Machine

/-! ## The step, idling and reset -/

/-- A step takes the command at the front of the queue and runs it with the queue's rest. -/
def Obligations.StepTakesTheFrontCommand : Prop :=
  ∀ (i : Instr) (rest : List Instr) (s : State),
    step { s with pending := i :: rest } = exec i { s with pending := rest }

/-- Every command completes with a next state, and leaves the commands behind it and the model's clock as they are. That no
command faults or is refused is log entry 27 (DEDUCED); the queue and the clock, kept by a reset too, are the model's own, log
entry 26 (DESIGN CHOICE). What a command does is said by the statements below. -/
def Obligations.EveryCommandCompletes : Prop :=
  ∀ (i : Instr) (s : State), ∃ t, exec i s = .next t ∧ t.pending = s.pending ∧ t.now = s.now

/-- With no command waiting: without power nothing happens; events whose moment has come join the queue, each once, in
some order; and otherwise one tick passes, in which each running timer runs one tick more, that of the samples among them,
the beat of the expiries too while awake, the PWM counts, the moving timer and the release timer of a gate that is not
suspended one tick less, and nothing else changes: the holds, the forces, the outputs and the answer stand. The model's
choice (log entry 1); the order is free (log entry 3). -/
def Obligations.IdleQueuesWhatIsDueOrTicks : Prop :=
  ∀ s : State, s.pending = [] →
    (s.powered = false → step s = .next s) ∧
      (s.powered = true → s.dueEvents ≠ [] →
        ∃ queue, queue.Perm s.dueEvents ∧
          step s = .next { s with pending := queue, freeCount := s.freeCount + 1 }) ∧
      (s.powered = true → s.dueEvents = [] →
        ∃ t, step s = .next t ∧ s.movesTo t ∧ t.now = s.now + 1 ∧ t.pending = [] ∧
          t.table.records = s.table.records ∧
          t.table.applied = s.table.applied ∧ t.force = s.force ∧ t.dist = s.dist ∧ t.link.slot = s.link.slot ∧
          t.link.pending = s.link.pending ∧ t.ctl.mode = s.ctl.mode ∧ t.store.working = s.store.working ∧
          t.mon.motion = s.mon.motion ∧ ∀ c, t.serviceDrive c = s.serviceDrive c ∧ t.springDrive c = s.springDrive c)

/-- The state after reset keeps every law of the device that the statements below keep from step to step. It rests on the
pin levels of log entry 7 and the factory image of log entry 8. -/
def Obligations.ResetKeepsTheLaws : Prop :=
  State.reset.holdsSound ∧ State.reset.forcesSound ∧ State.reset.distSound ∧ State.reset.springsSound ∧
    State.reset.controlSound ∧ State.reset.store.sound ∧ State.reset.figuresSound ∧ State.reset.referenceSound ∧
    State.reset.warnSound ∧ State.reset.link.slot.sound ∧ State.reset.reportSound ∧ State.reset.autoparkSettled ∧
    State.reset.pendantSettled ∧ State.reset.sleepSound

/-- A power-on reset of a part with its factory image, its lines at the levels of log entry 7 and its analog inputs at those
of log entry 41, gives the reset state from whatever state the part was in. -/
def Obligations.PowerOnGivesTheResetState : Prop :=
  ∀ s : State, s.store = State.reset.store → s.lines = State.reset.lines → (∀ c, (s.chans.get c).current = false) →
    s.meas.inputs = State.reset.meas.inputs →
    exec .powerOnReset s =
      .next { State.reset with now := s.now, freeCount := s.freeCount, pending := s.pending }

/-- What a reset leaves in each of the ten blocks (R6, R32, R34, R38, R43, R44, R83, R106, R125, R137, R146, R166): START with
the first keepalive due, the idle answer, every enable set and no notice but those the reset itself raises (SUPPLY is none of
them: DEDUCED, log entry 18), the START record alone or with the pendant's beside it, A at the F_req of a run over the table and
the measurements as they stand, the shares of a run over that A with SHORT told where it is set, every spring latch
de-energized, the worst grade at gross weight, the first sample set 10 ms away, and a clock measurement begun at the reset
(counted from there: DESIGN CHOICE, log entry 42). The working profile is the image where its mark is set, its CRC matches and
its values lie within ranges and constraints, and else the built-in set, with PROFILE_INVALID (R192). -/
def Obligations.ResetLeaves : Prop :=
  ∀ (i : Instr) (s : State), s.resetsBy i →
    ∃ t, exec i s = .next t ∧ t.powered = true ∧
      t.ctl = ⟨.start, 0, 0, .first, none, .running 0, false, false, .measuring 0⟩ ∧
      (t.link.slot = ⟨0, .done, .none, [0, 0, 0, 0, 0, 0, 0, 0]⟩ ∧ t.link.enable = 0xFF ∧
        t.link.pending &&& 0xDB = 0 ∧ t.link.lastHandle = 0 ∧ t.link.lastReason = .none ∧
        t.link.rollawayDeadline = .stopped ∧ t.link.shortDeadline = .stopped) ∧
      t.gate = ⟨false, 0, none, false, false⟩ ∧
      (t.table.records =
          ⟨1, .monitor, .park, .engaging, some .start, none, none, false⟩ ::
            (if s.lines.pa = false ∧ s.lines.pb = true then []
            else [⟨2, .pendant, .firm, .engaging, none, none, none, false⟩]) ∧
        t.table.nextHandle = (if s.lines.pa = false ∧ s.lines.pb = true then 2 else 3) ∧
        t.table.relief = .stopped) ∧
      t.freshForce ∧
      (t.dist = t.distribution t.meas.loads ∧ t.link.pending.getLsbD 2 = t.dist.short.isSome) ∧
      (∀ c, (t.chans.get c).latch = false ∧ (t.chans.get c).dutyInForce = 0 ∧ (t.chans.get c).cause = none ∧
        (t.chans.get c).override = .none ∧ (t.chans.get c).confirmed = false ∧ t.springDrive c = false ∧
        t.serviceDrive c = 0) ∧
      (t.meas.grade = 600 ∧ t.meas.window = [] ∧ t.meas.implausible = 0 ∧ t.meas.forced = false ∧
        t.meas.drum = .mix ∧ t.meas.cRep = none ∧ t.meas.driveAge = .stopped ∧ t.meas.sampleTimer = .running 0 ∧
        (∀ c, t.meas.psv.get c = .unread ∧ t.meas.psu.get c = .unread) ∧
        t.meas.supplyA.sensor = .unread ∧ t.meas.supplyB.sensor = .unread ∧
        t.meas.weight = t.store.working.vehicle.grossWeight.toNat) ∧
      t.mon.motion = .creeping ∧ t.mon.standstill = .running 0 ∧ t.mon.moving = none ∧ t.mon.ref = .holding ∧
      t.mon.stage = .none ∧ t.mon.tractionLost = false ∧ t.mon.autopark = .stopped ∧ t.mon.inhibit = false ∧
      t.mon.watchAfter = .stopped ∧ t.countersAtZero ∧ t.mon.driverPresent = s.lines.seat.raw ∧
      t.store =
        if s.store.mark = true ∧ s.store.image.crc = s.store.crc ∧ s.store.image.inRanges = true ∧
            s.store.image.constraints = true then
          { s.store with working := s.store.image, invalid := false }
        else { s.store with working := .builtIn, invalid := true }

/-- A loss of power (R204): a commit in flight is lost, with the mark, the CRC and the count as they stood, and the next
power-on reset then takes the built-in set. What the image holds then is open (log entry 4). That the loss clears a flag
of the model, turns the outputs off and keeps the volatile state is the model's reading (DEDUCED, log entry 9). -/
def Obligations.PowerLossLosesTheCommit : Prop :=
  ∀ s : State, s.powered = true →
    (s.store.commit = none → exec .powerLoss s = .next { s with powered := false }) ∧
      (s.store.commit ≠ none →
        ∃ (image : Profile) (t : State),
          exec .powerLoss s = .next t ∧
            t = { s with
                  powered := false
                  freeCount := s.freeCount + 1
                  store := { s.store with commit := none, image := image } } ∧
            (∀ c, t.serviceDrive c = 0 ∧ t.springDrive c = false) ∧
            (s.store.mark = false →
              ∃ u, exec .powerOnReset t = .next u ∧
                u.store = { t.store with working := .builtIn, invalid := true }))

/-! ## The link -/

/-- The exchanges that ask for nothing but an answer fill the slot and change nothing else: the idle request the idle
answer, a bad frame and a short exchange BADFRAME with the first byte echoed, an unknown code UNKNOWN, and IDENT the
vendor code, the part code, the silicon revision and the stored profile CRC (R170, R176, R177, R178, R188). -/
def Obligations.PlainExchangesAnswer : Prop :=
  ∀ s : State, s.takes →
    exec .idleRequest s = .next (s.withSlot ⟨0, .done, .none, [0, 0, 0, 0, 0, 0, 0, 0]⟩) ∧
      (∀ echo, exec (.badframe echo) s = .next (s.withSlot (refusedAnswer echo .badframe))) ∧
      (∀ received, received.length < 12 →
        exec (.shortExchange received) s = .next (s.withSlot (refusedAnswer (received.headD 0) .badframe))) ∧
      (∀ code, code ∉ knownCodes →
        exec (.unknownRequest code) s = .next (s.withSlot (refusedAnswer code .unknown))) ∧
      ∃ hi lo : Byte, hi ++ lo = s.store.crc ∧
        exec .ident s = .next (s.withSlot ⟨0x01, .done, .none, [0x5A, 0xB6, 3, hi, lo, 0, 0, 0]⟩)

/-- STATUS answers its snapshot, and then clears every pending flag, sets the collection mark of a live ROLLAWAY record if
ROLLAWAY was pending, and stops the deadline timers of the critical sources it reported (R186, R189). -/
def Obligations.StatusCollects : Prop :=
  ∀ s : State, s.takes → s.ctl.degradations ≤ 3 → s.table.records.length ≤ 16 → s.table.applied ≤ 143268 →
    s.link.lastHandle ≤ 255 →
    ∃ m n a2 a1 a0 h : Byte,
      exec .status s =
          .next
            { s with
              link :=
                { s.link with
                  slot := ⟨0x02, .done, .none, [s.link.pending, m, n, a2, a1, a0, h, s.link.lastReason.code]⟩
                  pending := 0
                  rollawayDeadline :=
                    if s.link.pending.getLsbD 1 then .stopped else s.link.rollawayDeadline
                  shortDeadline := if s.link.pending.getLsbD 2 then .stopped else s.link.shortDeadline }
              table :=
                { s.table with
                  records :=
                    if s.link.pending.getLsbD 1 then
                      s.table.records.map fun r =>
                        if r.cause = some .rollaway then { r with collected := true } else r
                    else s.table.records } } ∧
        (s.ctl.mode = .start → m.extractLsb' 0 3 = 1) ∧ (s.ctl.mode = .retry → m.extractLsb' 0 3 = 2) ∧
        (s.ctl.mode = .run → m.extractLsb' 0 3 = 3) ∧ (s.ctl.mode = .degraded → m.extractLsb' 0 3 = 4) ∧
        (s.ctl.mode = .safe → m.extractLsb' 0 3 = 5) ∧
        (m.extractLsb' 3 2).toNat = s.ctl.degradations ∧ m.getLsbD 5 = s.mon.tractionLost ∧
        m.getLsbD 6 = s.store.invalid ∧ m.getLsbD 7 = false ∧
        (n.extractLsb' 0 5).toNat = s.table.records.length ∧
        (s.dist.short = none → n.extractLsb' 5 3 = 0) ∧ (s.dist.short = some .traction → n.extractLsb' 5 3 = 1) ∧
        (s.dist.short = some .capacity → n.extractLsb' 5 3 = 2) ∧
        a2.toNat * 65536 + a1.toNat * 256 + a0.toNat = s.table.applied ∧ h.toNat = s.link.lastHandle

/-- NOTICE MASK, in START, RETRY and RUN, sets each enable flag as asked, ROLLAWAY and SHORT always, answers the set in
force, and changes nothing else (R182, R184). -/
def Obligations.NoticeMaskEnables : Prop :=
  ∀ (s : State) (enables : Byte), s.takes → s.ctl.mode ≠ .degraded → s.ctl.mode ≠ .safe →
    ∃ inForce : Byte,
      exec (.noticeMask enables) s =
          .next
            { s with
              link := { s.link with enable := inForce, slot := ⟨0x03, .done, .none, [inForce, 0, 0, 0, 0, 0, 0, 0]⟩ } } ∧
        ∀ bit < 8, inForce.getLsbD bit = (enables.getLsbD bit || bit == 1 || bit == 2)

/-- ATTN is asserted just while some source is both pending and enabled, in every mode (R183). -/
def Obligations.AttnFollowsTheFlags : Prop :=
  ∀ s : State, s.powered = true →
    (s.attn = true ↔ ∃ bit < 8, s.link.pending.getLsbD bit = true ∧ s.link.enable.getLsbD bit = true)

/-- The requests that read are answered in every awake mode and change the answer slot alone. READ HOLD of a handle that
no live record has is refused NO_SUCH; LIST HOLDS answers zeros past the end of the table and FIELD above 15; READ MEASURE
answers the pages 0 to 3, READ CHANNEL the pages 0 to 2 of the channels 1 to 6 (the value bytes of an absent C_rep or
service pressure 00h: DESIGN CHOICE, log entry 36), and PROFILE READ an item of the working or the stored copy, or the
commit count; any other page, channel, item or selector is FIELD, and the stored copy during a commit BUSY (R20, R21, R45,
R105, R173, R189, R197). -/
def Obligations.ReadsAnswer : Prop :=
  ∀ s : State, s.takes →
    (∀ h : Byte, h = 0 ∨ (∀ r ∈ s.table.records, r.handle ≠ h.toNat) →
        exec (.readHold h) s = .next (s.withSlot (refusedAnswer 0x23 .noSuch))) ∧
      (∀ n : Byte, (15 < n.toNat → exec (.listHolds n) s = .next (s.withSlot (refusedAnswer 0x24 .field))) ∧
        (n.toNat ≤ 15 → s.table.records.length ≤ n.toNat →
          exec (.listHolds n) s =
            .next (s.withSlot (doneAnswer 0x24 [BitVec.ofNat 8 s.table.records.length])))) ∧
      (∃ a b c d e f g h : Byte,
        exec (.readMeasure 0) s = .next (s.withSlot ⟨0x32, .done, .none, [a, b, c, d, e, f, g, h]⟩) ∧
          a ++ b = BitVec.ofInt 16 s.meas.grade ∧ c ++ d = BitVec.ofNat 16 s.meas.weight ∧
          e ++ f = BitVec.ofNat 16 s.force.concrete ∧ g ++ h = BitVec.ofNat 16 s.force.slosh) ∧
      (∃ a b c d e f g h : Byte,
        exec (.readMeasure 1) s = .next (s.withSlot ⟨0x32, .done, .none, [a, b, c, d, e, f, g, h]⟩) ∧
          a ++ b = BitVec.ofNat 16 s.force.fGrade ∧ c ++ d ++ e = BitVec.ofNat 24 s.force.fReq ∧
          f ++ g ++ h = BitVec.ofNat 24 s.table.applied) ∧
      (∃ a b c d e f g h : Byte,
        exec (.readMeasure 2) s = .next (s.withSlot ⟨0x32, .done, .none, [a, b, c, d, e, f, g, h]⟩) ∧
          a ++ b = BitVec.ofInt 16 s.meas.drive ∧
          c = (if s.meas.driveAge.isRunning then s.meas.gear.code else 3) ∧
          d = (if s.meas.driveAge.isRunning then 1 else 0) ∧ e = s.meas.drum.code ∧
          f = (if s.meas.cRep.isSome then 1 else 0) ∧ g ++ h = BitVec.ofNat 16 (s.meas.cRep.getD 0)) ∧
      (∃ a b c d e f g h : Byte,
        exec (.readMeasure 3) s = .next (s.withSlot ⟨0x32, .done, .none, [a, b, c, d, e, f, g, h]⟩) ∧
          (a.getLsbD 0 = true ↔ ∃ p, s.meas.supplyA.sensor = .valid p) ∧
          (a.getLsbD 1 = true ↔ ∃ p, s.meas.supplyB.sensor = .valid p) ∧ a.getLsbD 2 = s.meas.supplyA.low ∧
          a.getLsbD 3 = s.meas.supplyB.low ∧ a.getLsbD 4 = s.meas.forced ∧ a.extractLsb' 5 3 = 0 ∧
          (∀ p, s.meas.supplyA.sensor = .valid p → b ++ c = BitVec.ofNat 16 p) ∧
          (∀ p, s.meas.supplyB.sensor = .valid p → d ++ e = BitVec.ofNat 16 p) ∧
          f = BitVec.ofNat 8 s.meas.window.length ∧
          (∀ n : Chan, (g.getLsbD n.val = true ↔ ∃ m, s.meas.psu.get n = .invalid m) ∧
            (h.getLsbD n.val = true ↔ ∃ m, s.meas.psv.get n = .invalid m)) ∧
          g.extractLsb' 6 2 = 0 ∧ (h.getLsbD 6 = true ↔ ∃ m, s.meas.supplyA.sensor = .invalid m) ∧
          (h.getLsbD 7 = true ↔ ∃ m, s.meas.supplyB.sensor = .invalid m)) ∧
      (∀ p : Byte, 3 < p.toNat → exec (.readMeasure p) s = .next (s.withSlot (refusedAnswer 0x32 .field))) ∧
      (∀ (n : Byte) (c : Chan), n.toNat = c.val + 1 →
        (∃ flags lift : Byte,
          exec (.readChannel n 0) s =
              .next (s.withSlot (doneAnswer 0x40
                [(s.chans.get c).state.code,
                  (match (s.dist.cmds.get c).requested with
                  | none => 0
                  | some .idle => 3
                  | some .service => 4
                  | some .spring => 5),
                  (match (s.chans.get c).cause with
                  | none => 0
                  | some .pressure => 1
                  | some .openCoil => 2
                  | some .stuck => 3
                  | some .sensor => 4),
                  loByte (s.items c).failSafe, (s.chans.get c).override.code, flags, lift])) ∧
            flags.getLsbD 0 = (s.chans.get c).confirmed ∧ flags.getLsbD 1 = (s.chans.get c).latch ∧
            flags.getLsbD 2 = (s.chans.get c).current ∧ flags.extractLsb' 3 5 = 0 ∧
            lift = (if (s.items c).line = none then 0 else if (s.chans.get c).lift then 1 else 2)) ∧
          (∃ a b d e f g h k : Byte,
            exec (.readChannel n 1) s = .next (s.withSlot ⟨0x40, .done, .none, [a, b, d, e, f, g, h, k]⟩) ∧
              a ++ b = BitVec.ofNat 16 (s.dist.cmds.get c).share ∧
              d ++ e = BitVec.ofNat 16 (s.dist.cmds.get c).pressure ∧
              f ++ g = BitVec.ofNat 16 ((s.dist.cmds.get c).availUsed.getD 0) ∧
              (∀ p < 32768, s.meas.psv.get c = .valid p → h ++ k = BitVec.ofNat 16 (32768 + p)) ∧
              ((∀ p, s.meas.psv.get c ≠ .valid p) → h ++ k = BitVec.ofNat 16 0)) ∧
          (∃ a b d e : Byte,
            exec (.readChannel n 2) s =
                .next (s.withSlot ⟨0x40, .done, .none,
                  [a, b, d, e, if (s.items c).isFitted then 1 else 0, loByte (s.items c).role,
                    if (s.items c).springs then 1 else 0, loByte (s.items c).circuit]⟩) ∧
              a ++ b = BitVec.ofNat 16 (s.chans.get c).dutyBuffer ∧
              d ++ e = BitVec.ofNat 16 (s.chans.get c).dutyInForce) ∧
          ∀ p : Byte, 2 < p.toNat → exec (.readChannel n p) s = .next (s.withSlot (refusedAnswer 0x40 .field))) ∧
      (∀ n p : Byte, n = 0 ∨ 6 < n.toNat →
        exec (.readChannel n p) s = .next (s.withSlot (refusedAnswer 0x40 .field))) ∧
      ∀ item channel selector : Byte,
        (itemAt item channel = none ∨ (selector ≠ 1 ∧ selector ≠ 2) →
            exec (.profileRead item channel selector) s = .next (s.withSlot (refusedAnswer 0x50 .field))) ∧
          ∀ i, itemAt item channel = some i →
            (selector = 2 → s.store.commit ≠ none →
                exec (.profileRead item channel selector) s = .next (s.withSlot (refusedAnswer 0x50 .busy))) ∧
              (selector = 1 ∨ (selector = 2 ∧ s.store.commit = none) →
                ∃ hi lo : Byte,
                  exec (.profileRead item channel selector) s =
                      .next (s.withSlot (doneAnswer 0x50
                        [item, channel, selector, hi, lo, if s.store.invalid then 0 else 1])) ∧
                    (i = .commitCount → hi ++ lo = BitVec.ofNat 16 s.store.count) ∧
                    (i ≠ .commitCount →
                      hi ++ lo = if selector = 1 then s.store.working.read i else s.store.image.read i))

/-- READ HOLD and LIST HOLDS tell a live record's handle, owner, class, state, tag presence and cause or tag; READ HOLD
its place, its expiry and the R_class of its class beside them, and LIST HOLDS the number of records and the record that
follows it, 00h throughout where none does, at the positions of the frame layouts (R20, R21, R189). -/
def Obligations.ReadHoldTells : Prop :=
  ∀ (s : State) (place : Nat) (r : Record), s.takes → s.table.sound → s.table.records[place]? = some r →
    ∃ b x e w : Byte,
      r.toldBy b x ∧ (e.extractLsb' 4 4).toNat = place ∧ (e.extractLsb' 2 2).toNat = 0 ∧
      (e.extractLsb' 0 2).toNat * 256 + w.toNat = r.expiry.getD 0 ∧
      (∃ r2 r1 r0 : Byte,
        exec (.readHold (BitVec.ofNat 8 r.handle)) s =
            .next (s.withSlot ⟨0x23, .done, .none, [BitVec.ofNat 8 r.handle, b, x, e, w, r2, r1, r0]⟩) ∧
          r2 ++ r1 ++ r0 = BitVec.ofNat 24 (match r.cls with
            | .light => s.force.rLight
            | .firm => s.force.rFirm
            | .park => s.force.rPark)) ∧
      ∃ n l1 l2 l3 : Byte, n.toNat = s.table.records.length ∧
        exec (.listHolds (BitVec.ofNat 8 place)) s =
            .next (s.withSlot ⟨0x24, .done, .none, [n, BitVec.ofNat 8 r.handle, b, x, l1, l2, l3, 0]⟩) ∧
          (s.table.records[place + 1]? = none → l1 = 0 ∧ l2 = 0 ∧ l3 = 0) ∧
          ∀ q, s.table.records[place + 1]? = some q → l1.toNat = q.handle ∧ q.toldBy l2 l3

/-- The admission table (R148): in each mode, the requests that are refused MODE before any check of their own, and nothing
else changes. -/
def Obligations.ModeRefuses : Prop :=
  ∀ (s : State) (o h k g a b c : Byte) (x : Word16), s.takes →
    (s.ctl.mode = .degraded ∨ s.ctl.mode = .safe →
      (∀ p ∈ [((0x03 : Byte), Instr.noticeMask a), (0x12, .sleep), (0x20, .openHold o k g a x),
          (0x21, .amendHold o h k a x), (0x22, .releaseHold o h), (0x30, .driveState x a), (0x31, .drumState a b x),
          (0x41, .channelRestore c), (0x51, .profileWrite a c x), (0x52, .profileCommit)],
        exec p.2 s = .next (s.withSlot (refusedAnswer p.1 .mode)))) ∧
      (s.ctl.mode = .safe →
        ∀ p ∈ [((0x10 : Byte), Instr.keepalive a), (0x11, .resync), (0x13, .reset)],
          exec p.2 s = .next (s.withSlot (refusedAnswer p.1 .mode))) ∧
      (s.ctl.mode ≠ .degraded → exec .resync s = .next (s.withSlot (refusedAnswer 0x11 .mode))) ∧
      (s.ctl.mode = .start ∨ s.ctl.mode = .retry →
        ∀ p ∈ [((0x12 : Byte), Instr.sleep), (0x13, .reset), (0x20, .openHold o k g a x), (0x21, .amendHold o h k a x),
            (0x22, .releaseHold o h), (0x41, .channelRestore c)],
          exec p.2 s = .next (s.withSlot (refusedAnswer p.1 .mode)))

/-- Decode and encode agree: the frame that carries a well-formed request makes of an exchange that request again, whatever
bytes follow the twelfth, and it is twelve bytes long (R169, R172, R174, R175, R189). -/
def Obligations.FramesCarryTheirRequests : Prop :=
  ∀ (i : Instr) (frame more : List Byte), i.wellFormed = true → encode i = some frame →
    frame.length = 12 ∧ commandOfExchange (frame ++ more) = i

/-- Every answer in the slot is whole, after any step: eight payload bytes; reason NONE in DONE and PENDING; in REFUSED a
reason other than NONE and RELEASE_TIMEOUT, and a payload of 00h in every byte (R173, R180). -/
def Obligations.AnswersStayWhole : Prop :=
  ∀ s t : State, s.link.slot.sound → step s = .next t → t.link.slot.sound

/-! ## Supervision -/

/-- In START and RETRY a keepalive is judged by its token alone: a right one is answered DONE with the new token and
enters RUN, with the first window timed from it, the mode timer stopped and the deadline of each pending critical source
started; there the mode cause of an armed gate ends, and where it was the last one the gate judges over the latest run and
the drive force (R113, R115); a wrong one is refused TOKEN and changes nothing else (R149, R151, R153 to R155). -/
def Obligations.FirstKeepaliveEntersRun : Prop :=
  ∀ s : State, s.takes → s.ctl.mode = .start ∨ s.ctl.mode = .retry →
    (∃ t, exec (.keepalive (255 - s.ctl.token)) s = .next t ∧
        t.ctl = { s.afterKeepalive .wait with mode := .run, timer := .stopped } ∧
        t.link.slot = doneAnswer 0x10 [s.ctl.token + 37] ∧ t.link.pending.getLsbD 6 = true ∧
        (s.link.pending.getLsbD 1 = true → t.link.rollawayDeadline = .running 0) ∧
        (s.link.pending.getLsbD 2 = true → t.link.shortDeadline = .running 0) ∧
        (s.gate.armed = true → t.gate.armed = true → t.gate.modeCause = false) ∧
        (s.holdsSound → s.gate.armed = true → s.judgedAtRun t) ∧ s.keepsRest t ∧ t.meas = s.meas) ∧
      ∀ a, a ≠ 255 - s.ctl.token →
        exec (.keepalive a) s = .next (s.withSlot (refusedAnswer 0x10 .token))

/-- The keepalive window. At its opening moment WAIT becomes OPEN in RUN, and a RESYNC run's window opens in DEGRADED; nothing
else of the Mode Controller changes. In RUN a right keepalive in the open window starts a new window from its own moment and
advances the token by 37, and changes nothing else (R149, R150, R158). -/
def Obligations.KeepaliveWindowOpensAndRenews : Prop :=
  ∀ s : State,
    (∀ w, s.powered = true → s.ctl.window = some w → w.opens ≤ s.now →
        (s.ctl.phase = .wait →
            ∃ t, exec .keepaliveWindowOpens s = .next t ∧ t.ctl = { s.ctl with phase := .windowOpen } ∧
              t.table = s.table ∧ t.link = s.link ∧ t.chans = s.chans ∧ s.keepsRest t) ∧
          ∀ run, s.ctl.phase = .resync run false →
            ∃ t, exec .keepaliveWindowOpens s = .next t ∧ t.ctl = { s.ctl with phase := .resync run true } ∧
              t.table = s.table ∧ t.link = s.link ∧ t.chans = s.chans ∧ s.keepsRest t) ∧
      (s.takes → s.ctl.mode = .run → s.ctl.phase = .windowOpen →
        exec (.keepalive (255 - s.ctl.token)) s =
          .next { s.withSlot (doneAnswer 0x10 [s.ctl.token + 37]) with ctl := s.afterKeepalive .wait })

/-- A supervision fault in RUN raises the degradation count by one, raises MODE, drops the window and a pending sleep, and
stops both deadline timers; it enters DEGRADED, awaiting a RESYNC, with the DEGRADED timer from 0, or SAFE where the count
has reached 3. The token stays (R151, R152, R156, R160). It cancels an armed release: the gate goes idle, the RELEASING
record is HELD again and HOLDS is raised, with its handle and MODE unless a hold that the part opens in the same event
(R138, R161) is told after it; where none is opened the table, A, the forces and the distribution stand, and in DEGRADED
the channels too (R11, R119). -/
def Obligations.SupervisionFault : Prop :=
  ∀ (s : State) (i : Instr), s.faultsBy i →
    ∃ t, exec i s = .next t ∧ t.ctl.degradations = s.ctl.degradations + 1 ∧ t.ctl.token = s.ctl.token ∧
      t.ctl.window = none ∧ t.ctl.sleepPending = false ∧ t.link.pending.getLsbD 6 = true ∧
      t.link.rollawayDeadline = .stopped ∧ t.link.shortDeadline = .stopped ∧ t.gate.armed = false ∧
      (s.ctl.degradations < 2 →
        t.ctl.mode = .degraded ∧ t.ctl.phase = .awaitResync ∧ t.ctl.timer = .running 0) ∧
      (2 ≤ s.ctl.degradations → t.ctl.mode = .safe ∧ t.ctl.phase = .none ∧ t.ctl.timer = .stopped) ∧
      (s.gate.armed = true → s.holdsSound →
        (s.ctl.degradations < 2 →
            s.releaseCancelled t (s.mon.autopark ≠ .ranOut ∨ ∃ r ∈ s.table.records, r.cls = .park) ∧
              ((s.mon.autopark ≠ .ranOut ∨ ∃ r ∈ s.table.records, r.cls = .park) → t.chans = s.chans)) ∧
          (2 ≤ s.ctl.degradations → s.releaseCancelled t (s.mon.motion ≠ .standstill))) ∧
      s.keepsRest t ∧ t.meas = s.meas

/-- RESYNC in DEGRADED opens a window at once, with the token 0 and the run 0, whatever the phase, and changes nothing
else; right keepalives in their windows carry the run to 2, and the third enters RUN, where the mode cause of an armed
gate ends and the gate judges if that was the last (R113, R115); one too soon or with a wrong answer falls back to
AWAIT_RESYNC, and without a RESYNC a keepalive is refused STATE. The close of a window without an accepted keepalive falls
back as well, without a fault (R149, R157, R158). -/
def Obligations.ResyncRun : Prop :=
  ∀ s : State, s.takes → s.ctl.mode = .degraded →
    exec .resync s =
        .next
          { s.withSlot (doneAnswer 0x11 [0]) with
            ctl :=
              { s.ctl with
                token := 0
                phase := .resync 0 true
                window := some ⟨s.now, s.now + Config.ms s.vehicle.keepalivePeriod.toNat⟩ } } ∧
      (∀ a, s.ctl.phase = .awaitResync →
        exec (.keepalive a) s = .next (s.withSlot (refusedAnswer 0x10 .state))) ∧
      (∀ a run, s.ctl.phase = .resync run false →
        exec (.keepalive a) s =
          .next
            { s.withSlot (refusedAnswer 0x10 .window) with
              ctl := { s.ctl with phase := .awaitResync, window := none } }) ∧
      ∀ run, s.ctl.phase = .resync run true →
        (∀ a, a ≠ 255 - s.ctl.token →
            exec (.keepalive a) s =
              .next
                { s.withSlot (refusedAnswer 0x10 .token) with
                  ctl := { s.ctl with phase := .awaitResync, window := none } }) ∧
          (run < 2 →
            exec (.keepalive (255 - s.ctl.token)) s =
              .next
                { s.withSlot (doneAnswer 0x10 [s.ctl.token + 37]) with
                  ctl := s.afterKeepalive (.resync (run + 1) false) }) ∧
          (∀ w, s.ctl.window = some w → w.closes ≤ s.now →
            ∃ t, exec .keepaliveWindowCloses s = .next t ∧
              t.ctl = { s.ctl with phase := .awaitResync, window := none } ∧ t.link = s.link ∧ t.table = s.table) ∧
          (run = 2 →
            ∃ t, exec (.keepalive (255 - s.ctl.token)) s = .next t ∧
              t.ctl = { s.afterKeepalive .wait with mode := .run, timer := .stopped } ∧
              t.link.slot = doneAnswer 0x10 [s.ctl.token + 37] ∧ t.link.pending.getLsbD 6 = true ∧
              (s.holdsSound → s.gate.armed = true → s.judgedAtRun t))

/-- The mode timers: START runs out into RETRY, with its timer from 0; RETRY and DEGRADED run out into SAFE. The entry into
SAFE stops supervision, and sets each channel that is not FAULTED to ZERO before the first standstill, or at standstill makes
the FAILSAFE opening and marks each such channel for FAILSAFE (R153, R154, R159, R160, R161). It cancels an armed release: the
gate idle, the RELEASING record HELD again, HOLDS raised, with its handle and MODE before the first standstill; the table, A,
the forces and the distribution then stand (R11, R119). -/
def Obligations.ModeTimersRunOut : Prop :=
  ∀ (s : State) (n : Nat), s.powered = true → s.ctl.timer = .running n →
    (s.ctl.mode = .start → Config.ms 2000 ≤ n →
        ∃ t, exec .startTimerExpiry s = .next t ∧ t.ctl = { s.ctl with mode := .retry, timer := .running 0 } ∧
          t.link.pending = s.link.pending ||| 0x40 ∧ t.table = s.table ∧ t.gate = s.gate ∧ t.chans = s.chans) ∧
      ∀ i, (i = .retryTimerExpiry ∧ s.ctl.mode = .retry ∧ Config.ms 4000 ≤ n) ∨
          (i = .degradedTimerExpiry ∧ s.ctl.mode = .degraded ∧ Config.ms 30000 ≤ n) →
        ∃ t, exec i s = .next t ∧ t.ctl.mode = .safe ∧ t.ctl.phase = .none ∧ t.ctl.timer = .stopped ∧
          t.ctl.window = none ∧ t.ctl.degradations = s.ctl.degradations ∧ t.link.pending.getLsbD 6 = true ∧
          t.gate.armed = false ∧ t.mon.warn = .steady ∧ s.keepsRest t ∧
          (s.gate.armed = true → s.holdsSound → s.releaseCancelled t (s.mon.motion ≠ .standstill)) ∧
          (s.mon.motion ≠ .standstill → t.ctl.failsafeDone = s.ctl.failsafeDone ∧
            ∀ c, (s.chans.get c).state ≠ .faulted → (t.chans.get c).override = .zero) ∧
          (s.mon.motion = .standstill → t.ctl.failsafeDone = true ∧
            (∃ r ∈ t.table.records, r.cause = some .failsafe) ∧
            ∀ c, (s.chans.get c).state ≠ .faulted → (t.chans.get c).failsafeMarked = true)

/-- The part leaves SAFE only through power-on reset: no other command changes the mode (R160). The premise is the law of
the Mode Controller, which every step keeps. -/
def Obligations.SafeIsLatched : Prop :=
  ∀ (i : Instr) (s t : State), s.controlSound → s.ctl.mode = .safe → i ≠ .powerOnReset → exec i s = .next t →
    t.ctl.mode = .safe

/-- The Mode Controller keeps its law at every step: phases and timers agree with the mode, the degradation count is at most
3 and reaches 3 in SAFE alone, a sleep is pending in RUN alone, a failed clock is in SAFE alone, and the critical deadlines
run in RUN alone (R146, R151, R152, R168). -/
def Obligations.SupervisionKeepsItsLaw : Prop :=
  ∀ s t : State, s.controlSound → step s = .next t → t.controlSound

/-- SLEEP in RUN is taken where its conditions hold, which sets sleep pending and changes nothing else, and is refused
STATE otherwise. The end of an exchange while sleep is pending: where the conditions still hold the part enters SLEEP and
the exchange's request is discarded, whatever it was: supervision is paused, the samples, relief and the channels' timers
stop, confirmation is lost, every output is forced, WARN is OFF, and the holds, A, the distribution and the notices are
kept. Otherwise sleep pending is cleared and the request is taken (R86, R100, R162, R163). -/
def Obligations.SleepIsTakenAndEntered : Prop :=
  (∀ s : State, s.takes → s.ctl.mode = .run →
    (s.maySleep →
        exec .sleep s = .next { s.withSlot (doneAnswer 0x12 []) with ctl := { s.ctl with sleepPending := true } }) ∧
      (¬s.maySleep → exec .sleep s = .next (s.withSlot (refusedAnswer 0x12 .state)))) ∧
  ∀ s : State, s.powered = true → s.ctl.mode ≠ .sleep → s.ctl.sleepPending = true →
    (s.maySleep →
        (∃ t, exec .sleepEntry s = .next t ∧
            t.ctl =
              { s.ctl with
                mode := .sleep
                sleepPending := false
                phase := .none
                window := none
                timer := .stopped
                clock := .stopped } ∧
            t.link = { s.link with rollawayDeadline := .stopped, shortDeadline := .stopped } ∧
            t.table = { s.table with relief := .stopped } ∧ t.dist = s.dist ∧ t.force = s.force ∧
            t.meas = { s.meas with sampleTimer := .stopped } ∧ t.store = s.store ∧ t.mon.warn = .off ∧ t.mon.seatTimer = .stopped ∧ t.mon.train = .stopped ∧
            ∀ c, t.serviceDrive c = 0 ∧ t.springDrive c = false ∧
              t.chans.get c =
                { s.chans.get c with
                  confirmed := false
                  window := .stopped
                  drift := .stopped
                  spring := .stopped
                  mismatch := .stopped
                  pwm := none }) ∧
          ∀ i, isExchange i = true → exec i s = exec .sleepEntry s) ∧
      (¬s.maySleep →
        exec .sleepEntry s = .next { s with ctl := { s.ctl with sleepPending := false } } ∧
          ∀ i, isExchange i = true → exec i s = exec i { s with ctl := { s.ctl with sleepPending := false } })

/-- WAKE. With a line it is the line's own event and with a wheel input that input's pulse, in every state, and any exchange
that reaches a part in SLEEP is WAKE by chip select (log entries 21 and 22). A cause that wakes a part in SLEEP, chip select, a
change of a pendant or driver line, or a limit pulse, leaves START with the first keepalive due, the idle answer, MODE raised,
every sensor UNREAD, the first sample set 10 ms away, the lines and the lift levels as they read, and the PWM periods started
again; a FAULTED channel stays as it was, its recorded lift level too, while its lift line settles with the others (DEDUCED, log
entry 6). The holds are kept, each in its class, the pendant's as its line asks; and where the line asks as the table has it and
no pulse woke the part, A, the relief timer, the gate and the forces stand and the distribution is a new run's. A LINE_FAULT
then read raises SENSOR, and a line that asks over no PENDANT record opens one; one that does not ask over a PENDANT record has
it released (R143): retired where another hold is live, and as the last hold handed to the gate, which START suspends. PA and
PB changed together wake the part over the combination they take (8.13; log entry 40). A first
limit pulse opens the ROLLAWAY hold at once (R32, R34, R101, R129, R164). The clock measurement that begins is counted from the
wake (DESIGN CHOICE, log entry 42). -/
def Obligations.WakeStartsAfresh : Prop :=
  (∀ s : State, (∀ r, exec (.wake (.line r)) s = exec (.rawLineChange r) s) ∧
    ∀ n, exec (.wake (.pulse n)) s = exec (.wheelPulse n) s) ∧
  ∀ (s : State) (cause : WakeCause), s.powered = true → s.ctl.mode = .sleep →
    (match cause with
      | .chipSelect => True
      | .line reading => s.lines.wakes reading = true
      | .pulse n =>
        s.mon.ref ≠ .clear ∧ (s.mon.wheels.get n).reached = false ∧
          s.vehicle.creepLimit.toNat ≤ min ((s.mon.wheels.get n).creep + 1) 40) →
    (∃ t, exec (.wake cause) s = .next t ∧
        t.ctl =
          { s.ctl with
            mode := .start
            timer := .running 0
            token := 0
            phase := .first
            window := none
            clock := .measuring 0 } ∧
        t.link.slot = ⟨0, .done, .none, [0, 0, 0, 0, 0, 0, 0, 0]⟩ ∧ t.link.enable = s.link.enable ∧
        t.link.pending.getLsbD 6 = true ∧ (∀ c, t.meas.psv.get c = .unread ∧ t.meas.psu.get c = .unread) ∧
        t.meas.window = [] ∧ t.meas.driveAge = .stopped ∧ t.meas.grade = s.meas.grade ∧
        t.meas.sampleTimer = .running 0 ∧ t.meas.inputs = s.meas.inputs ∧
        t.mon.driverPresent = t.lines.seat.raw ∧ t.store = s.store ∧
        (∀ c, (t.chans.get c).pwm = some (Config.ms c.val)) ∧
        (∀ line, t.lines.lift line = ⟨(s.lines.lift line).raw, (s.lines.lift line).raw, .stopped⟩) ∧
        (∀ c, (s.chans.get c).state = .faulted →
          t.chans.get c = { s.chans.get c with pwm := some (Config.ms c.val) }) ∧
        (s.distSound → ∀ c line, (s.chans.get c).state ≠ .faulted → (s.items c).isFitted = true →
          (s.items c).line = some line →
            (t.chans.get c).lift = (s.lines.lift line).raw ∧
              ((t.chans.get c).state = .lifted ↔ (s.lines.lift line).raw = true)) ∧
        (s.holdsSound → ∀ r ∈ s.table.records, r.owner ≠ .pendant → (r.handle, r.cls) ∈ holdSet t.table.records) ∧
        (s.holdsSound → (∀ n, cause ≠ .pulse n) →
          ((t.lines.pa = false ∧ t.lines.pb = true) ↔ ∀ r ∈ s.table.records, r.owner ≠ .pendant) →
          holdSet t.table.records = holdSet s.table.records ∧ t.table = { s.table with records := t.table.records } ∧
            t.gate = s.gate ∧ t.force = s.force ∧ t.dist = t.distribution t.meas.loads) ∧
        t.lines.pair = pairRead t.lines.pa t.lines.pb ∧ (t.lines.pa = t.lines.pb → t.link.pending.getLsbD 5 = true) ∧
        (∀ pa pb, cause = .line (.pair pa pb) → t.lines.pa = pa ∧ t.lines.pb = pb) ∧
        (s.holdsSound → (∀ n, cause ≠ .pulse n) → t.lines.pair ≠ .notAsking → s.mon.motion ≠ .moving →
          (∀ r ∈ s.table.records, r.owner ≠ .pendant) → nonMonitorCount s.table.records < 12 →
          t.pendantOpened s s.table.records) ∧
        (s.holdsSound → t.lines.pair = .notAsking → ∀ r ∈ s.table.records, r.owner = .pendant →
          (1 < s.table.records.length →
            holdSet (s.table.records.filter fun x => x.handle != r.handle) <+: holdSet t.table.records ∧
              (∀ x ∈ t.table.records, x.owner ≠ .pendant) ∧ t.freshForce) ∧
            (s.table.records = [r] → (∀ n, cause ≠ .pulse n) →
              t.table = { s.table with records := [{ r with state := .releasing }] } ∧
                t.gate = ⟨true, r.handle, some (Config.ms s.vehicle.releaseTimeout.toNat), false, true⟩)) ∧
        ∀ n, cause = .pulse n → s.mon.stage = .none → (∀ r ∈ s.table.records, r.cause ≠ some .rollaway) →
          (∃ r ∈ t.table.records, r.cause = some .rollaway) ∧ t.link.pending.getLsbD 1 = true) ∧
      ∀ i, isExchange i = true → exec i s = exec (.wake .chipSelect) s

/-- The clock monitor: an interval of 7.5 to 12.5 ms of main time is good and the next is measured; any other interval, and
more than 12.5 ms without an interval's end, is a failure, which forces every output, holds WARN steady and takes the part
to SAFE (R86, R144, R168). The first measurement after a reset or a wake is judged alike, counted from that event (DESIGN
CHOICE, log entry 42). -/
def Obligations.ClockMonitorJudges : Prop :=
  ∀ (s : State) (n : Nat), s.powered = true → s.ctl.clock = .measuring n →
    (15 ≤ n ∧ n ≤ 25 →
        ∃ t, exec .clkrefIntervalEnd s = .next t ∧ t.ctl = { s.ctl with clock := .measuring 0 } ∧ t.link = s.link ∧
          t.table = s.table ∧ t.chans = s.chans ∧ t.dist = s.dist) ∧
      ∀ i, (i = .clkrefIntervalEnd ∧ (n < 15 ∨ 25 < n)) ∨ (i = .clockMonitorTimeout ∧ 25 < n) →
        ∃ t, exec i s = .next t ∧ t.ctl.clock = .failed ∧ t.ctl.mode = .safe ∧ t.mon.warn = .steady ∧
          t.link.pending.getLsbD 6 = true ∧ ∀ c, t.serviceDrive c = 0 ∧ t.springDrive c = false

/-! ## The Hold Table and the Release Gate -/

/-- OPEN HOLD in RUN. Refused by the first check that fails, with nothing else changed: FIELD, MOVING, FULL, OWNER_LIMIT
(R13). Otherwise taken (R5, R14): a record with a new handle, the first from the next-handle counter on, 255 followed by
1, that no live record holds, joins the end of the holds that are not RELEASING, as asked, and the counter then shows the
value after it; A is the F_req over the new table; the relief timer stops, the gate is idle, and a table that was empty
sets the reference. Holds opened by the part itself in the same event may follow the new one. -/
def Obligations.OpenHoldChecksAndOpens : Prop :=
  ∀ (s : State) (owner cls flag tag : Byte) (expiry : Word16), s.takes → s.ctl.mode = .run →
    (badOpenHold owner cls expiry →
        exec (.openHold owner cls flag tag expiry) s = .next (s.withSlot (refusedAnswer 0x20 .field))) ∧
      (¬badOpenHold owner cls expiry → s.mon.motion = .moving →
        exec (.openHold owner cls flag tag expiry) s = .next (s.withSlot (refusedAnswer 0x20 .moving))) ∧
      (¬badOpenHold owner cls expiry → s.mon.motion ≠ .moving → 12 ≤ nonMonitorCount s.table.records →
        exec (.openHold owner cls flag tag expiry) s = .next (s.withSlot (refusedAnswer 0x20 .full))) ∧
      (¬badOpenHold owner cls expiry → s.mon.motion ≠ .moving → nonMonitorCount s.table.records < 12 →
        s.ownerFull owner →
        exec (.openHold owner cls flag tag expiry) s = .next (s.withSlot (refusedAnswer 0x20 .ownerLimit))) ∧
      (¬badOpenHold owner cls expiry → s.mon.motion ≠ .moving → nonMonitorCount s.table.records < 12 →
        ¬s.ownerFull owner → s.holdsSound →
        ∃ (h : Nat) (o : Owner) (k : HoldClass) (t : State),
          exec (.openHold owner cls flag tag expiry) s = .next t ∧ (1 ≤ h ∧ h ≤ 255) ∧
            (∀ r ∈ s.table.records, r.handle ≠ h) ∧
            ((∀ r ∈ s.table.records, r.handle ≠ s.table.nextHandle) → h = s.table.nextHandle) ∧
            (∃ skip < 255, h = (s.table.nextHandle - 1 + skip) % 255 + 1 ∧
              ∀ j < skip, ∃ r ∈ s.table.records, r.handle = (s.table.nextHandle - 1 + j) % 255 + 1) ∧
            (s.nothingFollows →
              t.table.nextHandle = (if h = 255 then 1 else h + 1) ∧
                holdSet t.table.records =
                  holdSet (s.table.records.filter fun r => r.state != .releasing) ++ [(h, k)]) ∧
            o.code = owner ∧ k.code = cls ∧ t.link.slot = doneAnswer 0x20 [BitVec.ofNat 8 h] ∧
            holdSet (s.table.records.filter fun r => r.state != .releasing) ++ [(h, k)] <+: holdSet t.table.records ∧
            (∃ st, st ≠ .releasing ∧
              ⟨h, o, k, st, none, if flag = 0 then none else some tag,
                if expiry = 0 then none else some expiry.toNat, false⟩ ∈ t.table.records) ∧
            t.freshForce ∧ t.table.relief = .stopped ∧ t.gate = ⟨false, 0, none, false, false⟩ ∧
            (s.table.records = [] → t.mon.ref = .holding) ∧ s.keepsRest t ∧ t.ctl = s.ctl ∧ t.meas = s.meas)

/-- AMEND HOLD in RUN. Refused by the first check that fails, with nothing else changed: FIELD, NO_SUCH, NOT_OWNER, STATE, and
FIELD for a PARK hold left with an expiry (R15). Otherwise taken (R10, R16): with the class unchanged only the expiry
changes, and the distribution, the channels and A stand; with the class changed the record stays in its place, A is the F_req
over the new table, and the record is ENGAGING unless the distribution that the amend leaves, or one that a hold opened by the
part itself in the same event leaves, is confirmed, which makes it HELD. That such an opening has an offer and a run of its
own beside those of the amend is the model's reading of R7, R48 and R25: DEDUCED, log entry 14. -/
def Obligations.AmendHoldChecksAndAmends : Prop :=
  ∀ (s : State) (owner handle cls action : Byte) (value : Word16), s.takes → s.ctl.mode = .run →
    (badAmendHold cls action value →
        exec (.amendHold owner handle cls action value) s = .next (s.withSlot (refusedAnswer 0x21 .field))) ∧
      (¬badAmendHold cls action value →
        handle = 0 ∨ (∀ r ∈ s.table.records, r.handle ≠ handle.toNat) →
        exec (.amendHold owner handle cls action value) s = .next (s.withSlot (refusedAnswer 0x21 .noSuch))) ∧
      (¬badAmendHold cls action value → s.holdsSound → ∀ r ∈ s.table.records, r.handle = handle.toNat →
        (r.owner.code ≠ owner ∨ 4 ≤ owner.toNat →
            exec (.amendHold owner handle cls action value) s = .next (s.withSlot (refusedAnswer 0x21 .notOwner))) ∧
          (r.owner.code = owner → owner.toNat < 4 →
            (r.state = .releasing →
                exec (.amendHold owner handle cls action value) s =
                  .next (s.withSlot (refusedAnswer 0x21 .state))) ∧
              (r.state ≠ .releasing →
                (cls = 3 → amendedExpiry action value r.expiry ≠ none →
                    exec (.amendHold owner handle cls action value) s =
                      .next (s.withSlot (refusedAnswer 0x21 .field))) ∧
                  ((cls = 3 → amendedExpiry action value r.expiry = none) →
                    (r.cls.code = cls →
                        ∃ warn,
                          exec (.amendHold owner handle cls action value) s =
                            .next
                              { s.withSlot (doneAnswer 0x21 [handle]) with
                                table :=
                                  { s.table with
                                    records := s.table.records.map fun x =>
                                      if x.handle = r.handle then
                                        { x with expiry := amendedExpiry action value r.expiry }
                                      else x }
                                mon := { s.mon with warn := warn } }) ∧
                      (r.cls.code ≠ cls →
                        ∃ (k : HoldClass) (r' : Record) (t : State),
                          exec (.amendHold owner handle cls action value) s = .next t ∧ k.code = cls ∧
                            t.link.slot = doneAnswer 0x21 [handle] ∧
                            ((holdSet s.table.records).map fun x => if x.1 = r.handle then (x.1, k) else x) <+:
                              holdSet t.table.records ∧
                            r' = { r with
                                    cls := k
                                    expiry := amendedExpiry action value r.expiry
                                    state := .engaging } ∧
                            ((r' ∈ t.table.records ∧ t.distConfirmed = false ∧
                                (s.withHold r').distConfirmed = false) ∨
                              ({ r' with state := .held } ∈ t.table.records ∧
                                (t.distConfirmed = true ∨ (s.withHold r').distConfirmed = true))) ∧
                            (t.table.records.length = s.table.records.length →
                              ({ r' with state := .held } ∈ t.table.records ↔ t.distConfirmed = true)) ∧
                            t.freshForce ∧ t.table.relief = .stopped ∧ s.keepsRest t ∧ t.ctl = s.ctl ∧
                            t.meas = s.meas)))))

/-- RELEASE HOLD in RUN. Refused by the first check that fails, with nothing else changed: FIELD, NO_SUCH, NOT_OWNER, and
STATE for a ROLLAWAY record that CAB may not release yet (R17). Otherwise taken (R19): a RELEASING record is answered PENDING
and nothing changes; with another hold live the record is retired, DONE, and A is the F_req over the rest; the last hold is
answered PENDING and enters RELEASING with the gate armed over it for release_timeout, under a supply cause with SUPPLY raised,
or drives off at once where the gate is not suspended and its condition is met, which leaves the reference CLEAR (R107, R108,
R112, R114, R116, R126). An AUTOPARK record that is retired sets the autopark inhibit, and any other leaves it (R139). -/
def Obligations.ReleaseHoldChecksAndReleases : Prop :=
  ∀ (s : State) (owner handle : Byte), s.takes → s.ctl.mode = .run → s.holdsSound →
    (¬(1 ≤ owner.toNat ∧ owner.toNat ≤ 3) →
        exec (.releaseHold owner handle) s = .next (s.withSlot (refusedAnswer 0x22 .field))) ∧
      (1 ≤ owner.toNat → owner.toNat ≤ 3 →
        ((∀ r ∈ s.table.records, r.handle ≠ handle.toNat) →
            exec (.releaseHold owner handle) s = .next (s.withSlot (refusedAnswer 0x22 .noSuch))) ∧
          ∀ r ∈ s.table.records, r.handle = handle.toNat →
            (¬s.mayRelease owner r →
                exec (.releaseHold owner handle) s =
                  .next (s.withSlot (refusedAnswer 0x22
                    (if owner = 1 ∧ r.cause = some .rollaway then .state else .notOwner)))) ∧
              (s.mayRelease owner r →
                (r.state = .releasing →
                    exec (.releaseHold owner handle) s =
                      .next (s.withSlot ⟨0x22, .pending, .none, [handle, 0, 0, 0, 0, 0, 0, 0]⟩)) ∧
                  (r.state ≠ .releasing → 1 < s.table.records.length →
                    ∃ t, exec (.releaseHold owner handle) s = .next t ∧
                      t.link.slot = doneAnswer 0x22 [handle] ∧
                      holdSet (s.table.records.filter fun x => x.handle != r.handle) <+: holdSet t.table.records ∧
                      t.freshForce ∧ t.table.relief = .stopped ∧ t.inhibitedBy s r ∧ s.keepsRest t ∧
                      t.ctl = s.ctl ∧ t.meas = s.meas) ∧
                  (r.state ≠ .releasing → s.table.records = [r] →
                    ∃ t, exec (.releaseHold owner handle) s = .next t ∧
                      t.link.slot = ⟨0x22, .pending, .none, [handle, 0, 0, 0, 0, 0, 0, 0]⟩ ∧ s.keepsRest t ∧
                      t.ctl = s.ctl ∧ t.meas = s.meas ∧
                      ((r.cls = .park ∧ s.lowSpring) ∨ ¬s.letsGo s.force s.meas.drive →
                        t.table = { s.table with records := [{ r with state := .releasing }] } ∧
                          (∃ supply, t.gate =
                              ⟨true, r.handle, some (Config.ms s.vehicle.releaseTimeout.toNat), supply, false⟩ ∧
                            (supply = true ↔ r.cls = .park ∧ s.lowSpring)) ∧
                          (r.cls = .park ∧ s.lowSpring → t.link.pending.getLsbD 4 = true) ∧
                          (¬(r.cls = .park ∧ s.lowSpring) →
                            t.link.pending.getLsbD 4 = s.link.pending.getLsbD 4) ∧
                          t.dist = s.dist ∧ t.chans = s.chans ∧ t.force = s.force) ∧
                      (¬(r.cls = .park ∧ s.lowSpring) → s.letsGo s.force s.meas.drive →
                        s.drivenOff t ∧ ∀ x ∈ t.table.records, x.owner = .monitor ∨ x.owner = .pendant))))

/-- Expiry. Every 100 ms the expiry of each record that is not RELEASING counts down by one (R22), all at one beat of the
part: DESIGN CHOICE, log entry 10. A count that so falls from 1 to 0 expires its record with that: it is retired if the
driver is present, with the warning train from 0 (R24), and becomes PARK without an expiry in its place, ENGAGING, or HELD
where the new distribution is confirmed, if not (R10, R23); each raises HOLDS and leaves A at the F_req over the table.
HOLD_EXPIRY is that event for one record, which the part makes by itself when the beat comes round, EXPIRY_COUNTDOWN the
beat for the records that are left: DEDUCED, log entry 35; the order of several that expire together is open, log entry 3.
A retirement of the last hold leaves the table empty with A at 0 and the reference in WATCH, its timer from 0 and the
counters kept, but for a hold that the part itself opens in the same event (R126). The train ends after 2000 ms (R145). -/
def Obligations.HoldsExpire : Prop :=
  ∀ s : State, s.powered = true →
    (s.ctl.mode ≠ .sleep → Config.ms 100 ≤ s.table.beat →
      (∀ r ∈ s.table.records, r.state ≠ .releasing → ∀ n, r.expiry = some n → 1 < n) →
        ∃ warn, exec .expiryCountdown s =
          .next
            { s with
              table := { s.table with beat := 0, records := s.table.records.map fun r => { r with expiry := r.countedTo } }
              mon := { s.mon with warn := warn } }) ∧
      (s.ctl.mode ≠ .sleep → Config.ms 100 ≤ s.table.beat → s.holdsSound → (∃ r ∈ s.table.records, r.endsNext) →
        ∃ t, exec .expiryCountdown s = .next t ∧ t.table.beat = 0 ∧ t.link.pending.getLsbD 0 = true ∧
          (s.ctl.mode = .run →
            (∃ r ∈ s.table.records, r.endsNext ∧ t.link.lastHandle = r.handle) ∧ t.link.lastReason = .none) ∧
          t.freshForce ∧ t.table.relief = .stopped ∧ t.ctl = s.ctl ∧ t.meas = s.meas ∧ t.store = s.store ∧
          (∀ r ∈ s.table.records, ¬r.endsNext →
            ∃ st, { r with expiry := r.countedTo, state := st } ∈ t.table.records ∧
              (st = r.state ∨ (r.state = .engaging ∧ st = .held))) ∧
          (s.mon.driverPresent = false →
            holdSet t.table.records =
                s.table.records.map (fun r => (r.handle, if r.endsNext then .park else r.cls)) ∧
              ∀ r ∈ s.table.records, r.endsNext →
                { r with cls := .park, expiry := none, state := .held } ∈ t.table.records ∨
                  ({ r with cls := .park, expiry := none, state := .engaging } ∈ t.table.records ∧
                    t.distConfirmed = false)) ∧
          (s.mon.driverPresent = true →
            holdSet (s.table.records.filter fun r => ¬r.endsNext) <+: holdSet t.table.records ∧
              t.mon.train = .running 0 ∧ t.mon.warn ≠ .off ∧
              ((∀ r ∈ s.table.records, r.endsNext) → s.nothingFollows →
                t.table.records = [] ∧ t.mon.ref = .watch ∧ t.mon.watchAfter = .running 0 ∧ t.table.applied = 0))) ∧
      (s.ctl.mode ≠ .sleep → Config.ms 100 ≤ s.table.beat → s.holdsSound → ∀ r ∈ s.table.records, r.endsNext →
        Instr.holdExpiry r.handle ∈ s.dueEvents ∧
        (s.mon.driverPresent = false →
            ∃ t, exec (.holdExpiry r.handle) s = .next t ∧
              (holdSet t.table.records =
                (holdSet s.table.records).map fun x => if x.1 = r.handle then (x.1, .park) else x) ∧
              (({ r with cls := .park, expiry := none, state := .engaging } ∈ t.table.records ∧
                  t.distConfirmed = false) ∨
                ({ r with cls := .park, expiry := none, state := .held } ∈ t.table.records ∧
                  t.distConfirmed = true)) ∧
              t.link.pending.getLsbD 0 = true ∧ t.link.lastHandle = r.handle ∧ t.link.lastReason = .none ∧
              t.freshForce ∧ t.table.relief = .stopped ∧ s.keepsRest t ∧ t.ctl = s.ctl ∧ t.meas = s.meas) ∧
          (s.mon.driverPresent = true →
            ∃ t, exec (.holdExpiry r.handle) s = .next t ∧
              holdSet (s.table.records.filter fun x => x.handle != r.handle) <+: holdSet t.table.records ∧
              t.link.pending.getLsbD 0 = true ∧
              (s.ctl.mode = .run → t.link.lastHandle = r.handle ∧ t.link.lastReason = .none) ∧
              t.mon.train = .running 0 ∧ t.mon.warn ≠ .off ∧ t.freshForce ∧ t.table.relief = .stopped ∧
              (s.table.records = [r] →
                (t.table.records = [] →
                    t.mon.ref = .watch ∧ t.mon.watchAfter = .running 0 ∧ t.mon.wheels = s.mon.wheels ∧
                      t.table.applied = 0) ∧
                  (s.nothingFollows → t.table.records = [])) ∧
              s.keepsRest t ∧ t.ctl = s.ctl ∧ t.meas = s.meas)) ∧
      ∀ n, s.mon.train = .running n → Config.ms 2000 ≤ n →
        ∃ warn, exec .expiryTrainEnd s = .next { s with mon := { s.mon with train := .stopped, warn := warn } }

/-- The relief timer at 2000 ms makes A the F_req of the latest offer, hands a changed A to the Distribution Unit, and starts
again (R30, R31). The release timer at 0 fails the release: the record returns to HELD, the gate goes idle, HOLDS tells the
handle and RELEASE_TIMEOUT, and A, the distribution and the brakes stand (R117). -/
def Obligations.ReliefAndReleaseTimersRunOut : Prop :=
  ∀ s : State, s.powered = true →
    (∀ n, s.table.relief = .running n → Config.ms 2000 ≤ n →
        ∃ t, exec .reliefTimerExpiry s = .next t ∧ t.table.applied = s.force.fReq ∧ t.table.relief = .running 0 ∧
          holdSet t.table.records = holdSet s.table.records ∧ t.force = s.force ∧ t.gate = s.gate ∧
          (s.force.fReq = s.table.applied → t.dist = s.dist ∧ t.chans = s.chans) ∧
          (s.force.fReq ≠ s.table.applied →
            t.dist =
              ({ s with table := { s.table with applied := s.force.fReq } } : State).distribution s.meas.loads) ∧
          s.keepsRest t ∧ t.ctl = s.ctl ∧ t.meas = s.meas) ∧
      (s.gate.armed = true → s.gate.supplyCause = false → s.gate.modeCause = false → s.gate.remaining = some 0 →
        ∃ t, exec .releaseTimerExpiry s = .next t ∧
          t.table =
            { s.table with
              records := s.table.records.map fun r => if r.state = .releasing then { r with state := .held } else r } ∧
          t.gate = ⟨false, 0, none, false, false⟩ ∧ t.link.pending.getLsbD 0 = true ∧
          t.link.lastHandle = s.gate.handle ∧ t.link.lastReason = .releaseTimeout ∧ t.link.slot = s.link.slot ∧
          t.dist = s.dist ∧ t.chans = s.chans ∧ t.force = s.force ∧ s.keepsRest t ∧ t.ctl = s.ctl ∧ t.meas = s.meas)

/-- The armed gate. While it is not suspended it judges each drive report, and the lapse of one with a drive force of 0:
where its condition is met the truck drives off, the record retired, the gate idle, HOLDS raised, and the table empty with the
reference CLEAR and every counter at 0 but for a hold the part itself opens in the same event (R126); where not, table and
gate stand. Suspended, it judges neither; a drum report makes a run and is never judged (R43, R109). On a sample the gate
decides its supply cause first: it holds while a PARK hold is being released and a spring channel in E is supply-low, and
its beginning and its end raise SUPPLY; then, with no cause of suspension left, the gate judges (R108, R109, R112, R114,
R115, R116). -/
def Obligations.GateFollowsTheDrive : Prop :=
  ∀ s : State, s.holdsSound → s.gate.armed = true →
    (s.gate.supplyCause = false → s.gate.modeCause = false →
      (∀ force gear, s.takes → (1 ≤ gear.toNat ∧ gear.toNat ≤ 3) →
          ∃ t, exec (.driveState force gear) s = .next t ∧ s.judgedBy t t.force (driveOf force gear)) ∧
        ∀ n, s.powered = true → s.meas.driveAge = .running n → Config.ms 200 ≤ n →
          ∃ t, exec .driveReportStale s = .next t ∧ s.judgedBy t s.force 0) ∧
      (s.gate.supplyCause = true ∨ s.gate.modeCause = true →
        (∀ force gear, s.takes → s.ctl.mode ≠ .degraded → (1 ≤ gear.toNat ∧ gear.toNat ≤ 3) →
            ∃ t, exec (.driveState force gear) s = .next t ∧ t.gate = s.gate ∧ t.table.records = s.table.records ∧
              t.meas.drive = driveOf force gear ∧ t.force = t.calculate ∧
              t.table.applied = max s.table.applied t.force.fReq) ∧
          ∀ n, s.powered = true → s.meas.driveAge = .running n → Config.ms 200 ≤ n →
            ∃ warn, exec .driveReportStale s =
              .next { s with meas := { s.meas with driveAge := .stopped }, mon := { s.mon with warn := warn } }) ∧
      (∀ mode flag weight, s.takes → s.ctl.mode ≠ .degraded → 1 ≤ mode.toNat → mode.toNat ≤ 4 →
        (flag ≠ 0 → weight.toNat ≤ 40000) →
        ∃ (t : State) (d : DrumMode), exec (.drumState mode flag weight) s = .next t ∧ d.code = mode ∧
          t.meas = { s.meas with drum := d, cRep := if flag = 0 then none else some weight.toNat } ∧
          t.gate = s.gate ∧ t.table.records = s.table.records ∧ t.force = t.calculate ∧
          t.table.applied = max s.table.applied t.force.fReq) ∧
      ∀ r, s.powered = true → s.samplesNow →
        ∃ t, exec (.sampleArrival r) s = .next t ∧
          (s.heldLow t → t.gate = { s.gate with supplyCause := true } ∧ t.table.records = s.table.records ∧
              (s.gate.supplyCause = false → t.link.pending.getLsbD 4 = true)) ∧
            (¬s.heldLow t → s.gate.supplyCause = true → t.link.pending.getLsbD 4 = true) ∧
            (¬s.heldLow t → s.gate.modeCause = true →
              t.gate = { s.gate with supplyCause := false } ∧ t.table.records = s.table.records) ∧
            (¬s.heldLow t → s.gate.modeCause = false → s.judgedBy t t.force s.meas.drive)

/-- The law of SLEEP holds after every step: sample sets come just while the part is awake, and in SLEEP no line is
debounced and the clock monitor, the relief timer, the seat timer and the pulse train stand still (R32, R135, R143, R163).
And by it the laws of the table and the gate hold after every step: sound records, distinct handles 1..255, an expiry of
1..600, the limits of the table, and a RELEASING record only under an armed gate, alone (R1 to R5, R11, R106). -/
def Obligations.HoldsKeepTheirLaws : Prop :=
  (∀ s t : State, s.sleepSound → step s = .next t → t.sleepSound) ∧
    ∀ s t : State, s.holdsSound → s.sleepSound → step s = .next t → t.holdsSound

/-- The laws of the forces hold after every step: A is 0 with no hold live and at least the floor of every live class
otherwise, and the assigned forces sum to at least A while SHORT is clear (R28, R73). -/
def Obligations.ForcesKeepTheirLaws : Prop :=
  ∀ s t : State, s.forcesSound → step s = .next t → t.forcesSound

/-- A never falls while the live holds and their classes are unchanged, except by relief and at a reset: whatever other
command leaves the holds and the handle counter as they were leaves A at least as high (R29). -/
def Obligations.AppliedForceRatchets : Prop :=
  ∀ (i : Instr) (s t : State), s.holdsSound → exec i s = .next t → i ≠ .reliefTimerExpiry → i ≠ .reset →
    i ≠ .powerOnReset → holdSet t.table.records = holdSet s.table.records →
    t.table.nextHandle = s.table.nextHandle → s.table.applied ≤ t.table.applied

/-! ## Measurement and the holding force -/

/-- A sample 10 ms after the reset, the wake or the sample before it, in an awake mode: the part takes one by itself then,
over what its inputs show, as it takes one that is given to it; the 10 ms start again, each sensor takes its reading, the
circuits, the loads and the weight follow, and the motion state, the profile and the mode stand (R32, R33, R39, R40, R41).
At any other moment, and in SLEEP, no sample is taken: the readings then are what the analog inputs show, and nothing else
changes (the model's choice, log entries 2 and 41). A sensor that turns INVALID raises SENSOR, a change of supply-low
SUPPLY. Then, with the gate idle: at standstill or over holds the Force Calculator runs, A rises to F_req and otherwise
stands, and the relief timer runs on or starts at 80 % of A or less and stops above (R28 to R30, R47); a channel whose
service sensor turned INVALID faults with cause SENSOR (R94); the Distribution Unit runs where A changed, such a channel
faulted, a supply-low changed or a P_avail strayed by more than 20 kPa, and not otherwise (R62), over the loads of the
sample, or at the first sample after a wake that changes a supply-low over the static ones (R79; DEDUCED, log entry 5);
and where nothing of this changed the distribution, each VALID service pressure confirms its channel or moves its drift
timer (R89, R91). -/
def Obligations.SampleIsMeasured : Prop :=
  ∀ (s : State) (r : SampleSet), s.powered = true →
    (s.ctl.mode = .sleep ∨ ¬s.samplesNow →
      ∃ warn, exec (.sampleArrival r) s =
        .next { s with meas := { s.meas with inputs := r }, mon := { s.mon with warn := warn } }) ∧
    (s.ctl.mode ≠ .sleep → s.samplesNow → Instr.sampleArrival s.meas.inputs ∈ s.dueEvents ∧
    ∃ t, exec (.sampleArrival r) s = .next t ∧ t.meas.inputs = r ∧ t.meas.sampleTimer = .running 0 ∧
      (∀ c, sensorReads (s.meas.psv.get c) (r.psv.get c) (t.meas.psv.get c) ∧
        sensorReads (s.meas.psu.get c) (r.psu.get c) (t.meas.psu.get c)) ∧
      sensorReads s.meas.supplyA.sensor r.pra t.meas.supplyA.sensor ∧
      sensorReads s.meas.supplyB.sensor r.prb t.meas.supplyB.sensor ∧
      supplyReads s.vehicle.minSupply.toNat t.meas.supplyA ∧ supplyReads s.vehicle.minSupply.toNat t.meas.supplyB ∧
      (∀ c,
        ((s.chans.get c).state = .absent ∨ (s.chans.get c).state = .lifted → t.meas.loads.get c = 0) ∧
          ((s.chans.get c).state ≠ .absent → (s.chans.get c).state ≠ .lifted →
            (∀ p, t.meas.psu.get c = .valid p →
                t.meas.loads.get c =
                  min (max ((s.items c).loadOffset.toNat + p * (s.items c).loadGain.toNat / 100)
                    (s.items c).minLoad.toNat) (s.items c).maxLoad.toNat) ∧
              ((∀ p, t.meas.psu.get c ≠ .valid p) → t.meas.loads.get c = (s.items c).staticLoad.toNat))) ∧
      ((∀ c, (s.items c).isFitted = true → ∃ p, t.meas.psu.get c = .valid p) →
        t.meas.weight =
          min ((allChans.filter fun c => (s.items c).isFitted).map t.meas.loads.get).sum 65000) ∧
      ((∃ c, (s.items c).isFitted = true ∧ ∀ p, t.meas.psu.get c ≠ .valid p) →
        t.meas.weight = s.vehicle.grossWeight.toNat) ∧
      (((∃ c n, (s.meas.psv.get c).isInvalid = false ∧ t.meas.psv.get c = .invalid n) ∨
          (∃ c n, (s.meas.psu.get c).isInvalid = false ∧ t.meas.psu.get c = .invalid n) ∨
          (s.meas.supplyA.sensor.isInvalid = false ∧ t.meas.supplyA.sensor.isInvalid = true) ∨
          (s.meas.supplyB.sensor.isInvalid = false ∧ t.meas.supplyB.sensor.isInvalid = true)) →
        t.link.pending.getLsbD 5 = true) ∧
      ((s.meas.supplyA.low ≠ t.meas.supplyA.low ∧ (t.meas.supplyA.low = true ∨ s.meas.supplyA.sensor ≠ .unread)) ∨
          (s.meas.supplyB.low ≠ t.meas.supplyB.low ∧ (t.meas.supplyB.low = true ∨ s.meas.supplyB.sensor ≠ .unread)) →
        t.link.pending.getLsbD 4 = true) ∧
      (∀ c, s.losesSensor t c →
        (t.chans.get c).state = .faulted ∧ (t.chans.get c).cause = some .sensor ∧ (t.chans.get c).confirmed = false ∧
          ((s.items c).failSafe ≠ 2 → (t.chans.get c).latch = false ∧ (t.chans.get c).dutyBuffer = 0) ∧
          ((s.items c).failSafe = 2 → (t.chans.get c).dutyBuffer = (t.chans.get c).dutyInForce) ∧
          t.dist.cmds.get c = ⟨none, 0, 0, 0, 0, none⟩ ∧ t.link.pending.getLsbD 3 = true) ∧
      (s.gate.armed = false →
        holdSet t.table.records = holdSet s.table.records ∧ t.gate = s.gate ∧
        (s.mon.motion = .standstill ∨ s.table.records ≠ [] →
          t.force = t.calculate ∧ t.table.applied = max s.table.applied t.force.fReq ∧
            (t.force.fReq * 100 ≤ s.table.applied * 80 →
              t.table.relief = if s.table.relief.isRunning then s.table.relief else .running 0) ∧
            (s.table.applied * 80 < t.force.fReq * 100 → t.table.relief = .stopped)) ∧
        (s.mon.motion ≠ .standstill → s.table.records = [] → t.force = s.force ∧ t.table = s.table) ∧
        (s.lowDiffers t → s.meas.awaitsFirstSample = true → t.dist = t.distribution t.staticLoads) ∧
        (s.lowDiffers t → s.meas.awaitsFirstSample = false → t.dist = t.distribution t.meas.loads) ∧
        (¬s.lowDiffers t → t.table.applied ≠ s.table.applied ∨ s.availStrays t ∨ (∃ c, s.losesSensor t c) →
          t.dist = t.distribution t.meas.loads) ∧
        (¬s.lowDiffers t → t.table.applied = s.table.applied → ¬s.availStrays t → (∀ c, ¬s.losesSensor t c) →
          t.dist = s.dist) ∧
        (t.dist = s.dist → t.table.applied = s.table.applied → (∀ c, ¬s.losesSensor t c) →
          ∀ c, (∀ p, t.meas.psv.get c = .valid p →
              (t.chans.get c).pressedTo (s.chans.get c) (s.items c) (s.dist.cmds.get c).pressure p) ∧
            ((∀ p, t.meas.psv.get c ≠ .valid p) → t.chans.get c = s.chans.get c))) ∧
      t.mon.motion = s.mon.motion ∧ t.ctl = s.ctl ∧ s.keepsRest t)

/-- The grade: off standstill a reading leaves window, count, flag and G as they are; at standstill a plausible reading
joins the window and G is the mean of a full one, else its worst entry; an implausible one raises SENSOR and counts,
leaves the window and takes G from it as it stands, or keeps G over an empty one, and the fifth in a row forces G to +600
with an empty window, until a window is full again (R35, R36, R37). -/
def Obligations.GradeFollowsTheWindow : Prop :=
  ∀ (s : State) (r : SampleSet), s.powered = true → s.ctl.mode ≠ .sleep → s.samplesNow →
    ∃ t, exec (.sampleArrival r) s = .next t ∧
      (s.mon.motion ≠ .standstill →
        t.meas.window = s.meas.window ∧ t.meas.implausible = s.meas.implausible ∧ t.meas.forced = s.meas.forced ∧
          t.meas.grade = s.meas.grade) ∧
      (s.mon.motion = .standstill → r.acx.natAbs ≤ 600 →
        t.meas.window = joined s.meas.window r.acx ∧ t.meas.implausible = 0 ∧
          (t.meas.window.length = 16 → t.meas.forced = false ∧ isMean t.meas.window t.meas.grade) ∧
          (t.meas.window.length ≠ 16 → t.meas.forced = s.meas.forced ∧
            (s.meas.forced = true → t.meas.grade = 600) ∧
            (s.meas.forced = false → isWorst t.meas.window t.meas.grade))) ∧
      (s.mon.motion = .standstill → 600 < r.acx.natAbs →
        t.link.pending.getLsbD 5 = true ∧
          (s.meas.forced = true → t.meas.forced = true ∧ t.meas.window = [] ∧ t.meas.grade = 600) ∧
          (s.meas.forced = false → s.meas.implausible < 4 →
            t.meas.forced = false ∧ t.meas.window = s.meas.window ∧
              t.meas.implausible = s.meas.implausible + 1 ∧
              (s.meas.window = [] → t.meas.grade = s.meas.grade) ∧
              (s.meas.window.length = 16 → isMean s.meas.window t.meas.grade) ∧
              (s.meas.window ≠ [] → s.meas.window.length ≠ 16 → isWorst s.meas.window t.meas.grade)) ∧
          (s.meas.forced = false → 4 ≤ s.meas.implausible →
            t.meas.forced = true ∧ t.meas.window = [] ∧ t.meas.implausible = 0 ∧ t.meas.grade = 600))

/-- The figures of a run of the Force Calculator: F_grade rounds W × |G| / 981 up, F_signed has the sign of G, S rounds the
share of the concrete up, B is their sum, each R_k is the greater of its floor and the margined base rounded up, and F_req
is the greatest R_k of the live classes, 0 without one (R50 to R56). -/
def Obligations.RunGivesTheForces : Prop :=
  ∀ s : State,
    let f := s.calculate
    (f.fGrade : Int) = ⌈((s.meas.weight * s.meas.grade.natAbs : Nat) : ℚ) / 981⌉ ∧
      (s.meas.weight ≤ 65000 → s.meas.grade.natAbs ≤ 600 → f.fGrade ≤ 39756) ∧
      (0 < s.meas.grade → f.fSigned = f.fGrade) ∧ (s.meas.grade < 0 → f.fSigned = -f.fGrade) ∧
      (s.meas.grade = 0 → f.fSigned = 0) ∧
      (∀ c, s.meas.cRep = some c → f.concrete = c) ∧
      (s.meas.cRep = none →
        (f.concrete : Int) =
          min (max ((s.meas.weight : Int) - (s.vehicle.emptyWeight.toNat : Int)) 0) 40000) ∧
      (f.slosh : Int) =
        ⌈((f.concrete *
            (match s.meas.drum with
            | .stopped => s.vehicle.sloshStopped
            | .agitate => s.vehicle.sloshAgitate
            | .mix => s.vehicle.sloshMix
            | .discharge => s.vehicle.sloshDischarge).toNat : Nat) : ℚ) / 1000⌉ ∧
      f.base = f.fGrade + f.slosh ∧
      (f.rLight : Int) =
        max (s.vehicle.floorLight.toNat : Int) ⌈((f.base * s.vehicle.marginLight.toNat : Nat) : ℚ) / 100⌉ ∧
      (f.rFirm : Int) =
        max (s.vehicle.floorFirm.toNat : Int) ⌈((f.base * s.vehicle.marginFirm.toNat : Nat) : ℚ) / 100⌉ ∧
      (f.rPark : Int) =
        max (s.vehicle.floorPark.toNat : Int) ⌈((f.base * s.vehicle.marginPark.toNat : Nat) : ℚ) / 100⌉ ∧
      (s.table.records = [] → f.fReq = 0) ∧
      (∀ r ∈ s.table.records, f.ofClass r.cls ≤ f.fReq) ∧
      (s.table.records ≠ [] → ∃ r ∈ s.table.records, f.fReq = f.ofClass r.cls)

/-- The drive and drum reports, outside DEGRADED and SAFE. A bad code, or a weight above 40000, is refused FIELD and nothing
changes. A taken report is stored, the drive report fresh from 0 ms, and answered, the drive report with its effective drive
force; the Force Calculator runs, and with the gate idle A rises to F_req and otherwise stands. A drive force other than 0
ends the watch-after. The drive report lapses after 200 ms (R29, R42, R43, R44, R46, R127). -/
def Obligations.ReportsAreTaken : Prop :=
  ∀ s : State, s.gate.armed = false →
    (s.takes → s.ctl.mode ≠ .degraded → s.ctl.mode ≠ .safe →
      (∀ force gear, ¬(1 ≤ gear.toNat ∧ gear.toNat ≤ 3) →
          exec (.driveState force gear) s = .next (s.withSlot (refusedAnswer 0x30 .field))) ∧
        (∀ force gear, 1 ≤ gear.toNat → gear.toNat ≤ 3 →
          ∃ (t : State) (g : Gear) (hi lo : Byte), exec (.driveState force gear) s = .next t ∧ g.code = gear ∧
            t.link.slot = doneAnswer 0x30 [hi, lo] ∧ (hi ++ lo).toInt = driveOf force gear ∧
            t.meas =
              { s.meas with
                driveForce := max (-30000) (min force.toInt 30000)
                gear := g
                driveAge := .running 0 } ∧
            t.meas.drive = driveOf force gear ∧ t.force = t.calculate ∧
            t.table.applied = max s.table.applied t.force.fReq ∧
            holdSet t.table.records = holdSet s.table.records ∧
            (s.mon.ref = .watch → driveOf force gear ≠ 0 → t.mon.ref = .clear ∧ t.mon.watchAfter = .stopped) ∧
            (s.mon.ref ≠ .watch ∨ driveOf force gear = 0 → t.mon.ref = s.mon.ref) ∧ s.keepsRest t ∧
            t.ctl = s.ctl) ∧
        (∀ mode flag weight, ¬(1 ≤ mode.toNat ∧ mode.toNat ≤ 4) ∨ (flag ≠ 0 ∧ 40000 < weight.toNat) →
          exec (.drumState mode flag weight) s = .next (s.withSlot (refusedAnswer 0x31 .field))) ∧
        (∀ mode flag weight, 1 ≤ mode.toNat → mode.toNat ≤ 4 → (flag ≠ 0 → weight.toNat ≤ 40000) →
          ∃ (t : State) (d : DrumMode), exec (.drumState mode flag weight) s = .next t ∧ d.code = mode ∧
            t.link.slot = doneAnswer 0x31 [] ∧
            t.meas = { s.meas with drum := d, cRep := if flag = 0 then none else some weight.toNat } ∧
            t.force = t.calculate ∧ t.table.applied = max s.table.applied t.force.fReq ∧
            holdSet t.table.records = holdSet s.table.records ∧ s.keepsRest t ∧ t.ctl = s.ctl)) ∧
      ∀ n, s.powered = true → s.meas.driveAge = .running n → Config.ms 200 ≤ n →
        ∃ warn, exec .driveReportStale s =
          .next { s with meas := { s.meas with driveAge := .stopped }, mon := { s.mon with warn := warn } }

/-- The figures stay in their ranges after every step: |G| at most 600, W at most 65000, C_rep at most 40000, F_grade at most
39756, F_req and A at most 143268, and the working profile within its ranges and constraints (R28, R37, R38, R40, R50,
R199). -/
def Obligations.FiguresStayInRange : Prop :=
  ∀ s t : State, s.figuresSound → step s = .next t → t.figuresSound

/-! ## Sharing the force, and the axle channels -/

/-- The limits and the commands of a run (R65, R66, R70, R75, R76): friction and valve capability round down, a SPRING channel
has K at the lesser of spring_cap and friction and pressure 0, a share gives its pressure rounded up within P_avail, and the
pressure its duty rounded up within 1000. -/
def Obligations.RunGivesTheCommands : Prop :=
  ∀ (s : State) (loads : Six Nat) (c : Chan),
    let v := s.items c
    let k := (s.distribution loads).cmds.get c
    (s.friction loads c : Int) = ⌊((loads.get c * s.vehicle.mu.toNat : Nat) : ℚ) / 1000⌋ ∧
      (v.pushout.toNat ≤ s.avail c →
        (s.cap loads c : Int) =
          min (s.friction loads c : Int)
            ⌊((v.gain.toNat : ℚ) * ((s.avail c : ℚ) - (v.pushout.toNat : ℚ))) / 100⌋) ∧
      (s.avail c < v.pushout.toNat → s.cap loads c = 0) ∧
      (k.requested.isSome = s.eligible c) ∧
      (k.requested = some .spring ↔ s.eligible c = true ∧ v.springs = true ∧
        ((∃ r ∈ s.table.records, r.cls = .park) ∨ s.lowSupply c = true)) ∧
      (k.requested = some .spring → k.spring = min v.springCap.toNat (s.friction loads c)) ∧
      (k.requested ≠ some .service → k.share = 0 ∧ k.pressure = 0 ∧ k.duty = 0) ∧
      (k.requested = some .service → 0 < v.gain.toNat →
        0 < k.share ∧
          (k.pressure : Int) =
            min ((v.pushout.toNat : Int) + ⌈((k.share * 100 : Nat) : ℚ) / (v.gain.toNat : ℚ)⌉) (s.avail c : Int)) ∧
      (k.requested = some .service → 0 < v.pFull.toNat →
        (k.duty : Int) = min ⌈((k.pressure * 1000 : Nat) : ℚ) / (v.pFull.toNat : ℚ)⌉ 1000)

/-- The sharing of A (R71, R72, R73): every share lies within its channel's cap; some channels carry their caps and the rest
share the remainder in proportion to their loads, rounded up; SHORT is clear exactly when the springs and the caps together
reach A, and the assigned total then exceeds A, or the springs alone, by at most 5 daN. -/
def Obligations.SharesCarryTheForce : Prop :=
  ∀ (s : State) (loads : Six Nat),
    let d := s.distribution loads
    let springs := (allChans.filter fun c => s.eligible c && s.springsApplied c)
    let rest := (allChans.filter fun c => s.eligible c && !s.springsApplied c)
    let held := (springs.map (s.springForce loads)).sum
    (∀ c ∈ rest, (d.cmds.get c).share ≤ s.cap loads c) ∧
      d.total = held + (rest.map fun c => (d.cmds.get c).share).sum ∧
      (∃ open' : List Chan, open'.Sublist rest ∧
        let remainder := s.table.applied - held - ((rest.filter fun c => c ∉ open').map (s.cap loads)).sum
        let total := (open'.map loads.get).sum
        ∀ c ∈ rest,
          (c ∉ open' → (d.cmds.get c).share = s.cap loads c) ∧
            (c ∈ open' → remainder = 0 ∨ total = 0 → (d.cmds.get c).share = 0) ∧
            (c ∈ open' → 0 < remainder → 0 < total →
              ((d.cmds.get c).share : Int) = ⌈((remainder * loads.get c : Nat) : ℚ) / (total : ℚ)⌉)) ∧
      (d.short = none ↔ s.table.applied ≤ held + (rest.map (s.cap loads)).sum) ∧
      (d.short = none ↔ s.table.applied ≤ d.total) ∧
      (d.short = some .traction ↔
        d.total < s.table.applied ∧ (∃ c, s.eligible c = true) ∧
          ((allChans.filter s.eligible).map (s.friction loads)).sum < s.table.applied) ∧
      d.total ≤ max s.table.applied held + 5

/-- The distribution in force stays sound after every step: pressures between 0 and the P_avail used, duties between 0 and
1000, pressure 0 in SPRING, a service share only where SERVICE is requested, and share, K, pressure and duty 0 for a
channel that is ABSENT, LIFTED or FAULTED, whose current mismatch timer stands too (R61, R75, R78, R82, R93). And the
report of confirmation is heard at every step: while the distribution in force is confirmed no record is ENGAGING, and a
command that leaves the live holds, their classes, A and the distribution as they were makes an ENGAGING record HELD only
where the distribution is then confirmed (R9, R88). -/
def Obligations.DistributionKeepsItsLaw : Prop :=
  (∀ s t : State, s.distSound → step s = .next t → t.distSound) ∧
    (∀ s t : State, s.reportSound → step s = .next t → t.reportSound) ∧
    ∀ (i : Instr) (s t : State), s.holdsSound → s.distSound → exec i s = .next t →
      holdSet t.table.records = holdSet s.table.records → t.table.applied = s.table.applied → t.dist = s.dist →
      ∀ r ∈ s.table.records, r.state = .engaging → { r with state := .held } ∈ t.table.records →
        t.distConfirmed = true

/-- The law of the springs, with each channel's place in E and its mismatch timer (R93): it holds after every step, and by
it, whenever a PARK hold is live, or the part is in SLEEP, every fitted channel with springs that is not FAULTED has its
spring drive line de-energized. -/
def Obligations.ParkKeepsTheSpringsApplied : Prop :=
  (∀ s t : State, s.springsSound → step s = .next t → t.springsSound) ∧
    ∀ (s : State) (c : Chan), s.springsSound → (∃ r ∈ s.table.records, r.cls = .park) ∨ s.ctl.mode = .sleep →
      (s.items c).isFitted = true → (s.items c).springs = true → (s.chans.get c).state ≠ .faulted → s.springsOn c

/-- A PWM period starts with the buffer's duty in force and the next one 5 ms later (R85). A SPRING channel confirms when its
spring timer has run 600 ms, its current is ABSENT and its duty is in force, whichever comes last (R85, R90). A changed spring
current is recorded, and while latch and current disagree in IDLE, SERVICE or SPRING the mismatch timer runs (R93). A channel
marked at the first standstill in SAFE becomes FAILSAFE with the start of its period (R161). No other channel changes. -/
def Obligations.ChannelTimersAndCurrents : Prop :=
  ∀ (s : State) (c : Chan), s.powered = true →
    (let ch := s.chans.get c
    (ch.pwm = some 0 → ch.failsafeMarked = false →
        ∃ t, exec (.pwmPeriodStart c) s = .next t ∧
          (∃ confirmed, t.chans.get c =
              { ch with dutyInForce := ch.dutyBuffer, pwm := some (Config.ms 5), confirmed := confirmed } ∧
            (confirmed = true ↔ ch.confirmed = true ∨
              (ch.state = .spring ∧ ch.spring = .ranOut ∧ ch.current = false))) ∧
          (∀ d, d ≠ c → t.chans.get d = s.chans.get d) ∧ t.dist = s.dist ∧ t.table.applied = s.table.applied ∧
          s.keepsRest t ∧ t.ctl = s.ctl ∧ t.meas = s.meas) ∧
      (ch.pwm = some 0 → ch.failsafeMarked = true → ch.state ≠ .faulted →
        ∃ t, exec (.pwmPeriodStart c) s = .next t ∧ (t.chans.get c).override = .failsafe ∧
          (t.chans.get c).failsafeMarked = false ∧ (t.chans.get c).pwm = some (Config.ms 5) ∧
          (ch.override ≠ .failsafe → s.eligible c = true → (s.dist.cmds.get c).requested.isSome = true →
            ((s.items c).holdsLast = false → (t.chans.get c).latch = false ∧ (t.chans.get c).dutyBuffer = 0) ∧
              ((s.items c).holdsLast = true → (t.chans.get c).dutyBuffer = (t.chans.get c).dutyInForce)) ∧
          ∀ d, d ≠ c → t.chans.get d = s.chans.get d) ∧
      (∀ n, ch.spring = .running n → Config.ms 600 ≤ n →
        ∃ t, exec (.springTimerExpiry c) s = .next t ∧
          (∃ confirmed, t.chans.get c = { ch with spring := .ranOut, confirmed := confirmed } ∧
            (confirmed = true ↔ ch.confirmed = true ∨
              (ch.state = .spring ∧ ch.current = false ∧ ch.dutyInForce = ch.dutyBuffer))) ∧
          (∀ d, d ≠ c → t.chans.get d = s.chans.get d) ∧ t.dist = s.dist ∧ t.table.applied = s.table.applied ∧
          s.keepsRest t ∧ t.ctl = s.ctl ∧ t.meas = s.meas) ∧
      (s.ctl.mode ≠ .sleep → ∀ present, ch.current ≠ present →
        ∃ t, exec (.springCurrentChange c present) s = .next t ∧
          (∃ mismatch confirmed, t.chans.get c =
              { ch with current := present, mismatch := mismatch, confirmed := confirmed } ∧
            (confirmed = true ↔ ch.confirmed = true ∨
              (ch.state = .spring ∧ ch.spring = .ranOut ∧ present = false ∧ ch.dutyInForce = ch.dutyBuffer)) ∧
            (mismatch.isRunning = true ↔ (s.items c).springs = true ∧ s.ctl.clock ≠ .failed ∧ ch.latch ≠ present ∧
              (ch.state = .idle ∨ ch.state = .service ∨ ch.state = .spring)) ∧
            (mismatch.isRunning = true → ch.mismatch = .stopped → mismatch = .running 0)) ∧
          (∀ d, d ≠ c → t.chans.get d = s.chans.get d) ∧ t.dist = s.dist ∧ t.table.applied = s.table.applied ∧
          s.keepsRest t ∧ t.ctl = s.ctl ∧ t.meas = s.meas))

/-- The channel faults: a confirmation window or a drift timer of 400 ms in IDLE or SERVICE with cause PRESSURE, a current
mismatch of 50 ms with OPEN under an energized latch and STUCK under a de-energized one. The channel takes its fail-safe
action, leaves the distribution, and CHANNEL is raised; with the gate idle A stands and the rest share it, and an armed
gate decides its supply cause afresh (R92, R93, R95, R96, R112, R114, R120). The channel's override stands as it was:
DEDUCED, log entry 29. -/
def Obligations.ChannelsFault : Prop :=
  ∀ (s : State) (c : Chan) (i : Instr) (n : Nat) (cause : FaultCause), s.powered = true →
    (i = .confirmationWindowExpiry c ∧ cause = .pressure ∧ (s.chans.get c).window = .running n ∧ Config.ms 400 ≤ n ∧
        (s.chans.get c).confirmed = false ∧ ((s.chans.get c).state = .idle ∨ (s.chans.get c).state = .service)) ∨
      (i = .driftTimerExpiry c ∧ cause = .pressure ∧ (s.chans.get c).drift = .running n ∧ Config.ms 400 ≤ n ∧
        ((s.chans.get c).state = .idle ∨ (s.chans.get c).state = .service)) ∨
      (i = .currentMismatchExpiry c ∧ (s.chans.get c).mismatch = .running n ∧ Config.ms 50 ≤ n ∧
        cause = if (s.chans.get c).latch then .openCoil else .stuck) →
    ∃ t, exec i s = .next t ∧ (t.chans.get c).faultedFrom (s.chans.get c) (s.items c) cause ∧
      t.dist.cmds.get c = ⟨none, 0, 0, 0, 0, none⟩ ∧ t.link.pending.getLsbD 3 = true ∧ s.keepsRest t ∧
      t.ctl = s.ctl ∧ t.meas = s.meas ∧ (s.gate.armed = true → s.holdsSound → s.decidesSupply t) ∧
      (s.gate.armed = false → t.table.applied = s.table.applied ∧ t.force = s.force ∧ t.gate = s.gate ∧
        holdSet t.table.records = holdSet s.table.records ∧ ∀ d, d ≠ c → t.dist.cmds.get d =
          (({ s with chans := t.chans } : State).distribution s.meas.loads).cmds.get d)

/-- CHANNEL RESTORE in RUN is refused FIELD for a channel other than 1..6 and STATE for one that is not FAULTED, with
nothing else changed. Otherwise DONE: a channel whose lift line reads RAISED becomes LIFTED with load 0; one whose service
sensor is INVALID is FAULTED again, with cause SENSOR; any other joins the distribution (R104). Each makes the
Distribution Unit share the same A again and an armed gate decide its supply cause afresh: the cause as a PARK release
finds it, with SUPPLY at its beginning and its end, and at its end the gate judges (R62, R112, R114, R115, R120). That the
restore to LIFTED makes them too is DEDUCED: log entry 37. -/
def Obligations.ChannelRestoreRestores : Prop :=
  ∀ (s : State) (channel : Byte), s.takes → s.ctl.mode = .run →
    (¬(1 ≤ channel.toNat ∧ channel.toNat ≤ 6) →
        exec (.channelRestore channel) s = .next (s.withSlot (refusedAnswer 0x41 .field))) ∧
      ∀ c : Chan, channel.toNat = c.val + 1 →
        ((s.chans.get c).state ≠ .faulted →
            exec (.channelRestore channel) s = .next (s.withSlot (refusedAnswer 0x41 .state))) ∧
          ((s.chans.get c).state = .faulted → (s.items c).isFitted = true →
            ∃ t, exec (.channelRestore channel) s = .next t ∧ t.link.slot = doneAnswer 0x41 [] ∧ s.keepsRest t ∧
              t.ctl = s.ctl ∧
              (s.gate.armed = false → t.table.applied = s.table.applied ∧ t.dist = t.distribution t.meas.loads ∧
                holdSet t.table.records = holdSet s.table.records) ∧
              (s.gate.armed = true → s.holdsSound → s.decidesSupply t) ∧
              ((s.items c).line.isSome = true → (s.chans.get c).lift = true →
                (t.chans.get c).state = .lifted ∧ (t.chans.get c).cause = none ∧ (t.chans.get c).latch = false ∧
                  (t.chans.get c).dutyBuffer = 0 ∧ (t.chans.get c).confirmed = false ∧ t.meas.loads.get c = 0) ∧
              ((s.items c).line = none ∨ (s.chans.get c).lift = false →
                ((∃ n, s.meas.psv.get c = .invalid n) →
                    (t.chans.get c).state = .faulted ∧ (t.chans.get c).cause = some .sensor ∧
                      t.link.pending.getLsbD 3 = true) ∧
                  ((∀ n, s.meas.psv.get c ≠ .invalid n) →
                    (t.chans.get c).state.tested = true ∧ (t.chans.get c).cause = none ∧
                      ((s.chans.get c).override = .none → (t.chans.get c).confirmed = false) ∧
                      (t.dist.cmds.get c).requested.isSome = true)))

/-- The lift lines. A line that has read a new level for 50 ms takes it, and the channels on it follow in turn, each once and
each in an event of its own, in some order: two channels that move on one line make a run each, each run with its own SHORT
transition (R63, R74). RAISED lifts every channel on the line that is in E: de-energized, duty 0, unconfirmed, load 0, out of
the distribution. LOWERED brings each LIFTED channel on it back into E, or faults it with cause SENSOR where its service
sensor is INVALID. A FAULTED channel records the level alone; a channel that is not on the line stands as it was where it is
out of E, and stays in E where it is in it; with the gate idle A stands (R97, R98, R99). An armed gate decides its supply
cause afresh at each lift or lowering of a channel (R112, R114, R120). -/
def Obligations.LiftLinesActOnTheirChannels : Prop :=
  ∀ (s : State) (line : LiftLine) (raised : Bool) (n : Nat), s.powered = true → s.distSound →
    (s.lines.lift line).debounce = .running n → Config.ms 50 ≤ n → (s.lines.lift line).raw = raised →
    ∃ t, exec (if raised then .liftRaised line else .liftLowered line) s = .next t ∧
      t.lines.lift line = ⟨raised, raised, .stopped⟩ ∧ t.ctl = s.ctl ∧ t.store = s.store ∧
      (s.gate.armed = false → t.table.applied = s.table.applied) ∧
      (∃ (cs : List Chan) (k : Nat) (warn : Warn), cs.Perm (s.onLine line) ∧
        State.followInTurn raised cs
          { s with
            lines := s.lines.setLift line raised
            freeCount := k
            mon := { s.mon with warn := warn } } t) ∧
      (∀ c, (s.items c).line ≠ some line →
        ((s.chans.get c).state.tested = false → t.chans.get c = s.chans.get c) ∧
          ((s.chans.get c).state.tested = true → (t.chans.get c).state.tested = true)) ∧
      ∀ c, (s.items c).line = some line → (t.chans.get c).lift = raised ∧
        ((s.chans.get c).state = .faulted → t.chans.get c = { s.chans.get c with lift := raised }) ∧
        (raised = true → (s.chans.get c).state.tested = true →
          (t.chans.get c).state = .lifted ∧ (t.chans.get c).latch = false ∧ (t.chans.get c).dutyBuffer = 0 ∧
            (t.chans.get c).confirmed = false ∧ t.meas.loads.get c = 0 ∧
            t.dist.cmds.get c = ⟨none, 0, 0, 0, 0, none⟩) ∧
        (raised = false → (s.chans.get c).state = .lifted →
          ((∃ m, s.meas.psv.get c = .invalid m) →
              (t.chans.get c).state = .faulted ∧ (t.chans.get c).cause = some .sensor ∧
                t.link.pending.getLsbD 3 = true) ∧
            ((∀ m, s.meas.psv.get c ≠ .invalid m) →
              (t.chans.get c).state.tested = true ∧ (t.dist.cmds.get c).requested.isSome = true))

/-! ## The Standstill Monitor -/

/-- A digital line at a level in an awake mode: a new level starts the line's 50 ms, the debounced level again ends them, and
nothing else changes; the pendant pair is debounced as one combination, whether one of its lines changes or both together (R98,
R135, R140). -/
def Obligations.LinesAreDebounced : Prop :=
  ∀ (s : State) (b : Bool), s.powered = true → s.ctl.mode ≠ .sleep →
    let after (l : Line) : Line := if l.raw = b then l else ⟨b, l.level, if b = l.level then .stopped else .running 0⟩
    let pair (pa pb : Bool) : Lines :=
      { s.lines with
        pa := pa
        pb := pb
        pairDebounce := if pairRead pa pb = s.lines.pair then .stopped else .running 0 }
    exec (.rawLineChange (.seat b)) s = .next { s with lines := { s.lines with seat := after s.lines.seat } } ∧
      exec (.rawLineChange (.door b)) s = .next { s with lines := { s.lines with door := after s.lines.door } } ∧
      exec (.rawLineChange (.lift .lift1 b)) s =
        .next { s with lines := { s.lines with lift1 := after s.lines.lift1 } } ∧
      exec (.rawLineChange (.lift .lift2 b)) s =
        .next { s with lines := { s.lines with lift2 := after s.lines.lift2 } } ∧
      exec (.rawLineChange (.pa b)) s = .next { s with lines := if s.lines.pa = b then s.lines else pair b s.lines.pb } ∧
      exec (.rawLineChange (.pb b)) s = .next { s with lines := if s.lines.pb = b then s.lines else pair s.lines.pa b } ∧
      ∀ pb, exec (.rawLineChange (.pair b pb)) s =
        .next { s with lines := if s.lines.pa = b ∧ s.lines.pb = pb then s.lines else pair b pb }

/-- A wheel pulse: a short interval starts the moving timer, the standstill timer starts, the motion state is MOVING while the
moving timer runs and else CREEPING, the end of standstill empties the grade window and stops autopark; while the reference
is set the creep counter counts to 40 (R35, R122, R123, R128, R139). WAKE by a pulse is this event (log entry 22). -/
def Obligations.PulsesAreCounted : Prop :=
  ∀ (s : State) (n : Chan), s.powered = true →
    ∃ t, exec (.wheelPulse n) s = .next t ∧ exec (.wake (.pulse n)) s = .next t ∧ t.mon.standstill = .running 0 ∧
      (t.mon.wheels.get n).lastPulse = some s.now ∧
      t.mon.moving =
        (match (s.mon.wheels.get n).lastPulse with
        | some last =>
          if s.now - last < Config.ms s.vehicle.movingInterval.toNat then
            some (Config.ms s.vehicle.movingInterval.toNat)
          else s.mon.moving
        | none => s.mon.moving) ∧
      (t.mon.moving.isSome = true → t.mon.motion = .moving) ∧ (t.mon.moving = none → t.mon.motion = .creeping) ∧
      (s.mon.motion = .standstill →
        t.meas.window = [] ∧ t.meas.implausible = 0 ∧ t.mon.autopark = .stopped) ∧
      (s.mon.motion ≠ .standstill → s.ctl.mode ≠ .sleep → t.mon.autopark = s.mon.autopark ∧ t.meas = s.meas) ∧
      (¬s.limitBy n →
        t.table = s.table ∧ t.link = s.link ∧ t.chans = s.chans ∧ t.ctl = s.ctl ∧ t.mon.ref = s.mon.ref ∧
          (s.mon.motion = .standstill → t.mon.inhibit = false) ∧
          (t.mon.wheels.get n).reached = (s.mon.wheels.get n).reached ∧
          (t.mon.wheels.get n).creep =
            (if s.mon.ref = .clear then (s.mon.wheels.get n).creep else min ((s.mon.wheels.get n).creep + 1) 40) ∧
          ∀ m, m ≠ n → t.mon.wheels.get m = s.mon.wheels.get m) ∧
      t.now = s.now ∧ t.store = s.store

/-- A limit pulse in an awake mode acts by the rollaway stage: the first opens the ROLLAWAY record, raises ROLLAWAY and HOLDS
and leaves the stage CAUGHT or, with the brakes already confirmed, SECURED; in SECURED it sets TRACTION_LOST, raises ROLLAWAY,
withdraws the collection mark and holds WARN steady; in CAUGHT and LOST the holds stand (R129, R130, R132, R144). The pulse is
counted up to 40 and its input's mark set, so that it gives no second limit pulse, except that the first over an empty table,
which sets the reference, and one whose record is at once HELD leave every counter at 0 (R126, R128, R131). -/
def Obligations.RollawayIsCaught : Prop :=
  ∀ (s : State) (n : Chan), s.powered = true → s.ctl.mode ≠ .sleep → s.limitBy n →
    (s.mon.stage = .none → (∀ r ∈ s.table.records, r.cause ≠ some .rollaway) →
        ∃ t, exec (.wheelPulse n) s = .next t ∧ (t.mon.stage = .caught ∨ t.mon.stage = .secured) ∧
          (∃ r ∈ t.table.records, r.cause = some .rollaway ∧ r.owner = .monitor ∧ r.cls = .park ∧
            r.collected = false) ∧
          (t.mon.stage = .caught → s.table.records ≠ [] → s.limitCounted t n) ∧
          (t.mon.stage = .secured ∨ s.table.records = [] → t.countersAtZero) ∧
          t.link.pending.getLsbD 0 = true ∧ t.link.pending.getLsbD 1 = true ∧ t.freshForce ∧
          t.mon.warn ≠ .off ∧ t.ctl = s.ctl ∧ s.keepsRest t) ∧
      (s.mon.stage = .secured →
        ∃ t, exec (.wheelPulse n) s = .next t ∧ t.mon.stage = .lost ∧ t.mon.tractionLost = true ∧
          t.link.pending.getLsbD 1 = true ∧ t.mon.warn = .steady ∧ s.limitCounted t n ∧
          holdSet t.table.records = holdSet s.table.records ∧
          (∀ r ∈ t.table.records, r.cause = some .rollaway → r.collected = false) ∧
          t.table.applied = s.table.applied ∧ t.dist = s.dist ∧ t.ctl = s.ctl ∧ s.keepsRest t) ∧
      (s.mon.stage = .caught ∨ s.mon.stage = .lost →
        ∃ t, exec (.wheelPulse n) s = .next t ∧ t.mon.stage = s.mon.stage ∧ s.limitCounted t n ∧
          t.table = s.table ∧ t.link = s.link ∧ t.chans = s.chans ∧ t.ctl = s.ctl ∧ s.keepsRest t)

/-- The motion timers. The moving timer runs out into CREEPING, and a pendant opening that waited for it is then made, if the
line still asks and no PENDANT record but a RELEASING one is live: it opens the hold, or finds no room, which is told with FULL
unless it has been, and is owed (R26, R124, R141; what becomes of an opening that the table no longer allows, and the telling
across the wait, are DEDUCED, log entry 28). The standstill timer, at 300 ms, runs out into STANDSTILL, which starts
the autopark timer, and in SAFE the first time makes the FAILSAFE opening and marks the channels; the watch-after timer, at
5000 ms, drops the reference with every counter at 0 (R122, R124, R126, R138, R161). -/
def Obligations.MotionTimersRunOut : Prop :=
  ∀ s : State, s.powered = true →
    (s.mon.moving = some 0 →
        ∃ t, exec .movingTimerExpiry s = .next t ∧ t.mon.motion = .creeping ∧ t.mon.moving = none ∧ t.ctl = s.ctl ∧
          s.keepsRest t ∧
          ((∀ told, s.mon.pendantWant ≠ .untilStill told) ∨ s.ctl.mode = .sleep ∨ s.lines.pair = .notAsking →
            t.table = s.table ∧ t.link = s.link ∧ t.chans = s.chans ∧ t.mon.pendantWant = s.mon.pendantWant) ∧
          ∀ told, s.mon.pendantWant = .untilStill told → s.ctl.mode ≠ .sleep → s.lines.pair ≠ .notAsking →
            (s.holdsSound → ¬s.noPendant →
                t.table = s.table ∧ t.link = s.link ∧ t.chans = s.chans ∧ t.mon.pendantWant = .none) ∧
              (s.noPendant → 12 ≤ nonMonitorCount s.table.records → s.pendantTurnedAway t told ∧ t.chans = s.chans) ∧
              (s.noPendant → nonMonitorCount s.table.records < 12 → s.holdsSound →
                t.pendantOpened s (s.table.records.filter fun r => r.state != .releasing))) ∧
      (∀ n, s.mon.standstill = .running n → Config.ms 300 ≤ n →
        ∃ t, exec .standstillTimerExpiry s = .next t ∧ t.mon.motion = .standstill ∧ t.mon.standstill = .ranOut ∧
          t.mon.autopark = .running 0 ∧ t.ctl.mode = s.ctl.mode ∧ s.keepsRest t ∧
          (s.ctl.mode ≠ .safe ∨ s.ctl.failsafeDone = true →
            t.table = s.table ∧ t.chans = s.chans ∧ t.ctl = s.ctl ∧ t.link = s.link) ∧
          (s.ctl.mode = .safe → s.ctl.failsafeDone = false →
            t.ctl.failsafeDone = true ∧ (∃ r ∈ t.table.records, r.cause = some .failsafe) ∧
              ∀ c, (s.chans.get c).state ≠ .faulted → (t.chans.get c).failsafeMarked = true)) ∧
      ∀ n, s.mon.watchAfter = .running n → Config.ms 5000 ≤ n →
        ∃ t, exec .watchAfterExpiry s = .next t ∧ t.mon.ref = .clear ∧ t.mon.watchAfter = .stopped ∧
          (∀ c, (t.mon.wheels.get c).creep = 0 ∧ (t.mon.wheels.get c).reached = false) ∧ t.table = s.table ∧
          t.link = s.link ∧ t.chans = s.chans ∧ t.ctl = s.ctl ∧ s.keepsRest t

/-- The driver (R135, R136): a driver line that has read a new level for 50 ms takes it; SEAT OCCUPIED makes the driver
PRESENT, which clears the autopark inhibit, and stops the seat timer; SEAT EMPTY with the door open, the door opening over
an empty seat, and 1500 ms on an empty seat make the driver ABSENT; SEAT EMPTY with the door shut starts the seat
timer. -/
def Obligations.DriverPresenceFollows : Prop :=
  ∀ (s : State) (n : Nat), s.powered = true →
    (s.lines.seat.debounce = .running n → Config.ms 50 ≤ n →
        ∃ t, exec (.driverLineDebounced .seat) s = .next t ∧
          t.lines = { s.lines with seat := ⟨s.lines.seat.raw, s.lines.seat.raw, .stopped⟩ } ∧ t.ctl = s.ctl ∧
          t.store = s.store ∧ t.meas = s.meas ∧
          (s.lines.seat.raw = true → t.mon.driverPresent = true ∧ t.table = s.table ∧
            (s.mon.driverPresent = true → t.mon.seatTimer = .stopped ∧ t.mon.inhibit = s.mon.inhibit) ∧
            (s.mon.driverPresent = false → t.mon.inhibit = false)) ∧
          (s.lines.seat.raw = false → s.mon.driverPresent = true →
            (s.lines.door.level = true → t.mon.driverPresent = false ∧ t.mon.seatTimer = .stopped) ∧
              (s.lines.door.level = false →
                t.mon.driverPresent = true ∧ t.mon.seatTimer = .running 0 ∧ t.table = s.table)) ∧
          (s.lines.seat.raw = false → s.mon.driverPresent = false →
            t.mon.driverPresent = false ∧ t.mon.seatTimer = s.mon.seatTimer ∧ t.table = s.table)) ∧
      (s.lines.door.debounce = .running n → Config.ms 50 ≤ n →
        ∃ t, exec (.driverLineDebounced .door) s = .next t ∧
          t.lines = { s.lines with door := ⟨s.lines.door.raw, s.lines.door.raw, .stopped⟩ } ∧ t.ctl = s.ctl ∧
          t.store = s.store ∧ t.meas = s.meas ∧
          (s.lines.door.raw = true → s.lines.seat.level = false → s.mon.driverPresent = true →
            t.mon.driverPresent = false ∧ t.mon.seatTimer = .stopped) ∧
          (s.lines.door.raw = false ∨ s.lines.seat.level = true ∨ s.mon.driverPresent = false →
            t.mon.driverPresent = s.mon.driverPresent ∧ t.mon.seatTimer = s.mon.seatTimer ∧ t.table = s.table)) ∧
      (s.mon.seatTimer = .running n → Config.ms 1500 ≤ n →
        ∃ t, exec .seatTimerExpiry s = .next t ∧ t.mon.driverPresent = false ∧ t.mon.seatTimer = .stopped ∧
          t.lines = s.lines ∧ t.ctl = s.ctl ∧ t.store = s.store ∧ t.meas = s.meas)

/-- Autopark: 2000 ms after standstill, and when the driver leaves later, by the seat timer, by the seat emptied beside an
open door or by the door opened over an empty seat, the part opens an AUTOPARK PARK hold if no PARK hold is live and, in
RUN, the driver is ABSENT and autopark is not inhibited, or the mode is DEGRADED; otherwise the holds stand. And no
autopark is left owed by any step, whatever the event: the entry into RUN or DEGRADED and the loss of the last PARK hold
open it as well (R138, R139). -/
def Obligations.AutoparkParks : Prop :=
  (∀ (i : Instr) (s : State), s.powered = true → s.holdsSound →
      ((i = .autoparkTimerExpiry ∧ ∃ n, s.mon.autopark = .running n ∧ Config.ms 2000 ≤ n) ∨
        (i = .seatTimerExpiry ∧ s.mon.autopark = .ranOut ∧ ∃ n, s.mon.seatTimer = .running n ∧ Config.ms 1500 ≤ n)) →
      ∃ t, exec i s = .next t ∧ t.mon.autopark = .ranOut ∧ s.keepsRest t ∧ t.ctl = s.ctl ∧ t.meas = s.meas ∧
        (s.parksWith (i = .seatTimerExpiry ∨ s.mon.driverPresent = false) → t.parkedFrom s) ∧
        (¬s.parksWith (i = .seatTimerExpiry ∨ s.mon.driverPresent = false) →
          t.table = s.table ∧ t.link = s.link ∧ t.chans = s.chans ∧ t.gate = s.gate)) ∧
    (∀ (line : DriverLine) (s : State) (n : Nat), s.powered = true → s.holdsSound → s.mon.autopark = .ranOut →
      s.mon.driverPresent = true → (s.lines.driver line).debounce = .running n → Config.ms 50 ≤ n →
      ((line = .seat ∧ s.lines.seat.raw = false ∧ s.lines.door.level = true) ∨
        (line = .door ∧ s.lines.door.raw = true ∧ s.lines.seat.level = false)) →
      ∃ t, exec (.driverLineDebounced line) s = .next t ∧ t.mon.driverPresent = false ∧ t.mon.autopark = .ranOut ∧
        t.ctl = s.ctl ∧ t.meas = s.meas ∧ (s.parksWith True → t.parkedFrom s) ∧
        (¬s.parksWith True → t.table = s.table ∧ t.link = s.link ∧ t.chans = s.chans ∧ t.gate = s.gate)) ∧
    ∀ s t : State, s.holdsSound → s.autoparkSettled → step s = .next t → t.autoparkSettled

/-- The pendant pair, debounced: PA and PB equal are LINE_FAULT, which raises SENSOR when it begins. A pair that comes to
ask opens a PENDANT FIRM hold; while the truck is MOVING the opening waits, through every command but a reset, a change of
the pair and the end of the moving timer; with twelve places taken it is told with FULL, once across a wait (DEDUCED, log
entry 28), and owed; and a PENDANT record that is not RELEASING makes it needless. The retirement of a record of an owner
other than MONITOR, by RELEASE HOLD or expiry, makes an owed opening, or lets it wait while the truck is MOVING, and after
every step an opening is owed only while there is no room and the line asks. A pair that stops asking gives up what waits,
and retires the PENDANT record where another hold is live, or hands the last hold to the gate: in RUN a drive-off at once where
the gate condition is met, and else an armed gate, which every other mode suspends; in SAFE the record stays (R26, R27, R107,
R113, R140, R141, R142). -/
def Obligations.PendantOpensAndReleases : Prop :=
  (∀ (s : State) (n : Nat), s.powered = true → s.holdsSound → s.lines.pairDebounce = .running n → Config.ms 50 ≤ n →
    ∃ t, exec .pendantPairDebounced s = .next t ∧ t.lines.pair = pairRead s.lines.pa s.lines.pb ∧
      (t.lines.pair = .lineFault → s.lines.pair ≠ .lineFault → t.link.pending.getLsbD 5 = true) ∧
      t.lines.pairDebounce = .stopped ∧ t.ctl = s.ctl ∧ t.meas = s.meas ∧ t.store = s.store ∧
      (s.lines.pair = .notAsking → t.lines.pair ≠ .notAsking →
        (¬s.noPendant → t.table = s.table ∧ t.chans = s.chans ∧ t.mon.pendantWant = .none) ∧
          (s.noPendant → s.mon.motion = .moving →
            t.table = s.table ∧ t.chans = s.chans ∧ t.mon.pendantWant = .untilStill false) ∧
          (s.noPendant → s.mon.motion ≠ .moving → 12 ≤ nonMonitorCount s.table.records →
            s.pendantTurnedAway t false ∧ t.chans = s.chans) ∧
          (s.noPendant → s.mon.motion ≠ .moving → nonMonitorCount s.table.records < 12 →
            t.pendantOpened s (s.table.records.filter fun r => r.state != .releasing))) ∧
      ((s.lines.pair = .notAsking ↔ t.lines.pair = .notAsking) →
        t.table = s.table ∧ t.chans = s.chans ∧ t.mon.pendantWant = s.mon.pendantWant) ∧
      (s.lines.pair ≠ .notAsking → t.lines.pair = .notAsking →
        t.mon.pendantWant = .none ∧ ((∀ r ∈ s.table.records, r.owner ≠ .pendant) → t.table = s.table) ∧
          ∀ r ∈ s.table.records, r.owner = .pendant →
            (s.ctl.mode = .safe ∨ r.state = .releasing → t.table = s.table) ∧
              (s.ctl.mode ≠ .safe → r.state ≠ .releasing → 1 < s.table.records.length →
                holdSet (s.table.records.filter fun x => x.handle != r.handle) <+: holdSet t.table.records ∧
                  t.freshForce) ∧
              (s.ctl.mode ≠ .safe → r.state ≠ .releasing → s.table.records = [r] →
                (s.ctl.mode = .run ∧ s.letsGo s.force s.meas.drive → s.drivenOff t) ∧
                  (¬(s.ctl.mode = .run ∧ s.letsGo s.force s.meas.drive) →
                    t.table = { s.table with records := [{ r with state := .releasing }] } ∧
                      ∃ suspended,
                        t.gate =
                            ⟨true, r.handle, some (Config.ms s.vehicle.releaseTimeout.toNat), false, suspended⟩ ∧
                          (suspended = true ↔ s.ctl.mode ≠ .run))))) ∧
    (∀ (i : Instr) (s t : State) (told : Bool), exec i s = .next t → s.mon.pendantWant = .untilStill told →
      s.ctl.mode ≠ .sleep → i ∉ [.reset, .powerOnReset, .pendantPairDebounced, .movingTimerExpiry] →
      t.mon.pendantWant = .untilStill told) ∧
    (∀ (i : Instr) (s : State) (r : Record), s.powered = true → s.ctl.mode ≠ .sleep → s.holdsSound →
      r ∈ s.table.records → r.owner ≠ .monitor → r.state ≠ .releasing → s.mon.pendantWant = .untilRoom →
      s.lines.pair ≠ .notAsking → s.noPendant →
      (i = .holdExpiry r.handle ∧ r.expiry = some 1 ∧ Config.ms 100 ≤ s.table.beat ∧ s.mon.driverPresent = true) ∨
        (∃ owner handle : Byte, i = .releaseHold owner handle ∧ handle.toNat = r.handle ∧ s.takes ∧ s.ctl.mode = .run ∧
          (1 ≤ owner.toNat ∧ owner.toNat ≤ 3) ∧ s.mayRelease owner r ∧ 1 < s.table.records.length) →
      ∃ t, exec i s = .next t ∧
        (s.mon.motion ≠ .moving → t.pendantOpened s (s.table.records.filter fun x => x.handle != r.handle)) ∧
        (s.mon.motion = .moving →
          t.mon.pendantWant = .untilStill true ∧ ∀ x ∈ t.table.records, x.owner ≠ .pendant)) ∧
    ∀ s t : State, s.holdsSound → s.pendantSettled → step s = .next t → t.pendantSettled

/-- The laws of the Standstill Monitor hold after every step of a part whose holds are sound: the reference is HOLDING just
while a hold is live, the watch-after runs just in WATCH, the counters stay within 40 and at 0 while the reference is CLEAR,
and the rollaway stage follows the ROLLAWAY record and TRACTION_LOST: none without the record, CAUGHT while it is ENGAGING,
SECURED or LOST once it is HELD. The record's passage to HELD, from ENGAGING or from a release begun while it was, sets every
counter to 0 and the stage SECURED; a release that fails later leaves both (R126, R128, R129, R131, R132, R133). -/
def Obligations.ReferenceKeepsItsLaw : Prop :=
  (∀ s t : State, s.holdsSound → s.referenceSound → step s = .next t → t.referenceSound) ∧
    (∀ (i : Instr) (s t : State), s.holdsSound → s.referenceSound → exec i s = .next t → s.mon.stage = .caught →
      (∃ r ∈ t.table.records, r.isRollaway = true ∧ r.state = .held) →
      (s.ctl.mode ≠ .sleep → t.mon.stage = .secured) ∧ t.countersAtZero) ∧
    ∀ s t : State, exec .releaseTimerExpiry s = .next t → s.mon.stage = .secured ∨ s.mon.stage = .lost →
      t.mon.stage = s.mon.stage ∧ t.mon.wheels = s.mon.wheels

/-- WARN shows its causes after every step: OFF in SLEEP; STEADY in SAFE, with TRACTION_LOST and with a failed clock; else
PULSE with a ROLLAWAY record, SHORT or the pulse train; else OFF. A PULSE is on for 250 ms of its 500 ms (R144). -/
def Obligations.WarnShowsItsCauses : Prop :=
  (∀ s t : State, s.warnSound → step s = .next t → t.warnSound) ∧
    ∀ s : State, s.powered = true →
      (s.mon.warn = .off → s.warnLine = false) ∧ (s.mon.warn = .steady → s.warnLine = true) ∧
        ∀ phase, s.mon.warn = .pulse phase → (s.warnLine = true ↔ phase < 500)

/-! ## The profile -/

/-- PROFILE WRITE outside DEGRADED and SAFE. Refused by the first check that fails, with nothing else changed: LOCKED,
FIELD, BUSY, RANGE (R198, R199). Otherwise DONE: the item of the working profile holds the value, nonvolatile memory and
the mode stand; a value equal to the one in force changes nothing else; and a changed one is handed on, with the gate
idle, to the Force Calculator, to the Distribution Unit, to the loads, or to the channel's record, which is rebuilt, as
the item asks (R58, R103, R200). That a load item makes no run of the Force Calculator, leaving F_req and A, that W follows it at
the next sample only, and that a rebuilt channel has W derived afresh is the model's reading of R40, R58 and R200: DEDUCED, log
entry 17. -/
def Obligations.ProfileWriteChecksAndWrites : Prop :=
  ∀ (s : State) (item channel : Byte) (value : Word16), s.takes → s.ctl.mode ≠ .degraded → s.ctl.mode ≠ .safe →
    (¬s.lockOpen →
        exec (.profileWrite item channel value) s = .next (s.withSlot (refusedAnswer 0x51 .locked))) ∧
      (s.lockOpen →
        (itemAt item channel = none ∨ itemAt item channel = some .commitCount →
            exec (.profileWrite item channel value) s = .next (s.withSlot (refusedAnswer 0x51 .field))) ∧
          ∀ i, itemAt item channel = some i → i ≠ .commitCount →
            (s.store.commit ≠ none →
                exec (.profileWrite item channel value) s = .next (s.withSlot (refusedAnswer 0x51 .busy))) ∧
              (s.store.commit = none →
                (i.inRange value = false ∨ (s.store.working.write i value).constraints = false →
                    exec (.profileWrite item channel value) s = .next (s.withSlot (refusedAnswer 0x51 .range))) ∧
                  (i.inRange value = true → (s.store.working.write i value).constraints = true →
                    ∃ (t : State) (hi lo : Byte), exec (.profileWrite item channel value) s = .next t ∧
                      hi ++ lo = value ∧ t.link.slot = doneAnswer 0x51 [item, channel, hi, lo] ∧
                      t.store = { s.store with working := s.store.working.write i value } ∧
                      t.store.working.read i = value ∧ (∀ j, j ≠ i → t.store.working.read j = s.store.working.read j) ∧
                      t.ctl = s.ctl ∧ t.lines = s.lines ∧
                      (s.gate.armed = false → holdSet t.table.records = holdSet s.table.records) ∧
                      (s.gate.armed = false → s.store.working.read i ≠ value → s.handedOn t i) ∧
                      (s.store.working.read i = value →
                        ∃ warn, t =
                          { s.withSlot (doneAnswer 0x51 [item, channel, hi, lo]) with
                            mon := { s.mon with warn := warn } }))))

/-- A commit (R198, R201, R202, R203). PROFILE COMMIT is refused LOCKED, BUSY or WORN in that order; otherwise PENDING,
with the working profile taken as its contents and the completion mark cleared. While it is in flight RESET and PROFILE
READ of the stored copy are refused BUSY. At 250 ms the image and its CRC are the contents', the count is one more, the
mark is set, PROFILE_INVALID is clear and PROFILE is raised. -/
def Obligations.CommitRunsItsCourse : Prop :=
  ∀ s : State,
    (s.takes → s.ctl.mode ≠ .degraded → s.ctl.mode ≠ .safe →
        (¬s.lockOpen → exec .profileCommit s = .next (s.withSlot (refusedAnswer 0x52 .locked))) ∧
          (s.lockOpen → s.store.commit ≠ none →
            exec .profileCommit s = .next (s.withSlot (refusedAnswer 0x52 .busy))) ∧
          (s.lockOpen → s.store.commit = none → 2000 ≤ s.store.count →
            exec .profileCommit s = .next (s.withSlot (refusedAnswer 0x52 .worn))) ∧
          (s.lockOpen → s.store.commit = none → s.store.count < 2000 →
            exec .profileCommit s =
              .next
                { s.withSlot ⟨0x52, .pending, .none, [0, 0, 0, 0, 0, 0, 0, 0]⟩ with
                  store := { s.store with commit := some ⟨0, s.store.working⟩, mark := false } })) ∧
      (s.takes → s.store.commit ≠ none →
        (s.ctl.mode = .run ∨ s.ctl.mode = .degraded →
            exec .reset s = .next (s.withSlot (refusedAnswer 0x13 .busy))) ∧
          ∀ item channel, (itemAt item channel).isSome = true →
            exec (.profileRead item channel 2) s = .next (s.withSlot (refusedAnswer 0x50 .busy))) ∧
      ∀ k, s.powered = true → s.store.commit = some k → Config.ms 250 ≤ k.ticks →
        ∃ t, exec .commitEnd s = .next t ∧
          t.store =
            { s.store with
              image := k.contents
              crc := k.contents.crc
              count := s.store.count + 1
              mark := true
              commit := none
              invalid := false } ∧
          t.link.pending.getLsbD 7 = true ∧ t.table = s.table ∧ t.chans = s.chans ∧ t.ctl = s.ctl

/-- The commit count never decreases, whatever the step, and never exceeds 2000, the commit in flight counted (R202). -/
def Obligations.CommitCountIsKept : Prop :=
  ∀ s t : State, s.store.sound → step s = .next t → t.store.sound ∧ s.store.count ≤ t.store.count
end

