-- ==== Sys2Proof/Laws/State.lean ====
section
/-! SUPPORT. The small lemmas of the state: what each setter leaves and what it sets, field by field, true by rfl; and the
reading of six like things. -/

namespace Sys2Proof

/-! ## Six like things -/

@[simp] theorem Six.get_ofFn {α : Type} (f : Chan → α) (c : Chan) : (Six.ofFn f).get c = f c := by
  fin_cases c <;> rfl

@[simp] theorem Six.get_const {α : Type} (x : α) (c : Chan) : (Six.const x).get c = x := by
  fin_cases c <;> rfl

@[simp] theorem Six.get_put_same {α : Type} (v : Six α) (c : Chan) (x : α) : (v.put c x).get c = x := by
  simp [Six.put]

theorem Six.get_put {α : Type} (v : Six α) (c d : Chan) (x : α) :
    (v.put c x).get d = if d = c then x else v.get d := by
  simp [Six.put]

@[simp] theorem Six.get_put_other {α : Type} (v : Six α) {c d : Chan} (x : α) (h : d ≠ c) :
    (v.put c x).get d = v.get d := by
  simp [Six.put, h]

/-- Six like things are given by their entries. -/
theorem Six.ext_get {α : Type} {v w : Six α} (h : ∀ c, v.get c = w.get c) : v = w := by
  cases v; cases w
  have h1 := h 0; have h2 := h 1; have h3 := h 2; have h4 := h 3; have h5 := h 4; have h6 := h 5
  simp only [Six.get] at h1 h2 h3 h4 h5 h6
  subst_vars; rfl

@[simp] theorem Six.ofFn_get {α : Type} (v : Six α) : Six.ofFn v.get = v := Six.ext_get fun c => by simp

/-- A statement about the six channels is six statements. -/
theorem forall_chan {P : Chan → Prop} : (∀ c, P c) ↔ ∀ c ∈ allChans, P c :=
  ⟨fun h c _ => h c, fun h c => h c (by fin_cases c <;> simp [allChans])⟩

end Sys2Proof

namespace Sys2Proof.Machine

variable (s : State)

/-! ## withLink -/

@[simp] theorem State.withLink_powered (x : Link) : (s.withLink x).powered = s.powered := rfl

@[simp] theorem State.withLink_now (x : Link) : (s.withLink x).now = s.now := rfl

@[simp] theorem State.withLink_link (x : Link) : (s.withLink x).link = x := rfl

@[simp] theorem State.withLink_table (x : Link) : (s.withLink x).table = s.table := rfl

@[simp] theorem State.withLink_meas (x : Link) : (s.withLink x).meas = s.meas := rfl

@[simp] theorem State.withLink_force (x : Link) : (s.withLink x).force = s.force := rfl

@[simp] theorem State.withLink_dist (x : Link) : (s.withLink x).dist = s.dist := rfl

@[simp] theorem State.withLink_chans (x : Link) : (s.withLink x).chans = s.chans := rfl

@[simp] theorem State.withLink_gate (x : Link) : (s.withLink x).gate = s.gate := rfl

@[simp] theorem State.withLink_mon (x : Link) : (s.withLink x).mon = s.mon := rfl

@[simp] theorem State.withLink_lines (x : Link) : (s.withLink x).lines = s.lines := rfl

@[simp] theorem State.withLink_ctl (x : Link) : (s.withLink x).ctl = s.ctl := rfl

@[simp] theorem State.withLink_store (x : Link) : (s.withLink x).store = s.store := rfl

@[simp] theorem State.withLink_freeCount (x : Link) : (s.withLink x).freeCount = s.freeCount := rfl

@[simp] theorem State.withLink_pending (x : Link) : (s.withLink x).pending = s.pending := rfl

/-! ## withTable -/

@[simp] theorem State.withTable_powered (x : HoldTable) : (s.withTable x).powered = s.powered := rfl

@[simp] theorem State.withTable_now (x : HoldTable) : (s.withTable x).now = s.now := rfl

@[simp] theorem State.withTable_link (x : HoldTable) : (s.withTable x).link = s.link := rfl

@[simp] theorem State.withTable_table (x : HoldTable) : (s.withTable x).table = x := rfl

@[simp] theorem State.withTable_meas (x : HoldTable) : (s.withTable x).meas = s.meas := rfl

@[simp] theorem State.withTable_force (x : HoldTable) : (s.withTable x).force = s.force := rfl

@[simp] theorem State.withTable_dist (x : HoldTable) : (s.withTable x).dist = s.dist := rfl

@[simp] theorem State.withTable_chans (x : HoldTable) : (s.withTable x).chans = s.chans := rfl

@[simp] theorem State.withTable_gate (x : HoldTable) : (s.withTable x).gate = s.gate := rfl

@[simp] theorem State.withTable_mon (x : HoldTable) : (s.withTable x).mon = s.mon := rfl

@[simp] theorem State.withTable_lines (x : HoldTable) : (s.withTable x).lines = s.lines := rfl

@[simp] theorem State.withTable_ctl (x : HoldTable) : (s.withTable x).ctl = s.ctl := rfl

@[simp] theorem State.withTable_store (x : HoldTable) : (s.withTable x).store = s.store := rfl

@[simp] theorem State.withTable_freeCount (x : HoldTable) : (s.withTable x).freeCount = s.freeCount := rfl

@[simp] theorem State.withTable_pending (x : HoldTable) : (s.withTable x).pending = s.pending := rfl

/-! ## withMeas -/

@[simp] theorem State.withMeas_powered (x : Measure) : (s.withMeas x).powered = s.powered := rfl

@[simp] theorem State.withMeas_now (x : Measure) : (s.withMeas x).now = s.now := rfl

@[simp] theorem State.withMeas_link (x : Measure) : (s.withMeas x).link = s.link := rfl

@[simp] theorem State.withMeas_table (x : Measure) : (s.withMeas x).table = s.table := rfl

@[simp] theorem State.withMeas_meas (x : Measure) : (s.withMeas x).meas = x := rfl

@[simp] theorem State.withMeas_force (x : Measure) : (s.withMeas x).force = s.force := rfl

@[simp] theorem State.withMeas_dist (x : Measure) : (s.withMeas x).dist = s.dist := rfl

@[simp] theorem State.withMeas_chans (x : Measure) : (s.withMeas x).chans = s.chans := rfl

@[simp] theorem State.withMeas_gate (x : Measure) : (s.withMeas x).gate = s.gate := rfl

@[simp] theorem State.withMeas_mon (x : Measure) : (s.withMeas x).mon = s.mon := rfl

@[simp] theorem State.withMeas_lines (x : Measure) : (s.withMeas x).lines = s.lines := rfl

@[simp] theorem State.withMeas_ctl (x : Measure) : (s.withMeas x).ctl = s.ctl := rfl

@[simp] theorem State.withMeas_store (x : Measure) : (s.withMeas x).store = s.store := rfl

@[simp] theorem State.withMeas_freeCount (x : Measure) : (s.withMeas x).freeCount = s.freeCount := rfl

@[simp] theorem State.withMeas_pending (x : Measure) : (s.withMeas x).pending = s.pending := rfl

/-! ## withForce -/

@[simp] theorem State.withForce_powered (x : Force) : (s.withForce x).powered = s.powered := rfl

@[simp] theorem State.withForce_now (x : Force) : (s.withForce x).now = s.now := rfl

@[simp] theorem State.withForce_link (x : Force) : (s.withForce x).link = s.link := rfl

@[simp] theorem State.withForce_table (x : Force) : (s.withForce x).table = s.table := rfl

@[simp] theorem State.withForce_meas (x : Force) : (s.withForce x).meas = s.meas := rfl

@[simp] theorem State.withForce_force (x : Force) : (s.withForce x).force = x := rfl

@[simp] theorem State.withForce_dist (x : Force) : (s.withForce x).dist = s.dist := rfl

@[simp] theorem State.withForce_chans (x : Force) : (s.withForce x).chans = s.chans := rfl

@[simp] theorem State.withForce_gate (x : Force) : (s.withForce x).gate = s.gate := rfl

@[simp] theorem State.withForce_mon (x : Force) : (s.withForce x).mon = s.mon := rfl

@[simp] theorem State.withForce_lines (x : Force) : (s.withForce x).lines = s.lines := rfl

@[simp] theorem State.withForce_ctl (x : Force) : (s.withForce x).ctl = s.ctl := rfl

@[simp] theorem State.withForce_store (x : Force) : (s.withForce x).store = s.store := rfl

@[simp] theorem State.withForce_freeCount (x : Force) : (s.withForce x).freeCount = s.freeCount := rfl

@[simp] theorem State.withForce_pending (x : Force) : (s.withForce x).pending = s.pending := rfl

/-! ## withDist -/

@[simp] theorem State.withDist_powered (x : Distribution) : (s.withDist x).powered = s.powered := rfl

@[simp] theorem State.withDist_now (x : Distribution) : (s.withDist x).now = s.now := rfl

@[simp] theorem State.withDist_link (x : Distribution) : (s.withDist x).link = s.link := rfl

@[simp] theorem State.withDist_table (x : Distribution) : (s.withDist x).table = s.table := rfl

@[simp] theorem State.withDist_meas (x : Distribution) : (s.withDist x).meas = s.meas := rfl

@[simp] theorem State.withDist_force (x : Distribution) : (s.withDist x).force = s.force := rfl

@[simp] theorem State.withDist_dist (x : Distribution) : (s.withDist x).dist = x := rfl

@[simp] theorem State.withDist_chans (x : Distribution) : (s.withDist x).chans = s.chans := rfl

@[simp] theorem State.withDist_gate (x : Distribution) : (s.withDist x).gate = s.gate := rfl

@[simp] theorem State.withDist_mon (x : Distribution) : (s.withDist x).mon = s.mon := rfl

@[simp] theorem State.withDist_lines (x : Distribution) : (s.withDist x).lines = s.lines := rfl

@[simp] theorem State.withDist_ctl (x : Distribution) : (s.withDist x).ctl = s.ctl := rfl

@[simp] theorem State.withDist_store (x : Distribution) : (s.withDist x).store = s.store := rfl

@[simp] theorem State.withDist_freeCount (x : Distribution) : (s.withDist x).freeCount = s.freeCount := rfl

@[simp] theorem State.withDist_pending (x : Distribution) : (s.withDist x).pending = s.pending := rfl

/-! ## withChans -/

@[simp] theorem State.withChans_powered (x : Six Channel) : (s.withChans x).powered = s.powered := rfl

@[simp] theorem State.withChans_now (x : Six Channel) : (s.withChans x).now = s.now := rfl

@[simp] theorem State.withChans_link (x : Six Channel) : (s.withChans x).link = s.link := rfl

@[simp] theorem State.withChans_table (x : Six Channel) : (s.withChans x).table = s.table := rfl

@[simp] theorem State.withChans_meas (x : Six Channel) : (s.withChans x).meas = s.meas := rfl

@[simp] theorem State.withChans_force (x : Six Channel) : (s.withChans x).force = s.force := rfl

@[simp] theorem State.withChans_dist (x : Six Channel) : (s.withChans x).dist = s.dist := rfl

@[simp] theorem State.withChans_chans (x : Six Channel) : (s.withChans x).chans = x := rfl

@[simp] theorem State.withChans_gate (x : Six Channel) : (s.withChans x).gate = s.gate := rfl

@[simp] theorem State.withChans_mon (x : Six Channel) : (s.withChans x).mon = s.mon := rfl

@[simp] theorem State.withChans_lines (x : Six Channel) : (s.withChans x).lines = s.lines := rfl

@[simp] theorem State.withChans_ctl (x : Six Channel) : (s.withChans x).ctl = s.ctl := rfl

@[simp] theorem State.withChans_store (x : Six Channel) : (s.withChans x).store = s.store := rfl

@[simp] theorem State.withChans_freeCount (x : Six Channel) : (s.withChans x).freeCount = s.freeCount := rfl

@[simp] theorem State.withChans_pending (x : Six Channel) : (s.withChans x).pending = s.pending := rfl

/-! ## withGate -/

@[simp] theorem State.withGate_powered (x : Gate) : (s.withGate x).powered = s.powered := rfl

@[simp] theorem State.withGate_now (x : Gate) : (s.withGate x).now = s.now := rfl

@[simp] theorem State.withGate_link (x : Gate) : (s.withGate x).link = s.link := rfl

@[simp] theorem State.withGate_table (x : Gate) : (s.withGate x).table = s.table := rfl

@[simp] theorem State.withGate_meas (x : Gate) : (s.withGate x).meas = s.meas := rfl

@[simp] theorem State.withGate_force (x : Gate) : (s.withGate x).force = s.force := rfl

@[simp] theorem State.withGate_dist (x : Gate) : (s.withGate x).dist = s.dist := rfl

@[simp] theorem State.withGate_chans (x : Gate) : (s.withGate x).chans = s.chans := rfl

@[simp] theorem State.withGate_gate (x : Gate) : (s.withGate x).gate = x := rfl

@[simp] theorem State.withGate_mon (x : Gate) : (s.withGate x).mon = s.mon := rfl

@[simp] theorem State.withGate_lines (x : Gate) : (s.withGate x).lines = s.lines := rfl

@[simp] theorem State.withGate_ctl (x : Gate) : (s.withGate x).ctl = s.ctl := rfl

@[simp] theorem State.withGate_store (x : Gate) : (s.withGate x).store = s.store := rfl

@[simp] theorem State.withGate_freeCount (x : Gate) : (s.withGate x).freeCount = s.freeCount := rfl

@[simp] theorem State.withGate_pending (x : Gate) : (s.withGate x).pending = s.pending := rfl

/-! ## withMon -/

@[simp] theorem State.withMon_powered (x : Monitor) : (s.withMon x).powered = s.powered := rfl

@[simp] theorem State.withMon_now (x : Monitor) : (s.withMon x).now = s.now := rfl

@[simp] theorem State.withMon_link (x : Monitor) : (s.withMon x).link = s.link := rfl

@[simp] theorem State.withMon_table (x : Monitor) : (s.withMon x).table = s.table := rfl

@[simp] theorem State.withMon_meas (x : Monitor) : (s.withMon x).meas = s.meas := rfl

@[simp] theorem State.withMon_force (x : Monitor) : (s.withMon x).force = s.force := rfl

@[simp] theorem State.withMon_dist (x : Monitor) : (s.withMon x).dist = s.dist := rfl

@[simp] theorem State.withMon_chans (x : Monitor) : (s.withMon x).chans = s.chans := rfl

@[simp] theorem State.withMon_gate (x : Monitor) : (s.withMon x).gate = s.gate := rfl

@[simp] theorem State.withMon_mon (x : Monitor) : (s.withMon x).mon = x := rfl

@[simp] theorem State.withMon_lines (x : Monitor) : (s.withMon x).lines = s.lines := rfl

@[simp] theorem State.withMon_ctl (x : Monitor) : (s.withMon x).ctl = s.ctl := rfl

@[simp] theorem State.withMon_store (x : Monitor) : (s.withMon x).store = s.store := rfl

@[simp] theorem State.withMon_freeCount (x : Monitor) : (s.withMon x).freeCount = s.freeCount := rfl

@[simp] theorem State.withMon_pending (x : Monitor) : (s.withMon x).pending = s.pending := rfl

/-! ## withLines -/

@[simp] theorem State.withLines_powered (x : Lines) : (s.withLines x).powered = s.powered := rfl

@[simp] theorem State.withLines_now (x : Lines) : (s.withLines x).now = s.now := rfl

@[simp] theorem State.withLines_link (x : Lines) : (s.withLines x).link = s.link := rfl

@[simp] theorem State.withLines_table (x : Lines) : (s.withLines x).table = s.table := rfl

@[simp] theorem State.withLines_meas (x : Lines) : (s.withLines x).meas = s.meas := rfl

@[simp] theorem State.withLines_force (x : Lines) : (s.withLines x).force = s.force := rfl

@[simp] theorem State.withLines_dist (x : Lines) : (s.withLines x).dist = s.dist := rfl

@[simp] theorem State.withLines_chans (x : Lines) : (s.withLines x).chans = s.chans := rfl

@[simp] theorem State.withLines_gate (x : Lines) : (s.withLines x).gate = s.gate := rfl

@[simp] theorem State.withLines_mon (x : Lines) : (s.withLines x).mon = s.mon := rfl

@[simp] theorem State.withLines_lines (x : Lines) : (s.withLines x).lines = x := rfl

@[simp] theorem State.withLines_ctl (x : Lines) : (s.withLines x).ctl = s.ctl := rfl

@[simp] theorem State.withLines_store (x : Lines) : (s.withLines x).store = s.store := rfl

@[simp] theorem State.withLines_freeCount (x : Lines) : (s.withLines x).freeCount = s.freeCount := rfl

@[simp] theorem State.withLines_pending (x : Lines) : (s.withLines x).pending = s.pending := rfl

/-! ## withCtl -/

@[simp] theorem State.withCtl_powered (x : Control) : (s.withCtl x).powered = s.powered := rfl

@[simp] theorem State.withCtl_now (x : Control) : (s.withCtl x).now = s.now := rfl

@[simp] theorem State.withCtl_link (x : Control) : (s.withCtl x).link = s.link := rfl

@[simp] theorem State.withCtl_table (x : Control) : (s.withCtl x).table = s.table := rfl

@[simp] theorem State.withCtl_meas (x : Control) : (s.withCtl x).meas = s.meas := rfl

@[simp] theorem State.withCtl_force (x : Control) : (s.withCtl x).force = s.force := rfl

@[simp] theorem State.withCtl_dist (x : Control) : (s.withCtl x).dist = s.dist := rfl

@[simp] theorem State.withCtl_chans (x : Control) : (s.withCtl x).chans = s.chans := rfl

@[simp] theorem State.withCtl_gate (x : Control) : (s.withCtl x).gate = s.gate := rfl

@[simp] theorem State.withCtl_mon (x : Control) : (s.withCtl x).mon = s.mon := rfl

@[simp] theorem State.withCtl_lines (x : Control) : (s.withCtl x).lines = s.lines := rfl

@[simp] theorem State.withCtl_ctl (x : Control) : (s.withCtl x).ctl = x := rfl

@[simp] theorem State.withCtl_store (x : Control) : (s.withCtl x).store = s.store := rfl

@[simp] theorem State.withCtl_freeCount (x : Control) : (s.withCtl x).freeCount = s.freeCount := rfl

@[simp] theorem State.withCtl_pending (x : Control) : (s.withCtl x).pending = s.pending := rfl

/-! ## withStore -/

@[simp] theorem State.withStore_powered (x : Store) : (s.withStore x).powered = s.powered := rfl

@[simp] theorem State.withStore_now (x : Store) : (s.withStore x).now = s.now := rfl

@[simp] theorem State.withStore_link (x : Store) : (s.withStore x).link = s.link := rfl

@[simp] theorem State.withStore_table (x : Store) : (s.withStore x).table = s.table := rfl

@[simp] theorem State.withStore_meas (x : Store) : (s.withStore x).meas = s.meas := rfl

@[simp] theorem State.withStore_force (x : Store) : (s.withStore x).force = s.force := rfl

@[simp] theorem State.withStore_dist (x : Store) : (s.withStore x).dist = s.dist := rfl

@[simp] theorem State.withStore_chans (x : Store) : (s.withStore x).chans = s.chans := rfl

@[simp] theorem State.withStore_gate (x : Store) : (s.withStore x).gate = s.gate := rfl

@[simp] theorem State.withStore_mon (x : Store) : (s.withStore x).mon = s.mon := rfl

@[simp] theorem State.withStore_lines (x : Store) : (s.withStore x).lines = s.lines := rfl

@[simp] theorem State.withStore_ctl (x : Store) : (s.withStore x).ctl = s.ctl := rfl

@[simp] theorem State.withStore_store (x : Store) : (s.withStore x).store = x := rfl

@[simp] theorem State.withStore_freeCount (x : Store) : (s.withStore x).freeCount = s.freeCount := rfl

@[simp] theorem State.withStore_pending (x : Store) : (s.withStore x).pending = s.pending := rfl

/-! ## withPending -/

@[simp] theorem State.withPending_powered (x : List Instr) : (s.withPending x).powered = s.powered := rfl

@[simp] theorem State.withPending_now (x : List Instr) : (s.withPending x).now = s.now := rfl

@[simp] theorem State.withPending_link (x : List Instr) : (s.withPending x).link = s.link := rfl

@[simp] theorem State.withPending_table (x : List Instr) : (s.withPending x).table = s.table := rfl

@[simp] theorem State.withPending_meas (x : List Instr) : (s.withPending x).meas = s.meas := rfl

@[simp] theorem State.withPending_force (x : List Instr) : (s.withPending x).force = s.force := rfl

@[simp] theorem State.withPending_dist (x : List Instr) : (s.withPending x).dist = s.dist := rfl

@[simp] theorem State.withPending_chans (x : List Instr) : (s.withPending x).chans = s.chans := rfl

@[simp] theorem State.withPending_gate (x : List Instr) : (s.withPending x).gate = s.gate := rfl

@[simp] theorem State.withPending_mon (x : List Instr) : (s.withPending x).mon = s.mon := rfl

@[simp] theorem State.withPending_lines (x : List Instr) : (s.withPending x).lines = s.lines := rfl

@[simp] theorem State.withPending_ctl (x : List Instr) : (s.withPending x).ctl = s.ctl := rfl

@[simp] theorem State.withPending_store (x : List Instr) : (s.withPending x).store = s.store := rfl

@[simp] theorem State.withPending_freeCount (x : List Instr) : (s.withPending x).freeCount = s.freeCount := rfl

@[simp] theorem State.withPending_pending (x : List Instr) : (s.withPending x).pending = x := rfl

/-! ## withChan, withSlot -/

@[simp] theorem State.withChan_powered (c : Chan) (x : Channel) : (s.withChan c x).powered = s.powered := rfl

@[simp] theorem State.withChan_now (c : Chan) (x : Channel) : (s.withChan c x).now = s.now := rfl

@[simp] theorem State.withChan_link (c : Chan) (x : Channel) : (s.withChan c x).link = s.link := rfl

@[simp] theorem State.withChan_table (c : Chan) (x : Channel) : (s.withChan c x).table = s.table := rfl

@[simp] theorem State.withChan_meas (c : Chan) (x : Channel) : (s.withChan c x).meas = s.meas := rfl

@[simp] theorem State.withChan_force (c : Chan) (x : Channel) : (s.withChan c x).force = s.force := rfl

@[simp] theorem State.withChan_dist (c : Chan) (x : Channel) : (s.withChan c x).dist = s.dist := rfl

@[simp] theorem State.withChan_chans (c : Chan) (x : Channel) : (s.withChan c x).chans = s.chans.put c x := rfl

@[simp] theorem State.withChan_gate (c : Chan) (x : Channel) : (s.withChan c x).gate = s.gate := rfl

@[simp] theorem State.withChan_mon (c : Chan) (x : Channel) : (s.withChan c x).mon = s.mon := rfl

@[simp] theorem State.withChan_lines (c : Chan) (x : Channel) : (s.withChan c x).lines = s.lines := rfl

@[simp] theorem State.withChan_ctl (c : Chan) (x : Channel) : (s.withChan c x).ctl = s.ctl := rfl

@[simp] theorem State.withChan_store (c : Chan) (x : Channel) : (s.withChan c x).store = s.store := rfl

@[simp] theorem State.withChan_freeCount (c : Chan) (x : Channel) : (s.withChan c x).freeCount = s.freeCount := rfl

@[simp] theorem State.withChan_pending (c : Chan) (x : Channel) : (s.withChan c x).pending = s.pending := rfl

/-! ## Writing back what is there -/

@[simp] theorem State.withLink_self : s.withLink s.link = s := rfl

@[simp] theorem State.withLink_withLink (x y : Link) : (s.withLink x).withLink y = s.withLink y := rfl

@[simp] theorem State.withTable_self : s.withTable s.table = s := rfl

@[simp] theorem State.withTable_withTable (x y : HoldTable) : (s.withTable x).withTable y = s.withTable y := rfl

@[simp] theorem State.withMeas_self : s.withMeas s.meas = s := rfl

@[simp] theorem State.withMeas_withMeas (x y : Measure) : (s.withMeas x).withMeas y = s.withMeas y := rfl

@[simp] theorem State.withForce_self : s.withForce s.force = s := rfl

@[simp] theorem State.withForce_withForce (x y : Force) : (s.withForce x).withForce y = s.withForce y := rfl

@[simp] theorem State.withDist_self : s.withDist s.dist = s := rfl

@[simp] theorem State.withDist_withDist (x y : Distribution) : (s.withDist x).withDist y = s.withDist y := rfl

@[simp] theorem State.withChans_self : s.withChans s.chans = s := rfl

@[simp] theorem State.withChans_withChans (x y : Six Channel) : (s.withChans x).withChans y = s.withChans y := rfl

@[simp] theorem State.withGate_self : s.withGate s.gate = s := rfl

@[simp] theorem State.withGate_withGate (x y : Gate) : (s.withGate x).withGate y = s.withGate y := rfl

@[simp] theorem State.withMon_self : s.withMon s.mon = s := rfl

@[simp] theorem State.withMon_withMon (x y : Monitor) : (s.withMon x).withMon y = s.withMon y := rfl

@[simp] theorem State.withLines_self : s.withLines s.lines = s := rfl

@[simp] theorem State.withLines_withLines (x y : Lines) : (s.withLines x).withLines y = s.withLines y := rfl

@[simp] theorem State.withCtl_self : s.withCtl s.ctl = s := rfl

@[simp] theorem State.withCtl_withCtl (x y : Control) : (s.withCtl x).withCtl y = s.withCtl y := rfl

@[simp] theorem State.withStore_self : s.withStore s.store = s := rfl

@[simp] theorem State.withStore_withStore (x y : Store) : (s.withStore x).withStore y = s.withStore y := rfl

@[simp] theorem State.withPending_self : s.withPending s.pending = s := rfl

@[simp] theorem State.withPending_withPending (x y : List Instr) : (s.withPending x).withPending y = s.withPending y := rfl

end Sys2Proof.Machine
end

