-- ==== Sys2Proof/Laws/Frames.lean ====
section
/-! SUPPORT. The frames of the shared operations: for each, the blocks of the state it never changes. One lemma a block,
tagged simp, so that a statement about a command's frame is proved without unfolding the operations it calls. -/

namespace Sys2Proof.Machine

variable (s : State)

/-! ## place -/

@[simp] theorem State.place_powered (a : Answer) : (s.place a).powered = s.powered := by
  unfold State.place
  try dsimp only
  all_goals simp

@[simp] theorem State.place_now (a : Answer) : (s.place a).now = s.now := by
  unfold State.place
  try dsimp only
  all_goals simp

@[simp] theorem State.place_table (a : Answer) : (s.place a).table = s.table := by
  unfold State.place
  try dsimp only
  all_goals simp

@[simp] theorem State.place_meas (a : Answer) : (s.place a).meas = s.meas := by
  unfold State.place
  try dsimp only
  all_goals simp

@[simp] theorem State.place_force (a : Answer) : (s.place a).force = s.force := by
  unfold State.place
  try dsimp only
  all_goals simp

@[simp] theorem State.place_dist (a : Answer) : (s.place a).dist = s.dist := by
  unfold State.place
  try dsimp only
  all_goals simp

@[simp] theorem State.place_chans (a : Answer) : (s.place a).chans = s.chans := by
  unfold State.place
  try dsimp only
  all_goals simp

@[simp] theorem State.place_gate (a : Answer) : (s.place a).gate = s.gate := by
  unfold State.place
  try dsimp only
  all_goals simp

@[simp] theorem State.place_mon (a : Answer) : (s.place a).mon = s.mon := by
  unfold State.place
  try dsimp only
  all_goals simp

@[simp] theorem State.place_lines (a : Answer) : (s.place a).lines = s.lines := by
  unfold State.place
  try dsimp only
  all_goals simp

@[simp] theorem State.place_ctl (a : Answer) : (s.place a).ctl = s.ctl := by
  unfold State.place
  try dsimp only
  all_goals simp

@[simp] theorem State.place_store (a : Answer) : (s.place a).store = s.store := by
  unfold State.place
  try dsimp only
  all_goals simp

@[simp] theorem State.place_freeCount (a : Answer) : (s.place a).freeCount = s.freeCount := by
  unfold State.place
  try dsimp only
  all_goals simp

@[simp] theorem State.place_pending (a : Answer) : (s.place a).pending = s.pending := by
  unfold State.place
  try dsimp only
  all_goals simp

/-! ## done -/

@[simp] theorem State.done_powered (code : Byte) (bytes : List Byte) : (s.done code bytes).powered = s.powered := by
  unfold State.done
  try dsimp only
  all_goals simp

@[simp] theorem State.done_now (code : Byte) (bytes : List Byte) : (s.done code bytes).now = s.now := by
  unfold State.done
  try dsimp only
  all_goals simp

@[simp] theorem State.done_table (code : Byte) (bytes : List Byte) : (s.done code bytes).table = s.table := by
  unfold State.done
  try dsimp only
  all_goals simp

@[simp] theorem State.done_meas (code : Byte) (bytes : List Byte) : (s.done code bytes).meas = s.meas := by
  unfold State.done
  try dsimp only
  all_goals simp

@[simp] theorem State.done_force (code : Byte) (bytes : List Byte) : (s.done code bytes).force = s.force := by
  unfold State.done
  try dsimp only
  all_goals simp

@[simp] theorem State.done_dist (code : Byte) (bytes : List Byte) : (s.done code bytes).dist = s.dist := by
  unfold State.done
  try dsimp only
  all_goals simp

@[simp] theorem State.done_chans (code : Byte) (bytes : List Byte) : (s.done code bytes).chans = s.chans := by
  unfold State.done
  try dsimp only
  all_goals simp

@[simp] theorem State.done_gate (code : Byte) (bytes : List Byte) : (s.done code bytes).gate = s.gate := by
  unfold State.done
  try dsimp only
  all_goals simp

@[simp] theorem State.done_mon (code : Byte) (bytes : List Byte) : (s.done code bytes).mon = s.mon := by
  unfold State.done
  try dsimp only
  all_goals simp

@[simp] theorem State.done_lines (code : Byte) (bytes : List Byte) : (s.done code bytes).lines = s.lines := by
  unfold State.done
  try dsimp only
  all_goals simp

@[simp] theorem State.done_ctl (code : Byte) (bytes : List Byte) : (s.done code bytes).ctl = s.ctl := by
  unfold State.done
  try dsimp only
  all_goals simp

@[simp] theorem State.done_store (code : Byte) (bytes : List Byte) : (s.done code bytes).store = s.store := by
  unfold State.done
  try dsimp only
  all_goals simp

@[simp] theorem State.done_freeCount (code : Byte) (bytes : List Byte) : (s.done code bytes).freeCount = s.freeCount := by
  unfold State.done
  try dsimp only
  all_goals simp

@[simp] theorem State.done_pending (code : Byte) (bytes : List Byte) : (s.done code bytes).pending = s.pending := by
  unfold State.done
  try dsimp only
  all_goals simp

/-! ## answerPending -/

@[simp] theorem State.answerPending_powered (code : Byte) (bytes : List Byte) : (s.answerPending code bytes).powered = s.powered := by
  unfold State.answerPending
  try dsimp only
  all_goals simp

@[simp] theorem State.answerPending_now (code : Byte) (bytes : List Byte) : (s.answerPending code bytes).now = s.now := by
  unfold State.answerPending
  try dsimp only
  all_goals simp

@[simp] theorem State.answerPending_table (code : Byte) (bytes : List Byte) : (s.answerPending code bytes).table = s.table := by
  unfold State.answerPending
  try dsimp only
  all_goals simp

@[simp] theorem State.answerPending_meas (code : Byte) (bytes : List Byte) : (s.answerPending code bytes).meas = s.meas := by
  unfold State.answerPending
  try dsimp only
  all_goals simp

@[simp] theorem State.answerPending_force (code : Byte) (bytes : List Byte) : (s.answerPending code bytes).force = s.force := by
  unfold State.answerPending
  try dsimp only
  all_goals simp

@[simp] theorem State.answerPending_dist (code : Byte) (bytes : List Byte) : (s.answerPending code bytes).dist = s.dist := by
  unfold State.answerPending
  try dsimp only
  all_goals simp

@[simp] theorem State.answerPending_chans (code : Byte) (bytes : List Byte) : (s.answerPending code bytes).chans = s.chans := by
  unfold State.answerPending
  try dsimp only
  all_goals simp

@[simp] theorem State.answerPending_gate (code : Byte) (bytes : List Byte) : (s.answerPending code bytes).gate = s.gate := by
  unfold State.answerPending
  try dsimp only
  all_goals simp

@[simp] theorem State.answerPending_mon (code : Byte) (bytes : List Byte) : (s.answerPending code bytes).mon = s.mon := by
  unfold State.answerPending
  try dsimp only
  all_goals simp

@[simp] theorem State.answerPending_lines (code : Byte) (bytes : List Byte) : (s.answerPending code bytes).lines = s.lines := by
  unfold State.answerPending
  try dsimp only
  all_goals simp

@[simp] theorem State.answerPending_ctl (code : Byte) (bytes : List Byte) : (s.answerPending code bytes).ctl = s.ctl := by
  unfold State.answerPending
  try dsimp only
  all_goals simp

@[simp] theorem State.answerPending_store (code : Byte) (bytes : List Byte) : (s.answerPending code bytes).store = s.store := by
  unfold State.answerPending
  try dsimp only
  all_goals simp

@[simp] theorem State.answerPending_freeCount (code : Byte) (bytes : List Byte) : (s.answerPending code bytes).freeCount = s.freeCount := by
  unfold State.answerPending
  try dsimp only
  all_goals simp

@[simp] theorem State.answerPending_pending (code : Byte) (bytes : List Byte) : (s.answerPending code bytes).pending = s.pending := by
  unfold State.answerPending
  try dsimp only
  all_goals simp

/-! ## refuse -/

@[simp] theorem State.refuse_powered (code : Byte) (reason : Reason) : (s.refuse code reason).powered = s.powered := by
  unfold State.refuse
  try dsimp only
  all_goals simp

@[simp] theorem State.refuse_now (code : Byte) (reason : Reason) : (s.refuse code reason).now = s.now := by
  unfold State.refuse
  try dsimp only
  all_goals simp

@[simp] theorem State.refuse_table (code : Byte) (reason : Reason) : (s.refuse code reason).table = s.table := by
  unfold State.refuse
  try dsimp only
  all_goals simp

@[simp] theorem State.refuse_meas (code : Byte) (reason : Reason) : (s.refuse code reason).meas = s.meas := by
  unfold State.refuse
  try dsimp only
  all_goals simp

@[simp] theorem State.refuse_force (code : Byte) (reason : Reason) : (s.refuse code reason).force = s.force := by
  unfold State.refuse
  try dsimp only
  all_goals simp

@[simp] theorem State.refuse_dist (code : Byte) (reason : Reason) : (s.refuse code reason).dist = s.dist := by
  unfold State.refuse
  try dsimp only
  all_goals simp

@[simp] theorem State.refuse_chans (code : Byte) (reason : Reason) : (s.refuse code reason).chans = s.chans := by
  unfold State.refuse
  try dsimp only
  all_goals simp

@[simp] theorem State.refuse_gate (code : Byte) (reason : Reason) : (s.refuse code reason).gate = s.gate := by
  unfold State.refuse
  try dsimp only
  all_goals simp

@[simp] theorem State.refuse_mon (code : Byte) (reason : Reason) : (s.refuse code reason).mon = s.mon := by
  unfold State.refuse
  try dsimp only
  all_goals simp

@[simp] theorem State.refuse_lines (code : Byte) (reason : Reason) : (s.refuse code reason).lines = s.lines := by
  unfold State.refuse
  try dsimp only
  all_goals simp

@[simp] theorem State.refuse_ctl (code : Byte) (reason : Reason) : (s.refuse code reason).ctl = s.ctl := by
  unfold State.refuse
  try dsimp only
  all_goals simp

@[simp] theorem State.refuse_store (code : Byte) (reason : Reason) : (s.refuse code reason).store = s.store := by
  unfold State.refuse
  try dsimp only
  all_goals simp

@[simp] theorem State.refuse_freeCount (code : Byte) (reason : Reason) : (s.refuse code reason).freeCount = s.freeCount := by
  unfold State.refuse
  try dsimp only
  all_goals simp

@[simp] theorem State.refuse_pending (code : Byte) (reason : Reason) : (s.refuse code reason).pending = s.pending := by
  unfold State.refuse
  try dsimp only
  all_goals simp

/-! ## raise -/

@[simp] theorem State.raise_powered (src : Source) : (s.raise src).powered = s.powered := by
  unfold State.raise
  try dsimp only
  repeat' split
  all_goals simp

@[simp] theorem State.raise_now (src : Source) : (s.raise src).now = s.now := by
  unfold State.raise
  try dsimp only
  repeat' split
  all_goals simp

@[simp] theorem State.raise_table (src : Source) : (s.raise src).table = s.table := by
  unfold State.raise
  try dsimp only
  repeat' split
  all_goals simp

@[simp] theorem State.raise_meas (src : Source) : (s.raise src).meas = s.meas := by
  unfold State.raise
  try dsimp only
  repeat' split
  all_goals simp

@[simp] theorem State.raise_force (src : Source) : (s.raise src).force = s.force := by
  unfold State.raise
  try dsimp only
  repeat' split
  all_goals simp

@[simp] theorem State.raise_dist (src : Source) : (s.raise src).dist = s.dist := by
  unfold State.raise
  try dsimp only
  repeat' split
  all_goals simp

@[simp] theorem State.raise_chans (src : Source) : (s.raise src).chans = s.chans := by
  unfold State.raise
  try dsimp only
  repeat' split
  all_goals simp

@[simp] theorem State.raise_gate (src : Source) : (s.raise src).gate = s.gate := by
  unfold State.raise
  try dsimp only
  repeat' split
  all_goals simp

@[simp] theorem State.raise_mon (src : Source) : (s.raise src).mon = s.mon := by
  unfold State.raise
  try dsimp only
  repeat' split
  all_goals simp

@[simp] theorem State.raise_lines (src : Source) : (s.raise src).lines = s.lines := by
  unfold State.raise
  try dsimp only
  repeat' split
  all_goals simp

@[simp] theorem State.raise_ctl (src : Source) : (s.raise src).ctl = s.ctl := by
  unfold State.raise
  try dsimp only
  repeat' split
  all_goals simp

@[simp] theorem State.raise_store (src : Source) : (s.raise src).store = s.store := by
  unfold State.raise
  try dsimp only
  repeat' split
  all_goals simp

@[simp] theorem State.raise_freeCount (src : Source) : (s.raise src).freeCount = s.freeCount := by
  unfold State.raise
  try dsimp only
  repeat' split
  all_goals simp

@[simp] theorem State.raise_pending (src : Source) : (s.raise src).pending = s.pending := by
  unfold State.raise
  try dsimp only
  repeat' split
  all_goals simp

/-! ## raiseHolds -/

@[simp] theorem State.raiseHolds_powered (h : Nat) (reason : Reason) : (s.raiseHolds h reason).powered = s.powered := by
  unfold State.raiseHolds
  try dsimp only
  all_goals simp

@[simp] theorem State.raiseHolds_now (h : Nat) (reason : Reason) : (s.raiseHolds h reason).now = s.now := by
  unfold State.raiseHolds
  try dsimp only
  all_goals simp

@[simp] theorem State.raiseHolds_table (h : Nat) (reason : Reason) : (s.raiseHolds h reason).table = s.table := by
  unfold State.raiseHolds
  try dsimp only
  all_goals simp

@[simp] theorem State.raiseHolds_meas (h : Nat) (reason : Reason) : (s.raiseHolds h reason).meas = s.meas := by
  unfold State.raiseHolds
  try dsimp only
  all_goals simp

@[simp] theorem State.raiseHolds_force (h : Nat) (reason : Reason) : (s.raiseHolds h reason).force = s.force := by
  unfold State.raiseHolds
  try dsimp only
  all_goals simp

@[simp] theorem State.raiseHolds_dist (h : Nat) (reason : Reason) : (s.raiseHolds h reason).dist = s.dist := by
  unfold State.raiseHolds
  try dsimp only
  all_goals simp

@[simp] theorem State.raiseHolds_chans (h : Nat) (reason : Reason) : (s.raiseHolds h reason).chans = s.chans := by
  unfold State.raiseHolds
  try dsimp only
  all_goals simp

@[simp] theorem State.raiseHolds_gate (h : Nat) (reason : Reason) : (s.raiseHolds h reason).gate = s.gate := by
  unfold State.raiseHolds
  try dsimp only
  all_goals simp

@[simp] theorem State.raiseHolds_mon (h : Nat) (reason : Reason) : (s.raiseHolds h reason).mon = s.mon := by
  unfold State.raiseHolds
  try dsimp only
  all_goals simp

@[simp] theorem State.raiseHolds_lines (h : Nat) (reason : Reason) : (s.raiseHolds h reason).lines = s.lines := by
  unfold State.raiseHolds
  try dsimp only
  all_goals simp

@[simp] theorem State.raiseHolds_ctl (h : Nat) (reason : Reason) : (s.raiseHolds h reason).ctl = s.ctl := by
  unfold State.raiseHolds
  try dsimp only
  all_goals simp

@[simp] theorem State.raiseHolds_store (h : Nat) (reason : Reason) : (s.raiseHolds h reason).store = s.store := by
  unfold State.raiseHolds
  try dsimp only
  all_goals simp

@[simp] theorem State.raiseHolds_freeCount (h : Nat) (reason : Reason) : (s.raiseHolds h reason).freeCount = s.freeCount := by
  unfold State.raiseHolds
  try dsimp only
  all_goals simp

@[simp] theorem State.raiseHolds_pending (h : Nat) (reason : Reason) : (s.raiseHolds h reason).pending = s.pending := by
  unfold State.raiseHolds
  try dsimp only
  all_goals simp

/-! ## raiseIf -/

@[simp] theorem State.raiseIf_powered (b : Bool) (src : Source) : (s.raiseIf b src).powered = s.powered := by
  unfold State.raiseIf
  try dsimp only
  repeat' split
  all_goals simp

@[simp] theorem State.raiseIf_now (b : Bool) (src : Source) : (s.raiseIf b src).now = s.now := by
  unfold State.raiseIf
  try dsimp only
  repeat' split
  all_goals simp

@[simp] theorem State.raiseIf_table (b : Bool) (src : Source) : (s.raiseIf b src).table = s.table := by
  unfold State.raiseIf
  try dsimp only
  repeat' split
  all_goals simp

@[simp] theorem State.raiseIf_meas (b : Bool) (src : Source) : (s.raiseIf b src).meas = s.meas := by
  unfold State.raiseIf
  try dsimp only
  repeat' split
  all_goals simp

@[simp] theorem State.raiseIf_force (b : Bool) (src : Source) : (s.raiseIf b src).force = s.force := by
  unfold State.raiseIf
  try dsimp only
  repeat' split
  all_goals simp

@[simp] theorem State.raiseIf_dist (b : Bool) (src : Source) : (s.raiseIf b src).dist = s.dist := by
  unfold State.raiseIf
  try dsimp only
  repeat' split
  all_goals simp

@[simp] theorem State.raiseIf_chans (b : Bool) (src : Source) : (s.raiseIf b src).chans = s.chans := by
  unfold State.raiseIf
  try dsimp only
  repeat' split
  all_goals simp

@[simp] theorem State.raiseIf_gate (b : Bool) (src : Source) : (s.raiseIf b src).gate = s.gate := by
  unfold State.raiseIf
  try dsimp only
  repeat' split
  all_goals simp

@[simp] theorem State.raiseIf_mon (b : Bool) (src : Source) : (s.raiseIf b src).mon = s.mon := by
  unfold State.raiseIf
  try dsimp only
  repeat' split
  all_goals simp

@[simp] theorem State.raiseIf_lines (b : Bool) (src : Source) : (s.raiseIf b src).lines = s.lines := by
  unfold State.raiseIf
  try dsimp only
  repeat' split
  all_goals simp

@[simp] theorem State.raiseIf_ctl (b : Bool) (src : Source) : (s.raiseIf b src).ctl = s.ctl := by
  unfold State.raiseIf
  try dsimp only
  repeat' split
  all_goals simp

@[simp] theorem State.raiseIf_store (b : Bool) (src : Source) : (s.raiseIf b src).store = s.store := by
  unfold State.raiseIf
  try dsimp only
  repeat' split
  all_goals simp

@[simp] theorem State.raiseIf_freeCount (b : Bool) (src : Source) : (s.raiseIf b src).freeCount = s.freeCount := by
  unfold State.raiseIf
  try dsimp only
  repeat' split
  all_goals simp

@[simp] theorem State.raiseIf_pending (b : Bool) (src : Source) : (s.raiseIf b src).pending = s.pending := by
  unfold State.raiseIf
  try dsimp only
  repeat' split
  all_goals simp

/-! ## stopDeadlines -/

@[simp] theorem State.stopDeadlines_powered : (s.stopDeadlines).powered = s.powered := by
  unfold State.stopDeadlines
  try dsimp only
  all_goals simp

@[simp] theorem State.stopDeadlines_now : (s.stopDeadlines).now = s.now := by
  unfold State.stopDeadlines
  try dsimp only
  all_goals simp

@[simp] theorem State.stopDeadlines_table : (s.stopDeadlines).table = s.table := by
  unfold State.stopDeadlines
  try dsimp only
  all_goals simp

@[simp] theorem State.stopDeadlines_meas : (s.stopDeadlines).meas = s.meas := by
  unfold State.stopDeadlines
  try dsimp only
  all_goals simp

@[simp] theorem State.stopDeadlines_force : (s.stopDeadlines).force = s.force := by
  unfold State.stopDeadlines
  try dsimp only
  all_goals simp

@[simp] theorem State.stopDeadlines_dist : (s.stopDeadlines).dist = s.dist := by
  unfold State.stopDeadlines
  try dsimp only
  all_goals simp

@[simp] theorem State.stopDeadlines_chans : (s.stopDeadlines).chans = s.chans := by
  unfold State.stopDeadlines
  try dsimp only
  all_goals simp

@[simp] theorem State.stopDeadlines_gate : (s.stopDeadlines).gate = s.gate := by
  unfold State.stopDeadlines
  try dsimp only
  all_goals simp

@[simp] theorem State.stopDeadlines_mon : (s.stopDeadlines).mon = s.mon := by
  unfold State.stopDeadlines
  try dsimp only
  all_goals simp

@[simp] theorem State.stopDeadlines_lines : (s.stopDeadlines).lines = s.lines := by
  unfold State.stopDeadlines
  try dsimp only
  all_goals simp

@[simp] theorem State.stopDeadlines_ctl : (s.stopDeadlines).ctl = s.ctl := by
  unfold State.stopDeadlines
  try dsimp only
  all_goals simp

@[simp] theorem State.stopDeadlines_store : (s.stopDeadlines).store = s.store := by
  unfold State.stopDeadlines
  try dsimp only
  all_goals simp

@[simp] theorem State.stopDeadlines_freeCount : (s.stopDeadlines).freeCount = s.freeCount := by
  unfold State.stopDeadlines
  try dsimp only
  all_goals simp

@[simp] theorem State.stopDeadlines_pending : (s.stopDeadlines).pending = s.pending := by
  unfold State.stopDeadlines
  try dsimp only
  all_goals simp

/-! ## startDeadlines -/

@[simp] theorem State.startDeadlines_powered : (s.startDeadlines).powered = s.powered := by
  unfold State.startDeadlines
  try dsimp only
  repeat' split
  all_goals simp

@[simp] theorem State.startDeadlines_now : (s.startDeadlines).now = s.now := by
  unfold State.startDeadlines
  try dsimp only
  repeat' split
  all_goals simp

@[simp] theorem State.startDeadlines_table : (s.startDeadlines).table = s.table := by
  unfold State.startDeadlines
  try dsimp only
  repeat' split
  all_goals simp

@[simp] theorem State.startDeadlines_meas : (s.startDeadlines).meas = s.meas := by
  unfold State.startDeadlines
  try dsimp only
  repeat' split
  all_goals simp

@[simp] theorem State.startDeadlines_force : (s.startDeadlines).force = s.force := by
  unfold State.startDeadlines
  try dsimp only
  repeat' split
  all_goals simp

@[simp] theorem State.startDeadlines_dist : (s.startDeadlines).dist = s.dist := by
  unfold State.startDeadlines
  try dsimp only
  repeat' split
  all_goals simp

@[simp] theorem State.startDeadlines_chans : (s.startDeadlines).chans = s.chans := by
  unfold State.startDeadlines
  try dsimp only
  repeat' split
  all_goals simp

@[simp] theorem State.startDeadlines_gate : (s.startDeadlines).gate = s.gate := by
  unfold State.startDeadlines
  try dsimp only
  repeat' split
  all_goals simp

@[simp] theorem State.startDeadlines_mon : (s.startDeadlines).mon = s.mon := by
  unfold State.startDeadlines
  try dsimp only
  repeat' split
  all_goals simp

@[simp] theorem State.startDeadlines_lines : (s.startDeadlines).lines = s.lines := by
  unfold State.startDeadlines
  try dsimp only
  repeat' split
  all_goals simp

@[simp] theorem State.startDeadlines_ctl : (s.startDeadlines).ctl = s.ctl := by
  unfold State.startDeadlines
  try dsimp only
  repeat' split
  all_goals simp

@[simp] theorem State.startDeadlines_store : (s.startDeadlines).store = s.store := by
  unfold State.startDeadlines
  try dsimp only
  repeat' split
  all_goals simp

@[simp] theorem State.startDeadlines_freeCount : (s.startDeadlines).freeCount = s.freeCount := by
  unfold State.startDeadlines
  try dsimp only
  repeat' split
  all_goals simp

@[simp] theorem State.startDeadlines_pending : (s.startDeadlines).pending = s.pending := by
  unfold State.startDeadlines
  try dsimp only
  repeat' split
  all_goals simp

/-! ## stopDeadline -/

@[simp] theorem State.stopDeadline_powered (src : CriticalSource) : (s.stopDeadline src).powered = s.powered := by
  unfold State.stopDeadline
  try dsimp only
  repeat' split
  all_goals simp

@[simp] theorem State.stopDeadline_now (src : CriticalSource) : (s.stopDeadline src).now = s.now := by
  unfold State.stopDeadline
  try dsimp only
  repeat' split
  all_goals simp

@[simp] theorem State.stopDeadline_table (src : CriticalSource) : (s.stopDeadline src).table = s.table := by
  unfold State.stopDeadline
  try dsimp only
  repeat' split
  all_goals simp

@[simp] theorem State.stopDeadline_meas (src : CriticalSource) : (s.stopDeadline src).meas = s.meas := by
  unfold State.stopDeadline
  try dsimp only
  repeat' split
  all_goals simp

@[simp] theorem State.stopDeadline_force (src : CriticalSource) : (s.stopDeadline src).force = s.force := by
  unfold State.stopDeadline
  try dsimp only
  repeat' split
  all_goals simp

@[simp] theorem State.stopDeadline_dist (src : CriticalSource) : (s.stopDeadline src).dist = s.dist := by
  unfold State.stopDeadline
  try dsimp only
  repeat' split
  all_goals simp

@[simp] theorem State.stopDeadline_chans (src : CriticalSource) : (s.stopDeadline src).chans = s.chans := by
  unfold State.stopDeadline
  try dsimp only
  repeat' split
  all_goals simp

@[simp] theorem State.stopDeadline_gate (src : CriticalSource) : (s.stopDeadline src).gate = s.gate := by
  unfold State.stopDeadline
  try dsimp only
  repeat' split
  all_goals simp

@[simp] theorem State.stopDeadline_mon (src : CriticalSource) : (s.stopDeadline src).mon = s.mon := by
  unfold State.stopDeadline
  try dsimp only
  repeat' split
  all_goals simp

@[simp] theorem State.stopDeadline_lines (src : CriticalSource) : (s.stopDeadline src).lines = s.lines := by
  unfold State.stopDeadline
  try dsimp only
  repeat' split
  all_goals simp

@[simp] theorem State.stopDeadline_ctl (src : CriticalSource) : (s.stopDeadline src).ctl = s.ctl := by
  unfold State.stopDeadline
  try dsimp only
  repeat' split
  all_goals simp

@[simp] theorem State.stopDeadline_store (src : CriticalSource) : (s.stopDeadline src).store = s.store := by
  unfold State.stopDeadline
  try dsimp only
  repeat' split
  all_goals simp

@[simp] theorem State.stopDeadline_freeCount (src : CriticalSource) : (s.stopDeadline src).freeCount = s.freeCount := by
  unfold State.stopDeadline
  try dsimp only
  repeat' split
  all_goals simp

@[simp] theorem State.stopDeadline_pending (src : CriticalSource) : (s.stopDeadline src).pending = s.pending := by
  unfold State.stopDeadline
  try dsimp only
  repeat' split
  all_goals simp

/-! ## refreshWarn -/

@[simp] theorem State.refreshWarn_powered : (s.refreshWarn).powered = s.powered := by
  unfold State.refreshWarn
  try dsimp only
  all_goals simp

@[simp] theorem State.refreshWarn_now : (s.refreshWarn).now = s.now := by
  unfold State.refreshWarn
  try dsimp only
  all_goals simp

@[simp] theorem State.refreshWarn_link : (s.refreshWarn).link = s.link := by
  unfold State.refreshWarn
  try dsimp only
  all_goals simp

@[simp] theorem State.refreshWarn_table : (s.refreshWarn).table = s.table := by
  unfold State.refreshWarn
  try dsimp only
  all_goals simp

@[simp] theorem State.refreshWarn_meas : (s.refreshWarn).meas = s.meas := by
  unfold State.refreshWarn
  try dsimp only
  all_goals simp

@[simp] theorem State.refreshWarn_force : (s.refreshWarn).force = s.force := by
  unfold State.refreshWarn
  try dsimp only
  all_goals simp

@[simp] theorem State.refreshWarn_dist : (s.refreshWarn).dist = s.dist := by
  unfold State.refreshWarn
  try dsimp only
  all_goals simp

@[simp] theorem State.refreshWarn_chans : (s.refreshWarn).chans = s.chans := by
  unfold State.refreshWarn
  try dsimp only
  all_goals simp

@[simp] theorem State.refreshWarn_gate : (s.refreshWarn).gate = s.gate := by
  unfold State.refreshWarn
  try dsimp only
  all_goals simp

@[simp] theorem State.refreshWarn_lines : (s.refreshWarn).lines = s.lines := by
  unfold State.refreshWarn
  try dsimp only
  all_goals simp

@[simp] theorem State.refreshWarn_ctl : (s.refreshWarn).ctl = s.ctl := by
  unfold State.refreshWarn
  try dsimp only
  all_goals simp

@[simp] theorem State.refreshWarn_store : (s.refreshWarn).store = s.store := by
  unfold State.refreshWarn
  try dsimp only
  all_goals simp

@[simp] theorem State.refreshWarn_freeCount : (s.refreshWarn).freeCount = s.freeCount := by
  unfold State.refreshWarn
  try dsimp only
  all_goals simp

@[simp] theorem State.refreshWarn_pending : (s.refreshWarn).pending = s.pending := by
  unfold State.refreshWarn
  try dsimp only
  all_goals simp

/-! ## deriveLoads -/

@[simp] theorem State.deriveLoads_powered : (s.deriveLoads).powered = s.powered := by
  unfold State.deriveLoads
  try dsimp only
  all_goals simp

@[simp] theorem State.deriveLoads_now : (s.deriveLoads).now = s.now := by
  unfold State.deriveLoads
  try dsimp only
  all_goals simp

@[simp] theorem State.deriveLoads_link : (s.deriveLoads).link = s.link := by
  unfold State.deriveLoads
  try dsimp only
  all_goals simp

@[simp] theorem State.deriveLoads_table : (s.deriveLoads).table = s.table := by
  unfold State.deriveLoads
  try dsimp only
  all_goals simp

@[simp] theorem State.deriveLoads_force : (s.deriveLoads).force = s.force := by
  unfold State.deriveLoads
  try dsimp only
  all_goals simp

@[simp] theorem State.deriveLoads_dist : (s.deriveLoads).dist = s.dist := by
  unfold State.deriveLoads
  try dsimp only
  all_goals simp

@[simp] theorem State.deriveLoads_chans : (s.deriveLoads).chans = s.chans := by
  unfold State.deriveLoads
  try dsimp only
  all_goals simp

@[simp] theorem State.deriveLoads_gate : (s.deriveLoads).gate = s.gate := by
  unfold State.deriveLoads
  try dsimp only
  all_goals simp

@[simp] theorem State.deriveLoads_mon : (s.deriveLoads).mon = s.mon := by
  unfold State.deriveLoads
  try dsimp only
  all_goals simp

@[simp] theorem State.deriveLoads_lines : (s.deriveLoads).lines = s.lines := by
  unfold State.deriveLoads
  try dsimp only
  all_goals simp

@[simp] theorem State.deriveLoads_ctl : (s.deriveLoads).ctl = s.ctl := by
  unfold State.deriveLoads
  try dsimp only
  all_goals simp

@[simp] theorem State.deriveLoads_store : (s.deriveLoads).store = s.store := by
  unfold State.deriveLoads
  try dsimp only
  all_goals simp

@[simp] theorem State.deriveLoads_freeCount : (s.deriveLoads).freeCount = s.freeCount := by
  unfold State.deriveLoads
  try dsimp only
  all_goals simp

@[simp] theorem State.deriveLoads_pending : (s.deriveLoads).pending = s.pending := by
  unfold State.deriveLoads
  try dsimp only
  all_goals simp

/-! ## deriveWeight -/

@[simp] theorem State.deriveWeight_powered : (s.deriveWeight).powered = s.powered := by
  unfold State.deriveWeight
  try dsimp only
  all_goals simp

@[simp] theorem State.deriveWeight_now : (s.deriveWeight).now = s.now := by
  unfold State.deriveWeight
  try dsimp only
  all_goals simp

@[simp] theorem State.deriveWeight_link : (s.deriveWeight).link = s.link := by
  unfold State.deriveWeight
  try dsimp only
  all_goals simp

@[simp] theorem State.deriveWeight_table : (s.deriveWeight).table = s.table := by
  unfold State.deriveWeight
  try dsimp only
  all_goals simp

@[simp] theorem State.deriveWeight_force : (s.deriveWeight).force = s.force := by
  unfold State.deriveWeight
  try dsimp only
  all_goals simp

@[simp] theorem State.deriveWeight_dist : (s.deriveWeight).dist = s.dist := by
  unfold State.deriveWeight
  try dsimp only
  all_goals simp

@[simp] theorem State.deriveWeight_chans : (s.deriveWeight).chans = s.chans := by
  unfold State.deriveWeight
  try dsimp only
  all_goals simp

@[simp] theorem State.deriveWeight_gate : (s.deriveWeight).gate = s.gate := by
  unfold State.deriveWeight
  try dsimp only
  all_goals simp

@[simp] theorem State.deriveWeight_mon : (s.deriveWeight).mon = s.mon := by
  unfold State.deriveWeight
  try dsimp only
  all_goals simp

@[simp] theorem State.deriveWeight_lines : (s.deriveWeight).lines = s.lines := by
  unfold State.deriveWeight
  try dsimp only
  all_goals simp

@[simp] theorem State.deriveWeight_ctl : (s.deriveWeight).ctl = s.ctl := by
  unfold State.deriveWeight
  try dsimp only
  all_goals simp

@[simp] theorem State.deriveWeight_store : (s.deriveWeight).store = s.store := by
  unfold State.deriveWeight
  try dsimp only
  all_goals simp

@[simp] theorem State.deriveWeight_freeCount : (s.deriveWeight).freeCount = s.freeCount := by
  unfold State.deriveWeight
  try dsimp only
  all_goals simp

@[simp] theorem State.deriveWeight_pending : (s.deriveWeight).pending = s.pending := by
  unfold State.deriveWeight
  try dsimp only
  all_goals simp

/-! ## runForce -/

@[simp] theorem State.runForce_powered : (s.runForce).powered = s.powered := by
  unfold State.runForce
  try dsimp only
  all_goals simp

@[simp] theorem State.runForce_now : (s.runForce).now = s.now := by
  unfold State.runForce
  try dsimp only
  all_goals simp

@[simp] theorem State.runForce_link : (s.runForce).link = s.link := by
  unfold State.runForce
  try dsimp only
  all_goals simp

@[simp] theorem State.runForce_table : (s.runForce).table = s.table := by
  unfold State.runForce
  try dsimp only
  all_goals simp

@[simp] theorem State.runForce_meas : (s.runForce).meas = s.meas := by
  unfold State.runForce
  try dsimp only
  all_goals simp

@[simp] theorem State.runForce_dist : (s.runForce).dist = s.dist := by
  unfold State.runForce
  try dsimp only
  all_goals simp

@[simp] theorem State.runForce_chans : (s.runForce).chans = s.chans := by
  unfold State.runForce
  try dsimp only
  all_goals simp

@[simp] theorem State.runForce_gate : (s.runForce).gate = s.gate := by
  unfold State.runForce
  try dsimp only
  all_goals simp

@[simp] theorem State.runForce_mon : (s.runForce).mon = s.mon := by
  unfold State.runForce
  try dsimp only
  all_goals simp

@[simp] theorem State.runForce_lines : (s.runForce).lines = s.lines := by
  unfold State.runForce
  try dsimp only
  all_goals simp

@[simp] theorem State.runForce_ctl : (s.runForce).ctl = s.ctl := by
  unfold State.runForce
  try dsimp only
  all_goals simp

@[simp] theorem State.runForce_store : (s.runForce).store = s.store := by
  unfold State.runForce
  try dsimp only
  all_goals simp

@[simp] theorem State.runForce_freeCount : (s.runForce).freeCount = s.freeCount := by
  unfold State.runForce
  try dsimp only
  all_goals simp

@[simp] theorem State.runForce_pending : (s.runForce).pending = s.pending := by
  unfold State.runForce
  try dsimp only
  all_goals simp

/-! ## engagingToHeld -/

@[simp] theorem State.engagingToHeld_powered : (s.engagingToHeld).powered = s.powered := by
  unfold State.engagingToHeld
  try dsimp only
  repeat' split
  all_goals simp

@[simp] theorem State.engagingToHeld_now : (s.engagingToHeld).now = s.now := by
  unfold State.engagingToHeld
  try dsimp only
  repeat' split
  all_goals simp

@[simp] theorem State.engagingToHeld_link : (s.engagingToHeld).link = s.link := by
  unfold State.engagingToHeld
  try dsimp only
  repeat' split
  all_goals simp

@[simp] theorem State.engagingToHeld_meas : (s.engagingToHeld).meas = s.meas := by
  unfold State.engagingToHeld
  try dsimp only
  repeat' split
  all_goals simp

@[simp] theorem State.engagingToHeld_force : (s.engagingToHeld).force = s.force := by
  unfold State.engagingToHeld
  try dsimp only
  repeat' split
  all_goals simp

@[simp] theorem State.engagingToHeld_dist : (s.engagingToHeld).dist = s.dist := by
  unfold State.engagingToHeld
  try dsimp only
  repeat' split
  all_goals simp

@[simp] theorem State.engagingToHeld_chans : (s.engagingToHeld).chans = s.chans := by
  unfold State.engagingToHeld
  try dsimp only
  repeat' split
  all_goals simp

@[simp] theorem State.engagingToHeld_gate : (s.engagingToHeld).gate = s.gate := by
  unfold State.engagingToHeld
  try dsimp only
  repeat' split
  all_goals simp

@[simp] theorem State.engagingToHeld_lines : (s.engagingToHeld).lines = s.lines := by
  unfold State.engagingToHeld
  try dsimp only
  repeat' split
  all_goals simp

@[simp] theorem State.engagingToHeld_ctl : (s.engagingToHeld).ctl = s.ctl := by
  unfold State.engagingToHeld
  try dsimp only
  repeat' split
  all_goals simp

@[simp] theorem State.engagingToHeld_store : (s.engagingToHeld).store = s.store := by
  unfold State.engagingToHeld
  try dsimp only
  repeat' split
  all_goals simp

@[simp] theorem State.engagingToHeld_freeCount : (s.engagingToHeld).freeCount = s.freeCount := by
  unfold State.engagingToHeld
  try dsimp only
  repeat' split
  all_goals simp

@[simp] theorem State.engagingToHeld_pending : (s.engagingToHeld).pending = s.pending := by
  unfold State.engagingToHeld
  try dsimp only
  repeat' split
  all_goals simp

/-! ## reportConfirmed -/

@[simp] theorem State.reportConfirmed_powered : (s.reportConfirmed).powered = s.powered := by
  unfold State.reportConfirmed
  try dsimp only
  repeat' split
  all_goals simp

@[simp] theorem State.reportConfirmed_now : (s.reportConfirmed).now = s.now := by
  unfold State.reportConfirmed
  try dsimp only
  repeat' split
  all_goals simp

@[simp] theorem State.reportConfirmed_link : (s.reportConfirmed).link = s.link := by
  unfold State.reportConfirmed
  try dsimp only
  repeat' split
  all_goals simp

@[simp] theorem State.reportConfirmed_meas : (s.reportConfirmed).meas = s.meas := by
  unfold State.reportConfirmed
  try dsimp only
  repeat' split
  all_goals simp

@[simp] theorem State.reportConfirmed_force : (s.reportConfirmed).force = s.force := by
  unfold State.reportConfirmed
  try dsimp only
  repeat' split
  all_goals simp

@[simp] theorem State.reportConfirmed_dist : (s.reportConfirmed).dist = s.dist := by
  unfold State.reportConfirmed
  try dsimp only
  repeat' split
  all_goals simp

@[simp] theorem State.reportConfirmed_chans : (s.reportConfirmed).chans = s.chans := by
  unfold State.reportConfirmed
  try dsimp only
  repeat' split
  all_goals simp

@[simp] theorem State.reportConfirmed_gate : (s.reportConfirmed).gate = s.gate := by
  unfold State.reportConfirmed
  try dsimp only
  repeat' split
  all_goals simp

@[simp] theorem State.reportConfirmed_lines : (s.reportConfirmed).lines = s.lines := by
  unfold State.reportConfirmed
  try dsimp only
  repeat' split
  all_goals simp

@[simp] theorem State.reportConfirmed_ctl : (s.reportConfirmed).ctl = s.ctl := by
  unfold State.reportConfirmed
  try dsimp only
  repeat' split
  all_goals simp

@[simp] theorem State.reportConfirmed_store : (s.reportConfirmed).store = s.store := by
  unfold State.reportConfirmed
  try dsimp only
  repeat' split
  all_goals simp

@[simp] theorem State.reportConfirmed_freeCount : (s.reportConfirmed).freeCount = s.freeCount := by
  unfold State.reportConfirmed
  try dsimp only
  repeat' split
  all_goals simp

@[simp] theorem State.reportConfirmed_pending : (s.reportConfirmed).pending = s.pending := by
  unfold State.reportConfirmed
  try dsimp only
  repeat' split
  all_goals simp

/-! ## raiseShort -/

@[simp] theorem State.raiseShort_powered (before : Option ShortKind) : (s.raiseShort before).powered = s.powered := by
  unfold State.raiseShort
  try dsimp only
  repeat' split
  all_goals simp

@[simp] theorem State.raiseShort_now (before : Option ShortKind) : (s.raiseShort before).now = s.now := by
  unfold State.raiseShort
  try dsimp only
  repeat' split
  all_goals simp

@[simp] theorem State.raiseShort_table (before : Option ShortKind) : (s.raiseShort before).table = s.table := by
  unfold State.raiseShort
  try dsimp only
  repeat' split
  all_goals simp

@[simp] theorem State.raiseShort_meas (before : Option ShortKind) : (s.raiseShort before).meas = s.meas := by
  unfold State.raiseShort
  try dsimp only
  repeat' split
  all_goals simp

@[simp] theorem State.raiseShort_force (before : Option ShortKind) : (s.raiseShort before).force = s.force := by
  unfold State.raiseShort
  try dsimp only
  repeat' split
  all_goals simp

@[simp] theorem State.raiseShort_dist (before : Option ShortKind) : (s.raiseShort before).dist = s.dist := by
  unfold State.raiseShort
  try dsimp only
  repeat' split
  all_goals simp

@[simp] theorem State.raiseShort_chans (before : Option ShortKind) : (s.raiseShort before).chans = s.chans := by
  unfold State.raiseShort
  try dsimp only
  repeat' split
  all_goals simp

@[simp] theorem State.raiseShort_gate (before : Option ShortKind) : (s.raiseShort before).gate = s.gate := by
  unfold State.raiseShort
  try dsimp only
  repeat' split
  all_goals simp

@[simp] theorem State.raiseShort_mon (before : Option ShortKind) : (s.raiseShort before).mon = s.mon := by
  unfold State.raiseShort
  try dsimp only
  repeat' split
  all_goals simp

@[simp] theorem State.raiseShort_lines (before : Option ShortKind) : (s.raiseShort before).lines = s.lines := by
  unfold State.raiseShort
  try dsimp only
  repeat' split
  all_goals simp

@[simp] theorem State.raiseShort_ctl (before : Option ShortKind) : (s.raiseShort before).ctl = s.ctl := by
  unfold State.raiseShort
  try dsimp only
  repeat' split
  all_goals simp

@[simp] theorem State.raiseShort_store (before : Option ShortKind) : (s.raiseShort before).store = s.store := by
  unfold State.raiseShort
  try dsimp only
  repeat' split
  all_goals simp

@[simp] theorem State.raiseShort_freeCount (before : Option ShortKind) : (s.raiseShort before).freeCount = s.freeCount := by
  unfold State.raiseShort
  try dsimp only
  repeat' split
  all_goals simp

@[simp] theorem State.raiseShort_pending (before : Option ShortKind) : (s.raiseShort before).pending = s.pending := by
  unfold State.raiseShort
  try dsimp only
  repeat' split
  all_goals simp

/-! ## distributeWith -/

@[simp] theorem State.distributeWith_powered (loads : Six Nat) (fresh : Bool) : (s.distributeWith loads fresh).powered = s.powered := by
  unfold State.distributeWith
  try dsimp only
  all_goals simp

@[simp] theorem State.distributeWith_now (loads : Six Nat) (fresh : Bool) : (s.distributeWith loads fresh).now = s.now := by
  unfold State.distributeWith
  try dsimp only
  all_goals simp

@[simp] theorem State.distributeWith_meas (loads : Six Nat) (fresh : Bool) : (s.distributeWith loads fresh).meas = s.meas := by
  unfold State.distributeWith
  try dsimp only
  all_goals simp

@[simp] theorem State.distributeWith_force (loads : Six Nat) (fresh : Bool) : (s.distributeWith loads fresh).force = s.force := by
  unfold State.distributeWith
  try dsimp only
  all_goals simp

@[simp] theorem State.distributeWith_gate (loads : Six Nat) (fresh : Bool) : (s.distributeWith loads fresh).gate = s.gate := by
  unfold State.distributeWith
  try dsimp only
  all_goals simp

@[simp] theorem State.distributeWith_lines (loads : Six Nat) (fresh : Bool) : (s.distributeWith loads fresh).lines = s.lines := by
  unfold State.distributeWith
  try dsimp only
  all_goals simp

@[simp] theorem State.distributeWith_ctl (loads : Six Nat) (fresh : Bool) : (s.distributeWith loads fresh).ctl = s.ctl := by
  unfold State.distributeWith
  try dsimp only
  all_goals simp

@[simp] theorem State.distributeWith_store (loads : Six Nat) (fresh : Bool) : (s.distributeWith loads fresh).store = s.store := by
  unfold State.distributeWith
  try dsimp only
  all_goals simp

@[simp] theorem State.distributeWith_freeCount (loads : Six Nat) (fresh : Bool) : (s.distributeWith loads fresh).freeCount = s.freeCount := by
  unfold State.distributeWith
  try dsimp only
  all_goals simp

@[simp] theorem State.distributeWith_pending (loads : Six Nat) (fresh : Bool) : (s.distributeWith loads fresh).pending = s.pending := by
  unfold State.distributeWith
  try dsimp only
  all_goals simp

/-! ## distribute -/

@[simp] theorem State.distribute_powered : (s.distribute).powered = s.powered := by
  unfold State.distribute
  try dsimp only
  all_goals simp

@[simp] theorem State.distribute_now : (s.distribute).now = s.now := by
  unfold State.distribute
  try dsimp only
  all_goals simp

@[simp] theorem State.distribute_meas : (s.distribute).meas = s.meas := by
  unfold State.distribute
  try dsimp only
  all_goals simp

@[simp] theorem State.distribute_force : (s.distribute).force = s.force := by
  unfold State.distribute
  try dsimp only
  all_goals simp

@[simp] theorem State.distribute_gate : (s.distribute).gate = s.gate := by
  unfold State.distribute
  try dsimp only
  all_goals simp

@[simp] theorem State.distribute_lines : (s.distribute).lines = s.lines := by
  unfold State.distribute
  try dsimp only
  all_goals simp

@[simp] theorem State.distribute_ctl : (s.distribute).ctl = s.ctl := by
  unfold State.distribute
  try dsimp only
  all_goals simp

@[simp] theorem State.distribute_store : (s.distribute).store = s.store := by
  unfold State.distribute
  try dsimp only
  all_goals simp

@[simp] theorem State.distribute_freeCount : (s.distribute).freeCount = s.freeCount := by
  unfold State.distribute
  try dsimp only
  all_goals simp

@[simp] theorem State.distribute_pending : (s.distribute).pending = s.pending := by
  unfold State.distribute
  try dsimp only
  all_goals simp

/-! ## applyForce -/

@[simp] theorem State.applyForce_powered (a : Nat) : (s.applyForce a).powered = s.powered := by
  unfold State.applyForce
  try dsimp only
  repeat' split
  all_goals simp

@[simp] theorem State.applyForce_now (a : Nat) : (s.applyForce a).now = s.now := by
  unfold State.applyForce
  try dsimp only
  repeat' split
  all_goals simp

@[simp] theorem State.applyForce_meas (a : Nat) : (s.applyForce a).meas = s.meas := by
  unfold State.applyForce
  try dsimp only
  repeat' split
  all_goals simp

@[simp] theorem State.applyForce_force (a : Nat) : (s.applyForce a).force = s.force := by
  unfold State.applyForce
  try dsimp only
  repeat' split
  all_goals simp

@[simp] theorem State.applyForce_gate (a : Nat) : (s.applyForce a).gate = s.gate := by
  unfold State.applyForce
  try dsimp only
  repeat' split
  all_goals simp

@[simp] theorem State.applyForce_lines (a : Nat) : (s.applyForce a).lines = s.lines := by
  unfold State.applyForce
  try dsimp only
  repeat' split
  all_goals simp

@[simp] theorem State.applyForce_ctl (a : Nat) : (s.applyForce a).ctl = s.ctl := by
  unfold State.applyForce
  try dsimp only
  repeat' split
  all_goals simp

@[simp] theorem State.applyForce_store (a : Nat) : (s.applyForce a).store = s.store := by
  unfold State.applyForce
  try dsimp only
  repeat' split
  all_goals simp

@[simp] theorem State.applyForce_freeCount (a : Nat) : (s.applyForce a).freeCount = s.freeCount := by
  unfold State.applyForce
  try dsimp only
  repeat' split
  all_goals simp

@[simp] theorem State.applyForce_pending (a : Nat) : (s.applyForce a).pending = s.pending := by
  unfold State.applyForce
  try dsimp only
  repeat' split
  all_goals simp

/-! ## offer -/

@[simp] theorem State.offer_powered : (s.offer).powered = s.powered := by
  unfold State.offer
  try dsimp only
  all_goals simp

@[simp] theorem State.offer_now : (s.offer).now = s.now := by
  unfold State.offer
  try dsimp only
  all_goals simp

@[simp] theorem State.offer_meas : (s.offer).meas = s.meas := by
  unfold State.offer
  try dsimp only
  all_goals simp

@[simp] theorem State.offer_force : (s.offer).force = s.force := by
  unfold State.offer
  try dsimp only
  all_goals simp

@[simp] theorem State.offer_gate : (s.offer).gate = s.gate := by
  unfold State.offer
  try dsimp only
  all_goals simp

@[simp] theorem State.offer_lines : (s.offer).lines = s.lines := by
  unfold State.offer
  try dsimp only
  all_goals simp

@[simp] theorem State.offer_ctl : (s.offer).ctl = s.ctl := by
  unfold State.offer
  try dsimp only
  all_goals simp

@[simp] theorem State.offer_store : (s.offer).store = s.store := by
  unfold State.offer
  try dsimp only
  all_goals simp

@[simp] theorem State.offer_freeCount : (s.offer).freeCount = s.freeCount := by
  unfold State.offer
  try dsimp only
  all_goals simp

@[simp] theorem State.offer_pending : (s.offer).pending = s.pending := by
  unfold State.offer
  try dsimp only
  all_goals simp

/-! ## runAndOffer -/

@[simp] theorem State.runAndOffer_powered : (s.runAndOffer).powered = s.powered := by
  unfold State.runAndOffer
  try dsimp only
  all_goals simp

@[simp] theorem State.runAndOffer_now : (s.runAndOffer).now = s.now := by
  unfold State.runAndOffer
  try dsimp only
  all_goals simp

@[simp] theorem State.runAndOffer_meas : (s.runAndOffer).meas = s.meas := by
  unfold State.runAndOffer
  try dsimp only
  all_goals simp

@[simp] theorem State.runAndOffer_gate : (s.runAndOffer).gate = s.gate := by
  unfold State.runAndOffer
  try dsimp only
  all_goals simp

@[simp] theorem State.runAndOffer_lines : (s.runAndOffer).lines = s.lines := by
  unfold State.runAndOffer
  try dsimp only
  all_goals simp

@[simp] theorem State.runAndOffer_ctl : (s.runAndOffer).ctl = s.ctl := by
  unfold State.runAndOffer
  try dsimp only
  all_goals simp

@[simp] theorem State.runAndOffer_store : (s.runAndOffer).store = s.store := by
  unfold State.runAndOffer
  try dsimp only
  all_goals simp

@[simp] theorem State.runAndOffer_freeCount : (s.runAndOffer).freeCount = s.freeCount := by
  unfold State.runAndOffer
  try dsimp only
  all_goals simp

@[simp] theorem State.runAndOffer_pending : (s.runAndOffer).pending = s.pending := by
  unfold State.runAndOffer
  try dsimp only
  all_goals simp

/-! ## holdSetChange -/

@[simp] theorem State.holdSetChange_powered (parkBefore : Bool) : (s.holdSetChange parkBefore).powered = s.powered := by
  unfold State.holdSetChange
  try dsimp only
  repeat' split
  all_goals simp

@[simp] theorem State.holdSetChange_now (parkBefore : Bool) : (s.holdSetChange parkBefore).now = s.now := by
  unfold State.holdSetChange
  try dsimp only
  repeat' split
  all_goals simp

@[simp] theorem State.holdSetChange_meas (parkBefore : Bool) : (s.holdSetChange parkBefore).meas = s.meas := by
  unfold State.holdSetChange
  try dsimp only
  repeat' split
  all_goals simp

@[simp] theorem State.holdSetChange_gate (parkBefore : Bool) : (s.holdSetChange parkBefore).gate = s.gate := by
  unfold State.holdSetChange
  try dsimp only
  repeat' split
  all_goals simp

@[simp] theorem State.holdSetChange_lines (parkBefore : Bool) : (s.holdSetChange parkBefore).lines = s.lines := by
  unfold State.holdSetChange
  try dsimp only
  repeat' split
  all_goals simp

@[simp] theorem State.holdSetChange_ctl (parkBefore : Bool) : (s.holdSetChange parkBefore).ctl = s.ctl := by
  unfold State.holdSetChange
  try dsimp only
  repeat' split
  all_goals simp

@[simp] theorem State.holdSetChange_store (parkBefore : Bool) : (s.holdSetChange parkBefore).store = s.store := by
  unfold State.holdSetChange
  try dsimp only
  repeat' split
  all_goals simp

@[simp] theorem State.holdSetChange_freeCount (parkBefore : Bool) : (s.holdSetChange parkBefore).freeCount = s.freeCount := by
  unfold State.holdSetChange
  try dsimp only
  repeat' split
  all_goals simp

@[simp] theorem State.holdSetChange_pending (parkBefore : Bool) : (s.holdSetChange parkBefore).pending = s.pending := by
  unfold State.holdSetChange
  try dsimp only
  repeat' split
  all_goals simp

/-! ## retire -/

@[simp] theorem State.retire_powered (h : Nat) (driveOff : Bool) : (s.retire h driveOff).powered = s.powered := by
  unfold State.retire
  try dsimp only
  repeat' split
  all_goals simp

@[simp] theorem State.retire_now (h : Nat) (driveOff : Bool) : (s.retire h driveOff).now = s.now := by
  unfold State.retire
  try dsimp only
  repeat' split
  all_goals simp

@[simp] theorem State.retire_meas (h : Nat) (driveOff : Bool) : (s.retire h driveOff).meas = s.meas := by
  unfold State.retire
  try dsimp only
  repeat' split
  all_goals simp

@[simp] theorem State.retire_gate (h : Nat) (driveOff : Bool) : (s.retire h driveOff).gate = s.gate := by
  unfold State.retire
  try dsimp only
  repeat' split
  all_goals simp

@[simp] theorem State.retire_lines (h : Nat) (driveOff : Bool) : (s.retire h driveOff).lines = s.lines := by
  unfold State.retire
  try dsimp only
  repeat' split
  all_goals simp

@[simp] theorem State.retire_ctl (h : Nat) (driveOff : Bool) : (s.retire h driveOff).ctl = s.ctl := by
  unfold State.retire
  try dsimp only
  repeat' split
  all_goals simp

@[simp] theorem State.retire_store (h : Nat) (driveOff : Bool) : (s.retire h driveOff).store = s.store := by
  unfold State.retire
  try dsimp only
  repeat' split
  all_goals simp

@[simp] theorem State.retire_freeCount (h : Nat) (driveOff : Bool) : (s.retire h driveOff).freeCount = s.freeCount := by
  unfold State.retire
  try dsimp only
  repeat' split
  all_goals simp

@[simp] theorem State.retire_pending (h : Nat) (driveOff : Bool) : (s.retire h driveOff).pending = s.pending := by
  unfold State.retire
  try dsimp only
  repeat' split
  all_goals simp

/-! ## openRecord -/

@[simp] theorem State.openRecord_powered (make : Nat → Record) : (s.openRecord make).powered = s.powered := by
  unfold State.openRecord
  try dsimp only
  repeat' split
  all_goals simp

@[simp] theorem State.openRecord_now (make : Nat → Record) : (s.openRecord make).now = s.now := by
  unfold State.openRecord
  try dsimp only
  repeat' split
  all_goals simp

@[simp] theorem State.openRecord_meas (make : Nat → Record) : (s.openRecord make).meas = s.meas := by
  unfold State.openRecord
  try dsimp only
  repeat' split
  all_goals simp

@[simp] theorem State.openRecord_lines (make : Nat → Record) : (s.openRecord make).lines = s.lines := by
  unfold State.openRecord
  try dsimp only
  repeat' split
  all_goals simp

@[simp] theorem State.openRecord_ctl (make : Nat → Record) : (s.openRecord make).ctl = s.ctl := by
  unfold State.openRecord
  try dsimp only
  repeat' split
  all_goals simp

@[simp] theorem State.openRecord_store (make : Nat → Record) : (s.openRecord make).store = s.store := by
  unfold State.openRecord
  try dsimp only
  repeat' split
  all_goals simp

@[simp] theorem State.openRecord_freeCount (make : Nat → Record) : (s.openRecord make).freeCount = s.freeCount := by
  unfold State.openRecord
  try dsimp only
  repeat' split
  all_goals simp

@[simp] theorem State.openRecord_pending (make : Nat → Record) : (s.openRecord make).pending = s.pending := by
  unfold State.openRecord
  try dsimp only
  repeat' split
  all_goals simp

/-! ## monitorOpening -/

@[simp] theorem State.monitorOpening_powered (c : Cause) : (s.monitorOpening c).powered = s.powered := by
  unfold State.monitorOpening
  try dsimp only
  repeat' split
  all_goals simp

@[simp] theorem State.monitorOpening_now (c : Cause) : (s.monitorOpening c).now = s.now := by
  unfold State.monitorOpening
  try dsimp only
  repeat' split
  all_goals simp

@[simp] theorem State.monitorOpening_meas (c : Cause) : (s.monitorOpening c).meas = s.meas := by
  unfold State.monitorOpening
  try dsimp only
  repeat' split
  all_goals simp

@[simp] theorem State.monitorOpening_lines (c : Cause) : (s.monitorOpening c).lines = s.lines := by
  unfold State.monitorOpening
  try dsimp only
  repeat' split
  all_goals simp

@[simp] theorem State.monitorOpening_ctl (c : Cause) : (s.monitorOpening c).ctl = s.ctl := by
  unfold State.monitorOpening
  try dsimp only
  repeat' split
  all_goals simp

@[simp] theorem State.monitorOpening_store (c : Cause) : (s.monitorOpening c).store = s.store := by
  unfold State.monitorOpening
  try dsimp only
  repeat' split
  all_goals simp

@[simp] theorem State.monitorOpening_freeCount (c : Cause) : (s.monitorOpening c).freeCount = s.freeCount := by
  unfold State.monitorOpening
  try dsimp only
  repeat' split
  all_goals simp

@[simp] theorem State.monitorOpening_pending (c : Cause) : (s.monitorOpening c).pending = s.pending := by
  unfold State.monitorOpening
  try dsimp only
  repeat' split
  all_goals simp

/-! ## startOpening -/

@[simp] theorem State.startOpening_powered : (s.startOpening).powered = s.powered := by
  unfold State.startOpening
  try dsimp only
  all_goals simp

@[simp] theorem State.startOpening_now : (s.startOpening).now = s.now := by
  unfold State.startOpening
  try dsimp only
  all_goals simp

@[simp] theorem State.startOpening_meas : (s.startOpening).meas = s.meas := by
  unfold State.startOpening
  try dsimp only
  all_goals simp

@[simp] theorem State.startOpening_lines : (s.startOpening).lines = s.lines := by
  unfold State.startOpening
  try dsimp only
  all_goals simp

@[simp] theorem State.startOpening_ctl : (s.startOpening).ctl = s.ctl := by
  unfold State.startOpening
  try dsimp only
  all_goals simp

@[simp] theorem State.startOpening_store : (s.startOpening).store = s.store := by
  unfold State.startOpening
  try dsimp only
  all_goals simp

@[simp] theorem State.startOpening_freeCount : (s.startOpening).freeCount = s.freeCount := by
  unfold State.startOpening
  try dsimp only
  all_goals simp

@[simp] theorem State.startOpening_pending : (s.startOpening).pending = s.pending := by
  unfold State.startOpening
  try dsimp only
  all_goals simp

/-! ## driveOff -/

@[simp] theorem State.driveOff_powered : (s.driveOff).powered = s.powered := by
  unfold State.driveOff
  try dsimp only
  all_goals simp

@[simp] theorem State.driveOff_now : (s.driveOff).now = s.now := by
  unfold State.driveOff
  try dsimp only
  all_goals simp

@[simp] theorem State.driveOff_meas : (s.driveOff).meas = s.meas := by
  unfold State.driveOff
  try dsimp only
  all_goals simp

@[simp] theorem State.driveOff_lines : (s.driveOff).lines = s.lines := by
  unfold State.driveOff
  try dsimp only
  all_goals simp

@[simp] theorem State.driveOff_ctl : (s.driveOff).ctl = s.ctl := by
  unfold State.driveOff
  try dsimp only
  all_goals simp

@[simp] theorem State.driveOff_store : (s.driveOff).store = s.store := by
  unfold State.driveOff
  try dsimp only
  all_goals simp

@[simp] theorem State.driveOff_freeCount : (s.driveOff).freeCount = s.freeCount := by
  unfold State.driveOff
  try dsimp only
  all_goals simp

@[simp] theorem State.driveOff_pending : (s.driveOff).pending = s.pending := by
  unfold State.driveOff
  try dsimp only
  all_goals simp

/-! ## gateEvaluate -/

@[simp] theorem State.gateEvaluate_powered : (s.gateEvaluate).powered = s.powered := by
  unfold State.gateEvaluate
  try dsimp only
  repeat' split
  all_goals simp

@[simp] theorem State.gateEvaluate_now : (s.gateEvaluate).now = s.now := by
  unfold State.gateEvaluate
  try dsimp only
  repeat' split
  all_goals simp

@[simp] theorem State.gateEvaluate_meas : (s.gateEvaluate).meas = s.meas := by
  unfold State.gateEvaluate
  try dsimp only
  repeat' split
  all_goals simp

@[simp] theorem State.gateEvaluate_lines : (s.gateEvaluate).lines = s.lines := by
  unfold State.gateEvaluate
  try dsimp only
  repeat' split
  all_goals simp

@[simp] theorem State.gateEvaluate_ctl : (s.gateEvaluate).ctl = s.ctl := by
  unfold State.gateEvaluate
  try dsimp only
  repeat' split
  all_goals simp

@[simp] theorem State.gateEvaluate_store : (s.gateEvaluate).store = s.store := by
  unfold State.gateEvaluate
  try dsimp only
  repeat' split
  all_goals simp

@[simp] theorem State.gateEvaluate_freeCount : (s.gateEvaluate).freeCount = s.freeCount := by
  unfold State.gateEvaluate
  try dsimp only
  repeat' split
  all_goals simp

@[simp] theorem State.gateEvaluate_pending : (s.gateEvaluate).pending = s.pending := by
  unfold State.gateEvaluate
  try dsimp only
  repeat' split
  all_goals simp

/-! ## gateDecide -/

@[simp] theorem State.gateDecide_powered : (s.gateDecide).powered = s.powered := by
  unfold State.gateDecide
  try dsimp only
  repeat' split
  all_goals simp

@[simp] theorem State.gateDecide_now : (s.gateDecide).now = s.now := by
  unfold State.gateDecide
  try dsimp only
  repeat' split
  all_goals simp

@[simp] theorem State.gateDecide_meas : (s.gateDecide).meas = s.meas := by
  unfold State.gateDecide
  try dsimp only
  repeat' split
  all_goals simp

@[simp] theorem State.gateDecide_lines : (s.gateDecide).lines = s.lines := by
  unfold State.gateDecide
  try dsimp only
  repeat' split
  all_goals simp

@[simp] theorem State.gateDecide_ctl : (s.gateDecide).ctl = s.ctl := by
  unfold State.gateDecide
  try dsimp only
  repeat' split
  all_goals simp

@[simp] theorem State.gateDecide_store : (s.gateDecide).store = s.store := by
  unfold State.gateDecide
  try dsimp only
  repeat' split
  all_goals simp

@[simp] theorem State.gateDecide_freeCount : (s.gateDecide).freeCount = s.freeCount := by
  unfold State.gateDecide
  try dsimp only
  repeat' split
  all_goals simp

@[simp] theorem State.gateDecide_pending : (s.gateDecide).pending = s.pending := by
  unfold State.gateDecide
  try dsimp only
  repeat' split
  all_goals simp

/-! ## gateArm -/

@[simp] theorem State.gateArm_powered (h : Nat) : (s.gateArm h).powered = s.powered := by
  unfold State.gateArm
  try dsimp only
  all_goals simp

@[simp] theorem State.gateArm_now (h : Nat) : (s.gateArm h).now = s.now := by
  unfold State.gateArm
  try dsimp only
  all_goals simp

@[simp] theorem State.gateArm_meas (h : Nat) : (s.gateArm h).meas = s.meas := by
  unfold State.gateArm
  try dsimp only
  all_goals simp

@[simp] theorem State.gateArm_lines (h : Nat) : (s.gateArm h).lines = s.lines := by
  unfold State.gateArm
  try dsimp only
  all_goals simp

@[simp] theorem State.gateArm_ctl (h : Nat) : (s.gateArm h).ctl = s.ctl := by
  unfold State.gateArm
  try dsimp only
  all_goals simp

@[simp] theorem State.gateArm_store (h : Nat) : (s.gateArm h).store = s.store := by
  unfold State.gateArm
  try dsimp only
  all_goals simp

@[simp] theorem State.gateArm_freeCount (h : Nat) : (s.gateArm h).freeCount = s.freeCount := by
  unfold State.gateArm
  try dsimp only
  all_goals simp

@[simp] theorem State.gateArm_pending (h : Nat) : (s.gateArm h).pending = s.pending := by
  unfold State.gateArm
  try dsimp only
  all_goals simp

/-! ## returnToHeld -/

@[simp] theorem State.returnToHeld_powered : (s.returnToHeld).powered = s.powered := by
  unfold State.returnToHeld
  try dsimp only
  repeat' split
  all_goals simp

@[simp] theorem State.returnToHeld_now : (s.returnToHeld).now = s.now := by
  unfold State.returnToHeld
  try dsimp only
  repeat' split
  all_goals simp

@[simp] theorem State.returnToHeld_link : (s.returnToHeld).link = s.link := by
  unfold State.returnToHeld
  try dsimp only
  repeat' split
  all_goals simp

@[simp] theorem State.returnToHeld_meas : (s.returnToHeld).meas = s.meas := by
  unfold State.returnToHeld
  try dsimp only
  repeat' split
  all_goals simp

@[simp] theorem State.returnToHeld_force : (s.returnToHeld).force = s.force := by
  unfold State.returnToHeld
  try dsimp only
  repeat' split
  all_goals simp

@[simp] theorem State.returnToHeld_dist : (s.returnToHeld).dist = s.dist := by
  unfold State.returnToHeld
  try dsimp only
  repeat' split
  all_goals simp

@[simp] theorem State.returnToHeld_chans : (s.returnToHeld).chans = s.chans := by
  unfold State.returnToHeld
  try dsimp only
  repeat' split
  all_goals simp

@[simp] theorem State.returnToHeld_gate : (s.returnToHeld).gate = s.gate := by
  unfold State.returnToHeld
  try dsimp only
  repeat' split
  all_goals simp

@[simp] theorem State.returnToHeld_lines : (s.returnToHeld).lines = s.lines := by
  unfold State.returnToHeld
  try dsimp only
  repeat' split
  all_goals simp

@[simp] theorem State.returnToHeld_ctl : (s.returnToHeld).ctl = s.ctl := by
  unfold State.returnToHeld
  try dsimp only
  repeat' split
  all_goals simp

@[simp] theorem State.returnToHeld_store : (s.returnToHeld).store = s.store := by
  unfold State.returnToHeld
  try dsimp only
  repeat' split
  all_goals simp

@[simp] theorem State.returnToHeld_freeCount : (s.returnToHeld).freeCount = s.freeCount := by
  unfold State.returnToHeld
  try dsimp only
  repeat' split
  all_goals simp

@[simp] theorem State.returnToHeld_pending : (s.returnToHeld).pending = s.pending := by
  unfold State.returnToHeld
  try dsimp only
  repeat' split
  all_goals simp

/-! ## releaseFails -/

@[simp] theorem State.releaseFails_powered (reason : Reason) : (s.releaseFails reason).powered = s.powered := by
  unfold State.releaseFails
  try dsimp only
  all_goals simp

@[simp] theorem State.releaseFails_now (reason : Reason) : (s.releaseFails reason).now = s.now := by
  unfold State.releaseFails
  try dsimp only
  all_goals simp

@[simp] theorem State.releaseFails_meas (reason : Reason) : (s.releaseFails reason).meas = s.meas := by
  unfold State.releaseFails
  try dsimp only
  all_goals simp

@[simp] theorem State.releaseFails_force (reason : Reason) : (s.releaseFails reason).force = s.force := by
  unfold State.releaseFails
  try dsimp only
  all_goals simp

@[simp] theorem State.releaseFails_dist (reason : Reason) : (s.releaseFails reason).dist = s.dist := by
  unfold State.releaseFails
  try dsimp only
  all_goals simp

@[simp] theorem State.releaseFails_chans (reason : Reason) : (s.releaseFails reason).chans = s.chans := by
  unfold State.releaseFails
  try dsimp only
  all_goals simp

@[simp] theorem State.releaseFails_lines (reason : Reason) : (s.releaseFails reason).lines = s.lines := by
  unfold State.releaseFails
  try dsimp only
  all_goals simp

@[simp] theorem State.releaseFails_ctl (reason : Reason) : (s.releaseFails reason).ctl = s.ctl := by
  unfold State.releaseFails
  try dsimp only
  all_goals simp

@[simp] theorem State.releaseFails_store (reason : Reason) : (s.releaseFails reason).store = s.store := by
  unfold State.releaseFails
  try dsimp only
  all_goals simp

@[simp] theorem State.releaseFails_freeCount (reason : Reason) : (s.releaseFails reason).freeCount = s.freeCount := by
  unfold State.releaseFails
  try dsimp only
  all_goals simp

@[simp] theorem State.releaseFails_pending (reason : Reason) : (s.releaseFails reason).pending = s.pending := by
  unfold State.releaseFails
  try dsimp only
  all_goals simp

/-! ## gateCancel -/

@[simp] theorem State.gateCancel_powered : (s.gateCancel).powered = s.powered := by
  unfold State.gateCancel
  try dsimp only
  repeat' split
  all_goals simp

@[simp] theorem State.gateCancel_now : (s.gateCancel).now = s.now := by
  unfold State.gateCancel
  try dsimp only
  repeat' split
  all_goals simp

@[simp] theorem State.gateCancel_meas : (s.gateCancel).meas = s.meas := by
  unfold State.gateCancel
  try dsimp only
  repeat' split
  all_goals simp

@[simp] theorem State.gateCancel_force : (s.gateCancel).force = s.force := by
  unfold State.gateCancel
  try dsimp only
  repeat' split
  all_goals simp

@[simp] theorem State.gateCancel_dist : (s.gateCancel).dist = s.dist := by
  unfold State.gateCancel
  try dsimp only
  repeat' split
  all_goals simp

@[simp] theorem State.gateCancel_chans : (s.gateCancel).chans = s.chans := by
  unfold State.gateCancel
  try dsimp only
  repeat' split
  all_goals simp

@[simp] theorem State.gateCancel_lines : (s.gateCancel).lines = s.lines := by
  unfold State.gateCancel
  try dsimp only
  repeat' split
  all_goals simp

@[simp] theorem State.gateCancel_ctl : (s.gateCancel).ctl = s.ctl := by
  unfold State.gateCancel
  try dsimp only
  repeat' split
  all_goals simp

@[simp] theorem State.gateCancel_store : (s.gateCancel).store = s.store := by
  unfold State.gateCancel
  try dsimp only
  repeat' split
  all_goals simp

@[simp] theorem State.gateCancel_freeCount : (s.gateCancel).freeCount = s.freeCount := by
  unfold State.gateCancel
  try dsimp only
  repeat' split
  all_goals simp

@[simp] theorem State.gateCancel_pending : (s.gateCancel).pending = s.pending := by
  unfold State.gateCancel
  try dsimp only
  repeat' split
  all_goals simp

/-! ## gateEnterRun -/

@[simp] theorem State.gateEnterRun_powered : (s.gateEnterRun).powered = s.powered := by
  unfold State.gateEnterRun
  try dsimp only
  repeat' split
  all_goals simp

@[simp] theorem State.gateEnterRun_now : (s.gateEnterRun).now = s.now := by
  unfold State.gateEnterRun
  try dsimp only
  repeat' split
  all_goals simp

@[simp] theorem State.gateEnterRun_meas : (s.gateEnterRun).meas = s.meas := by
  unfold State.gateEnterRun
  try dsimp only
  repeat' split
  all_goals simp

@[simp] theorem State.gateEnterRun_lines : (s.gateEnterRun).lines = s.lines := by
  unfold State.gateEnterRun
  try dsimp only
  repeat' split
  all_goals simp

@[simp] theorem State.gateEnterRun_ctl : (s.gateEnterRun).ctl = s.ctl := by
  unfold State.gateEnterRun
  try dsimp only
  repeat' split
  all_goals simp

@[simp] theorem State.gateEnterRun_store : (s.gateEnterRun).store = s.store := by
  unfold State.gateEnterRun
  try dsimp only
  repeat' split
  all_goals simp

@[simp] theorem State.gateEnterRun_freeCount : (s.gateEnterRun).freeCount = s.freeCount := by
  unfold State.gateEnterRun
  try dsimp only
  repeat' split
  all_goals simp

@[simp] theorem State.gateEnterRun_pending : (s.gateEnterRun).pending = s.pending := by
  unfold State.gateEnterRun
  try dsimp only
  repeat' split
  all_goals simp

/-! ## release -/

@[simp] theorem State.release_powered (r : Record) : (s.release r).powered = s.powered := by
  unfold State.release
  try dsimp only
  repeat' split
  all_goals simp

@[simp] theorem State.release_now (r : Record) : (s.release r).now = s.now := by
  unfold State.release
  try dsimp only
  repeat' split
  all_goals simp

@[simp] theorem State.release_meas (r : Record) : (s.release r).meas = s.meas := by
  unfold State.release
  try dsimp only
  repeat' split
  all_goals simp

@[simp] theorem State.release_lines (r : Record) : (s.release r).lines = s.lines := by
  unfold State.release
  try dsimp only
  repeat' split
  all_goals simp

@[simp] theorem State.release_ctl (r : Record) : (s.release r).ctl = s.ctl := by
  unfold State.release
  try dsimp only
  repeat' split
  all_goals simp

@[simp] theorem State.release_store (r : Record) : (s.release r).store = s.store := by
  unfold State.release
  try dsimp only
  repeat' split
  all_goals simp

@[simp] theorem State.release_freeCount (r : Record) : (s.release r).freeCount = s.freeCount := by
  unfold State.release
  try dsimp only
  repeat' split
  all_goals simp

@[simp] theorem State.release_pending (r : Record) : (s.release r).pending = s.pending := by
  unfold State.release
  try dsimp only
  repeat' split
  all_goals simp

/-! ## eligibilityChanged -/

@[simp] theorem State.eligibilityChanged_powered : (s.eligibilityChanged).powered = s.powered := by
  unfold State.eligibilityChanged
  try dsimp only
  all_goals simp

@[simp] theorem State.eligibilityChanged_now : (s.eligibilityChanged).now = s.now := by
  unfold State.eligibilityChanged
  try dsimp only
  all_goals simp

@[simp] theorem State.eligibilityChanged_lines : (s.eligibilityChanged).lines = s.lines := by
  unfold State.eligibilityChanged
  try dsimp only
  all_goals simp

@[simp] theorem State.eligibilityChanged_ctl : (s.eligibilityChanged).ctl = s.ctl := by
  unfold State.eligibilityChanged
  try dsimp only
  all_goals simp

@[simp] theorem State.eligibilityChanged_store : (s.eligibilityChanged).store = s.store := by
  unfold State.eligibilityChanged
  try dsimp only
  all_goals simp

@[simp] theorem State.eligibilityChanged_freeCount : (s.eligibilityChanged).freeCount = s.freeCount := by
  unfold State.eligibilityChanged
  try dsimp only
  all_goals simp

@[simp] theorem State.eligibilityChanged_pending : (s.eligibilityChanged).pending = s.pending := by
  unfold State.eligibilityChanged
  try dsimp only
  all_goals simp

/-! ## faultChannel -/

@[simp] theorem State.faultChannel_powered (c : Chan) (cause : FaultCause) : (s.faultChannel c cause).powered = s.powered := by
  unfold State.faultChannel
  try dsimp only
  all_goals simp

@[simp] theorem State.faultChannel_now (c : Chan) (cause : FaultCause) : (s.faultChannel c cause).now = s.now := by
  unfold State.faultChannel
  try dsimp only
  all_goals simp

@[simp] theorem State.faultChannel_meas (c : Chan) (cause : FaultCause) : (s.faultChannel c cause).meas = s.meas := by
  unfold State.faultChannel
  try dsimp only
  all_goals simp

@[simp] theorem State.faultChannel_lines (c : Chan) (cause : FaultCause) : (s.faultChannel c cause).lines = s.lines := by
  unfold State.faultChannel
  try dsimp only
  all_goals simp

@[simp] theorem State.faultChannel_ctl (c : Chan) (cause : FaultCause) : (s.faultChannel c cause).ctl = s.ctl := by
  unfold State.faultChannel
  try dsimp only
  all_goals simp

@[simp] theorem State.faultChannel_store (c : Chan) (cause : FaultCause) : (s.faultChannel c cause).store = s.store := by
  unfold State.faultChannel
  try dsimp only
  all_goals simp

@[simp] theorem State.faultChannel_freeCount (c : Chan) (cause : FaultCause) : (s.faultChannel c cause).freeCount = s.freeCount := by
  unfold State.faultChannel
  try dsimp only
  all_goals simp

@[simp] theorem State.faultChannel_pending (c : Chan) (cause : FaultCause) : (s.faultChannel c cause).pending = s.pending := by
  unfold State.faultChannel
  try dsimp only
  all_goals simp

/-! ## autoparkEvaluate -/

@[simp] theorem State.autoparkEvaluate_powered : (s.autoparkEvaluate).powered = s.powered := by
  unfold State.autoparkEvaluate
  try dsimp only
  repeat' split
  all_goals simp

@[simp] theorem State.autoparkEvaluate_now : (s.autoparkEvaluate).now = s.now := by
  unfold State.autoparkEvaluate
  try dsimp only
  repeat' split
  all_goals simp

@[simp] theorem State.autoparkEvaluate_meas : (s.autoparkEvaluate).meas = s.meas := by
  unfold State.autoparkEvaluate
  try dsimp only
  repeat' split
  all_goals simp

@[simp] theorem State.autoparkEvaluate_lines : (s.autoparkEvaluate).lines = s.lines := by
  unfold State.autoparkEvaluate
  try dsimp only
  repeat' split
  all_goals simp

@[simp] theorem State.autoparkEvaluate_ctl : (s.autoparkEvaluate).ctl = s.ctl := by
  unfold State.autoparkEvaluate
  try dsimp only
  repeat' split
  all_goals simp

@[simp] theorem State.autoparkEvaluate_store : (s.autoparkEvaluate).store = s.store := by
  unfold State.autoparkEvaluate
  try dsimp only
  repeat' split
  all_goals simp

@[simp] theorem State.autoparkEvaluate_freeCount : (s.autoparkEvaluate).freeCount = s.freeCount := by
  unfold State.autoparkEvaluate
  try dsimp only
  repeat' split
  all_goals simp

@[simp] theorem State.autoparkEvaluate_pending : (s.autoparkEvaluate).pending = s.pending := by
  unfold State.autoparkEvaluate
  try dsimp only
  repeat' split
  all_goals simp

/-! ## want -/

@[simp] theorem State.want_powered (w : PendantWant) : (s.want w).powered = s.powered := by
  unfold State.want
  try dsimp only
  all_goals simp

@[simp] theorem State.want_now (w : PendantWant) : (s.want w).now = s.now := by
  unfold State.want
  try dsimp only
  all_goals simp

@[simp] theorem State.want_link (w : PendantWant) : (s.want w).link = s.link := by
  unfold State.want
  try dsimp only
  all_goals simp

@[simp] theorem State.want_table (w : PendantWant) : (s.want w).table = s.table := by
  unfold State.want
  try dsimp only
  all_goals simp

@[simp] theorem State.want_meas (w : PendantWant) : (s.want w).meas = s.meas := by
  unfold State.want
  try dsimp only
  all_goals simp

@[simp] theorem State.want_force (w : PendantWant) : (s.want w).force = s.force := by
  unfold State.want
  try dsimp only
  all_goals simp

@[simp] theorem State.want_dist (w : PendantWant) : (s.want w).dist = s.dist := by
  unfold State.want
  try dsimp only
  all_goals simp

@[simp] theorem State.want_chans (w : PendantWant) : (s.want w).chans = s.chans := by
  unfold State.want
  try dsimp only
  all_goals simp

@[simp] theorem State.want_gate (w : PendantWant) : (s.want w).gate = s.gate := by
  unfold State.want
  try dsimp only
  all_goals simp

@[simp] theorem State.want_lines (w : PendantWant) : (s.want w).lines = s.lines := by
  unfold State.want
  try dsimp only
  all_goals simp

@[simp] theorem State.want_ctl (w : PendantWant) : (s.want w).ctl = s.ctl := by
  unfold State.want
  try dsimp only
  all_goals simp

@[simp] theorem State.want_store (w : PendantWant) : (s.want w).store = s.store := by
  unfold State.want
  try dsimp only
  all_goals simp

@[simp] theorem State.want_freeCount (w : PendantWant) : (s.want w).freeCount = s.freeCount := by
  unfold State.want
  try dsimp only
  all_goals simp

@[simp] theorem State.want_pending (w : PendantWant) : (s.want w).pending = s.pending := by
  unfold State.want
  try dsimp only
  all_goals simp

/-! ## pendantTry -/

@[simp] theorem State.pendantTry_powered (told : Bool) : (s.pendantTry told).powered = s.powered := by
  unfold State.pendantTry
  try dsimp only
  repeat' split
  all_goals simp

@[simp] theorem State.pendantTry_now (told : Bool) : (s.pendantTry told).now = s.now := by
  unfold State.pendantTry
  try dsimp only
  repeat' split
  all_goals simp

@[simp] theorem State.pendantTry_meas (told : Bool) : (s.pendantTry told).meas = s.meas := by
  unfold State.pendantTry
  try dsimp only
  repeat' split
  all_goals simp

@[simp] theorem State.pendantTry_lines (told : Bool) : (s.pendantTry told).lines = s.lines := by
  unfold State.pendantTry
  try dsimp only
  repeat' split
  all_goals simp

@[simp] theorem State.pendantTry_ctl (told : Bool) : (s.pendantTry told).ctl = s.ctl := by
  unfold State.pendantTry
  try dsimp only
  repeat' split
  all_goals simp

@[simp] theorem State.pendantTry_store (told : Bool) : (s.pendantTry told).store = s.store := by
  unfold State.pendantTry
  try dsimp only
  repeat' split
  all_goals simp

@[simp] theorem State.pendantTry_freeCount (told : Bool) : (s.pendantTry told).freeCount = s.freeCount := by
  unfold State.pendantTry
  try dsimp only
  repeat' split
  all_goals simp

@[simp] theorem State.pendantTry_pending (told : Bool) : (s.pendantTry told).pending = s.pending := by
  unfold State.pendantTry
  try dsimp only
  repeat' split
  all_goals simp

/-! ## pendantOpen -/

@[simp] theorem State.pendantOpen_powered (told : Bool) : (s.pendantOpen told).powered = s.powered := by
  unfold State.pendantOpen
  try dsimp only
  repeat' split
  all_goals simp

@[simp] theorem State.pendantOpen_now (told : Bool) : (s.pendantOpen told).now = s.now := by
  unfold State.pendantOpen
  try dsimp only
  repeat' split
  all_goals simp

@[simp] theorem State.pendantOpen_meas (told : Bool) : (s.pendantOpen told).meas = s.meas := by
  unfold State.pendantOpen
  try dsimp only
  repeat' split
  all_goals simp

@[simp] theorem State.pendantOpen_lines (told : Bool) : (s.pendantOpen told).lines = s.lines := by
  unfold State.pendantOpen
  try dsimp only
  repeat' split
  all_goals simp

@[simp] theorem State.pendantOpen_ctl (told : Bool) : (s.pendantOpen told).ctl = s.ctl := by
  unfold State.pendantOpen
  try dsimp only
  repeat' split
  all_goals simp

@[simp] theorem State.pendantOpen_store (told : Bool) : (s.pendantOpen told).store = s.store := by
  unfold State.pendantOpen
  try dsimp only
  repeat' split
  all_goals simp

@[simp] theorem State.pendantOpen_freeCount (told : Bool) : (s.pendantOpen told).freeCount = s.freeCount := by
  unfold State.pendantOpen
  try dsimp only
  repeat' split
  all_goals simp

@[simp] theorem State.pendantOpen_pending (told : Bool) : (s.pendantOpen told).pending = s.pending := by
  unfold State.pendantOpen
  try dsimp only
  repeat' split
  all_goals simp

/-! ## pendantStop -/

@[simp] theorem State.pendantStop_powered : (s.pendantStop).powered = s.powered := by
  unfold State.pendantStop
  try dsimp only
  repeat' split
  all_goals simp

@[simp] theorem State.pendantStop_now : (s.pendantStop).now = s.now := by
  unfold State.pendantStop
  try dsimp only
  repeat' split
  all_goals simp

@[simp] theorem State.pendantStop_meas : (s.pendantStop).meas = s.meas := by
  unfold State.pendantStop
  try dsimp only
  repeat' split
  all_goals simp

@[simp] theorem State.pendantStop_lines : (s.pendantStop).lines = s.lines := by
  unfold State.pendantStop
  try dsimp only
  repeat' split
  all_goals simp

@[simp] theorem State.pendantStop_ctl : (s.pendantStop).ctl = s.ctl := by
  unfold State.pendantStop
  try dsimp only
  repeat' split
  all_goals simp

@[simp] theorem State.pendantStop_store : (s.pendantStop).store = s.store := by
  unfold State.pendantStop
  try dsimp only
  repeat' split
  all_goals simp

@[simp] theorem State.pendantStop_freeCount : (s.pendantStop).freeCount = s.freeCount := by
  unfold State.pendantStop
  try dsimp only
  repeat' split
  all_goals simp

@[simp] theorem State.pendantStop_pending : (s.pendantStop).pending = s.pending := by
  unfold State.pendantStop
  try dsimp only
  repeat' split
  all_goals simp

/-! ## pendantRetry -/

@[simp] theorem State.pendantRetry_powered : (s.pendantRetry).powered = s.powered := by
  unfold State.pendantRetry
  try dsimp only
  repeat' split
  all_goals simp

@[simp] theorem State.pendantRetry_now : (s.pendantRetry).now = s.now := by
  unfold State.pendantRetry
  try dsimp only
  repeat' split
  all_goals simp

@[simp] theorem State.pendantRetry_meas : (s.pendantRetry).meas = s.meas := by
  unfold State.pendantRetry
  try dsimp only
  repeat' split
  all_goals simp

@[simp] theorem State.pendantRetry_lines : (s.pendantRetry).lines = s.lines := by
  unfold State.pendantRetry
  try dsimp only
  repeat' split
  all_goals simp

@[simp] theorem State.pendantRetry_ctl : (s.pendantRetry).ctl = s.ctl := by
  unfold State.pendantRetry
  try dsimp only
  repeat' split
  all_goals simp

@[simp] theorem State.pendantRetry_store : (s.pendantRetry).store = s.store := by
  unfold State.pendantRetry
  try dsimp only
  repeat' split
  all_goals simp

@[simp] theorem State.pendantRetry_freeCount : (s.pendantRetry).freeCount = s.freeCount := by
  unfold State.pendantRetry
  try dsimp only
  repeat' split
  all_goals simp

@[simp] theorem State.pendantRetry_pending : (s.pendantRetry).pending = s.pending := by
  unfold State.pendantRetry
  try dsimp only
  repeat' split
  all_goals simp

/-! ## conclude -/

@[simp] theorem State.conclude_powered (before : State) : (State.conclude before s).powered = s.powered := by
  unfold State.conclude
  try dsimp only
  repeat' split
  all_goals simp

@[simp] theorem State.conclude_now (before : State) : (State.conclude before s).now = s.now := by
  unfold State.conclude
  try dsimp only
  repeat' split
  all_goals simp

@[simp] theorem State.conclude_meas (before : State) : (State.conclude before s).meas = s.meas := by
  unfold State.conclude
  try dsimp only
  repeat' split
  all_goals simp

@[simp] theorem State.conclude_lines (before : State) : (State.conclude before s).lines = s.lines := by
  unfold State.conclude
  try dsimp only
  repeat' split
  all_goals simp

@[simp] theorem State.conclude_ctl (before : State) : (State.conclude before s).ctl = s.ctl := by
  unfold State.conclude
  try dsimp only
  repeat' split
  all_goals simp

@[simp] theorem State.conclude_store (before : State) : (State.conclude before s).store = s.store := by
  unfold State.conclude
  try dsimp only
  repeat' split
  all_goals simp

@[simp] theorem State.conclude_freeCount (before : State) : (State.conclude before s).freeCount = s.freeCount := by
  unfold State.conclude
  try dsimp only
  repeat' split
  all_goals simp

@[simp] theorem State.conclude_pending (before : State) : (State.conclude before s).pending = s.pending := by
  unfold State.conclude
  try dsimp only
  repeat' split
  all_goals simp

/-! ## overrideChannel -/

@[simp] theorem State.overrideChannel_powered (c : Chan) (o : Override) : (s.overrideChannel c o).powered = s.powered := by
  unfold State.overrideChannel
  try dsimp only
  repeat' split
  all_goals simp

@[simp] theorem State.overrideChannel_now (c : Chan) (o : Override) : (s.overrideChannel c o).now = s.now := by
  unfold State.overrideChannel
  try dsimp only
  repeat' split
  all_goals simp

@[simp] theorem State.overrideChannel_link (c : Chan) (o : Override) : (s.overrideChannel c o).link = s.link := by
  unfold State.overrideChannel
  try dsimp only
  repeat' split
  all_goals simp

@[simp] theorem State.overrideChannel_table (c : Chan) (o : Override) : (s.overrideChannel c o).table = s.table := by
  unfold State.overrideChannel
  try dsimp only
  repeat' split
  all_goals simp

@[simp] theorem State.overrideChannel_meas (c : Chan) (o : Override) : (s.overrideChannel c o).meas = s.meas := by
  unfold State.overrideChannel
  try dsimp only
  repeat' split
  all_goals simp

@[simp] theorem State.overrideChannel_force (c : Chan) (o : Override) : (s.overrideChannel c o).force = s.force := by
  unfold State.overrideChannel
  try dsimp only
  repeat' split
  all_goals simp

@[simp] theorem State.overrideChannel_dist (c : Chan) (o : Override) : (s.overrideChannel c o).dist = s.dist := by
  unfold State.overrideChannel
  try dsimp only
  repeat' split
  all_goals simp

@[simp] theorem State.overrideChannel_gate (c : Chan) (o : Override) : (s.overrideChannel c o).gate = s.gate := by
  unfold State.overrideChannel
  try dsimp only
  repeat' split
  all_goals simp

@[simp] theorem State.overrideChannel_mon (c : Chan) (o : Override) : (s.overrideChannel c o).mon = s.mon := by
  unfold State.overrideChannel
  try dsimp only
  repeat' split
  all_goals simp

@[simp] theorem State.overrideChannel_lines (c : Chan) (o : Override) : (s.overrideChannel c o).lines = s.lines := by
  unfold State.overrideChannel
  try dsimp only
  repeat' split
  all_goals simp

@[simp] theorem State.overrideChannel_ctl (c : Chan) (o : Override) : (s.overrideChannel c o).ctl = s.ctl := by
  unfold State.overrideChannel
  try dsimp only
  repeat' split
  all_goals simp

@[simp] theorem State.overrideChannel_store (c : Chan) (o : Override) : (s.overrideChannel c o).store = s.store := by
  unfold State.overrideChannel
  try dsimp only
  repeat' split
  all_goals simp

@[simp] theorem State.overrideChannel_freeCount (c : Chan) (o : Override) : (s.overrideChannel c o).freeCount = s.freeCount := by
  unfold State.overrideChannel
  try dsimp only
  repeat' split
  all_goals simp

@[simp] theorem State.overrideChannel_pending (c : Chan) (o : Override) : (s.overrideChannel c o).pending = s.pending := by
  unfold State.overrideChannel
  try dsimp only
  repeat' split
  all_goals simp

/-! ## firstStandstillInSafe -/

@[simp] theorem State.firstStandstillInSafe_powered : (s.firstStandstillInSafe).powered = s.powered := by
  unfold State.firstStandstillInSafe
  try dsimp only
  all_goals simp

@[simp] theorem State.firstStandstillInSafe_now : (s.firstStandstillInSafe).now = s.now := by
  unfold State.firstStandstillInSafe
  try dsimp only
  all_goals simp

@[simp] theorem State.firstStandstillInSafe_meas : (s.firstStandstillInSafe).meas = s.meas := by
  unfold State.firstStandstillInSafe
  try dsimp only
  all_goals simp

@[simp] theorem State.firstStandstillInSafe_lines : (s.firstStandstillInSafe).lines = s.lines := by
  unfold State.firstStandstillInSafe
  try dsimp only
  all_goals simp

@[simp] theorem State.firstStandstillInSafe_store : (s.firstStandstillInSafe).store = s.store := by
  unfold State.firstStandstillInSafe
  try dsimp only
  all_goals simp

@[simp] theorem State.firstStandstillInSafe_freeCount : (s.firstStandstillInSafe).freeCount = s.freeCount := by
  unfold State.firstStandstillInSafe
  try dsimp only
  all_goals simp

@[simp] theorem State.firstStandstillInSafe_pending : (s.firstStandstillInSafe).pending = s.pending := by
  unfold State.firstStandstillInSafe
  try dsimp only
  all_goals simp

/-! ## safeOverrides -/

@[simp] theorem State.overrideAll_powered (l : List Chan) (o : Override) :
    (l.foldl (fun t c => t.overrideChannel c o) s).powered = s.powered := by
  induction l generalizing s with
  | nil => rfl
  | cons c l ih => simp [ih]

@[simp] theorem State.safeOverrides_powered : (s.safeOverrides).powered = s.powered := by
  unfold State.safeOverrides
  split <;> simp [State.overrideAll_powered]

@[simp] theorem State.overrideAll_now (l : List Chan) (o : Override) :
    (l.foldl (fun t c => t.overrideChannel c o) s).now = s.now := by
  induction l generalizing s with
  | nil => rfl
  | cons c l ih => simp [ih]

@[simp] theorem State.safeOverrides_now : (s.safeOverrides).now = s.now := by
  unfold State.safeOverrides
  split <;> simp [State.overrideAll_now]

@[simp] theorem State.overrideAll_link (l : List Chan) (o : Override) :
    (l.foldl (fun t c => t.overrideChannel c o) s).link = s.link := by
  induction l generalizing s with
  | nil => rfl
  | cons c l ih => simp [ih]

@[simp] theorem State.overrideAll_table (l : List Chan) (o : Override) :
    (l.foldl (fun t c => t.overrideChannel c o) s).table = s.table := by
  induction l generalizing s with
  | nil => rfl
  | cons c l ih => simp [ih]

@[simp] theorem State.overrideAll_meas (l : List Chan) (o : Override) :
    (l.foldl (fun t c => t.overrideChannel c o) s).meas = s.meas := by
  induction l generalizing s with
  | nil => rfl
  | cons c l ih => simp [ih]

@[simp] theorem State.safeOverrides_meas : (s.safeOverrides).meas = s.meas := by
  unfold State.safeOverrides
  split <;> simp [State.overrideAll_meas]

@[simp] theorem State.overrideAll_force (l : List Chan) (o : Override) :
    (l.foldl (fun t c => t.overrideChannel c o) s).force = s.force := by
  induction l generalizing s with
  | nil => rfl
  | cons c l ih => simp [ih]

@[simp] theorem State.overrideAll_dist (l : List Chan) (o : Override) :
    (l.foldl (fun t c => t.overrideChannel c o) s).dist = s.dist := by
  induction l generalizing s with
  | nil => rfl
  | cons c l ih => simp [ih]

@[simp] theorem State.overrideAll_gate (l : List Chan) (o : Override) :
    (l.foldl (fun t c => t.overrideChannel c o) s).gate = s.gate := by
  induction l generalizing s with
  | nil => rfl
  | cons c l ih => simp [ih]

@[simp] theorem State.overrideAll_mon (l : List Chan) (o : Override) :
    (l.foldl (fun t c => t.overrideChannel c o) s).mon = s.mon := by
  induction l generalizing s with
  | nil => rfl
  | cons c l ih => simp [ih]

@[simp] theorem State.overrideAll_lines (l : List Chan) (o : Override) :
    (l.foldl (fun t c => t.overrideChannel c o) s).lines = s.lines := by
  induction l generalizing s with
  | nil => rfl
  | cons c l ih => simp [ih]

@[simp] theorem State.safeOverrides_lines : (s.safeOverrides).lines = s.lines := by
  unfold State.safeOverrides
  split <;> simp [State.overrideAll_lines]

@[simp] theorem State.overrideAll_ctl (l : List Chan) (o : Override) :
    (l.foldl (fun t c => t.overrideChannel c o) s).ctl = s.ctl := by
  induction l generalizing s with
  | nil => rfl
  | cons c l ih => simp [ih]

@[simp] theorem State.overrideAll_store (l : List Chan) (o : Override) :
    (l.foldl (fun t c => t.overrideChannel c o) s).store = s.store := by
  induction l generalizing s with
  | nil => rfl
  | cons c l ih => simp [ih]

@[simp] theorem State.safeOverrides_store : (s.safeOverrides).store = s.store := by
  unfold State.safeOverrides
  split <;> simp [State.overrideAll_store]

@[simp] theorem State.overrideAll_freeCount (l : List Chan) (o : Override) :
    (l.foldl (fun t c => t.overrideChannel c o) s).freeCount = s.freeCount := by
  induction l generalizing s with
  | nil => rfl
  | cons c l ih => simp [ih]

@[simp] theorem State.safeOverrides_freeCount : (s.safeOverrides).freeCount = s.freeCount := by
  unfold State.safeOverrides
  split <;> simp [State.overrideAll_freeCount]

@[simp] theorem State.overrideAll_pending (l : List Chan) (o : Override) :
    (l.foldl (fun t c => t.overrideChannel c o) s).pending = s.pending := by
  induction l generalizing s with
  | nil => rfl
  | cons c l ih => simp [ih]

@[simp] theorem State.safeOverrides_pending : (s.safeOverrides).pending = s.pending := by
  unfold State.safeOverrides
  split <;> simp [State.overrideAll_pending]

/-! ## enterSafe -/

@[simp] theorem State.enterSafe_powered : (s.enterSafe).powered = s.powered := by
  unfold State.enterSafe
  try dsimp only
  all_goals simp

@[simp] theorem State.enterSafe_now : (s.enterSafe).now = s.now := by
  unfold State.enterSafe
  try dsimp only
  all_goals simp

@[simp] theorem State.enterSafe_meas : (s.enterSafe).meas = s.meas := by
  unfold State.enterSafe
  try dsimp only
  all_goals simp

@[simp] theorem State.enterSafe_lines : (s.enterSafe).lines = s.lines := by
  unfold State.enterSafe
  try dsimp only
  all_goals simp

@[simp] theorem State.enterSafe_store : (s.enterSafe).store = s.store := by
  unfold State.enterSafe
  try dsimp only
  all_goals simp

@[simp] theorem State.enterSafe_freeCount : (s.enterSafe).freeCount = s.freeCount := by
  unfold State.enterSafe
  try dsimp only
  all_goals simp

@[simp] theorem State.enterSafe_pending : (s.enterSafe).pending = s.pending := by
  unfold State.enterSafe
  try dsimp only
  all_goals simp

/-! ## enterDegraded -/

@[simp] theorem State.enterDegraded_powered : (s.enterDegraded).powered = s.powered := by
  unfold State.enterDegraded
  try dsimp only
  all_goals simp

@[simp] theorem State.enterDegraded_now : (s.enterDegraded).now = s.now := by
  unfold State.enterDegraded
  try dsimp only
  all_goals simp

@[simp] theorem State.enterDegraded_meas : (s.enterDegraded).meas = s.meas := by
  unfold State.enterDegraded
  try dsimp only
  all_goals simp

@[simp] theorem State.enterDegraded_lines : (s.enterDegraded).lines = s.lines := by
  unfold State.enterDegraded
  try dsimp only
  all_goals simp

@[simp] theorem State.enterDegraded_store : (s.enterDegraded).store = s.store := by
  unfold State.enterDegraded
  try dsimp only
  all_goals simp

@[simp] theorem State.enterDegraded_freeCount : (s.enterDegraded).freeCount = s.freeCount := by
  unfold State.enterDegraded
  try dsimp only
  all_goals simp

@[simp] theorem State.enterDegraded_pending : (s.enterDegraded).pending = s.pending := by
  unfold State.enterDegraded
  try dsimp only
  all_goals simp

/-! ## supervisionFault -/

@[simp] theorem State.supervisionFault_powered : (s.supervisionFault).powered = s.powered := by
  unfold State.supervisionFault
  try dsimp only
  repeat' split
  all_goals simp

@[simp] theorem State.supervisionFault_now : (s.supervisionFault).now = s.now := by
  unfold State.supervisionFault
  try dsimp only
  repeat' split
  all_goals simp

@[simp] theorem State.supervisionFault_meas : (s.supervisionFault).meas = s.meas := by
  unfold State.supervisionFault
  try dsimp only
  repeat' split
  all_goals simp

@[simp] theorem State.supervisionFault_lines : (s.supervisionFault).lines = s.lines := by
  unfold State.supervisionFault
  try dsimp only
  repeat' split
  all_goals simp

@[simp] theorem State.supervisionFault_store : (s.supervisionFault).store = s.store := by
  unfold State.supervisionFault
  try dsimp only
  repeat' split
  all_goals simp

@[simp] theorem State.supervisionFault_freeCount : (s.supervisionFault).freeCount = s.freeCount := by
  unfold State.supervisionFault
  try dsimp only
  repeat' split
  all_goals simp

@[simp] theorem State.supervisionFault_pending : (s.supervisionFault).pending = s.pending := by
  unfold State.supervisionFault
  try dsimp only
  repeat' split
  all_goals simp

/-! ## enterRun -/

@[simp] theorem State.enterRun_powered : (s.enterRun).powered = s.powered := by
  unfold State.enterRun
  try dsimp only
  all_goals simp

@[simp] theorem State.enterRun_now : (s.enterRun).now = s.now := by
  unfold State.enterRun
  try dsimp only
  all_goals simp

@[simp] theorem State.enterRun_meas : (s.enterRun).meas = s.meas := by
  unfold State.enterRun
  try dsimp only
  all_goals simp

@[simp] theorem State.enterRun_lines : (s.enterRun).lines = s.lines := by
  unfold State.enterRun
  try dsimp only
  all_goals simp

@[simp] theorem State.enterRun_store : (s.enterRun).store = s.store := by
  unfold State.enterRun
  try dsimp only
  all_goals simp

@[simp] theorem State.enterRun_freeCount : (s.enterRun).freeCount = s.freeCount := by
  unfold State.enterRun
  try dsimp only
  all_goals simp

@[simp] theorem State.enterRun_pending : (s.enterRun).pending = s.pending := by
  unfold State.enterRun
  try dsimp only
  all_goals simp

/-! ## advanceToken -/

@[simp] theorem State.advanceToken_powered : (s.advanceToken).powered = s.powered := by
  unfold State.advanceToken
  try dsimp only
  all_goals simp

@[simp] theorem State.advanceToken_now : (s.advanceToken).now = s.now := by
  unfold State.advanceToken
  try dsimp only
  all_goals simp

@[simp] theorem State.advanceToken_link : (s.advanceToken).link = s.link := by
  unfold State.advanceToken
  try dsimp only
  all_goals simp

@[simp] theorem State.advanceToken_table : (s.advanceToken).table = s.table := by
  unfold State.advanceToken
  try dsimp only
  all_goals simp

@[simp] theorem State.advanceToken_meas : (s.advanceToken).meas = s.meas := by
  unfold State.advanceToken
  try dsimp only
  all_goals simp

@[simp] theorem State.advanceToken_force : (s.advanceToken).force = s.force := by
  unfold State.advanceToken
  try dsimp only
  all_goals simp

@[simp] theorem State.advanceToken_dist : (s.advanceToken).dist = s.dist := by
  unfold State.advanceToken
  try dsimp only
  all_goals simp

@[simp] theorem State.advanceToken_chans : (s.advanceToken).chans = s.chans := by
  unfold State.advanceToken
  try dsimp only
  all_goals simp

@[simp] theorem State.advanceToken_gate : (s.advanceToken).gate = s.gate := by
  unfold State.advanceToken
  try dsimp only
  all_goals simp

@[simp] theorem State.advanceToken_mon : (s.advanceToken).mon = s.mon := by
  unfold State.advanceToken
  try dsimp only
  all_goals simp

@[simp] theorem State.advanceToken_lines : (s.advanceToken).lines = s.lines := by
  unfold State.advanceToken
  try dsimp only
  all_goals simp

@[simp] theorem State.advanceToken_store : (s.advanceToken).store = s.store := by
  unfold State.advanceToken
  try dsimp only
  all_goals simp

@[simp] theorem State.advanceToken_freeCount : (s.advanceToken).freeCount = s.freeCount := by
  unfold State.advanceToken
  try dsimp only
  all_goals simp

@[simp] theorem State.advanceToken_pending : (s.advanceToken).pending = s.pending := by
  unfold State.advanceToken
  try dsimp only
  all_goals simp

/-! ## clockFailure -/

@[simp] theorem State.clockFailure_powered : (s.clockFailure).powered = s.powered := by
  unfold State.clockFailure
  try dsimp only
  repeat' split
  all_goals simp

@[simp] theorem State.clockFailure_now : (s.clockFailure).now = s.now := by
  unfold State.clockFailure
  try dsimp only
  repeat' split
  all_goals simp

@[simp] theorem State.clockFailure_meas : (s.clockFailure).meas = s.meas := by
  unfold State.clockFailure
  try dsimp only
  repeat' split
  all_goals simp

@[simp] theorem State.clockFailure_lines : (s.clockFailure).lines = s.lines := by
  unfold State.clockFailure
  try dsimp only
  repeat' split
  all_goals simp

@[simp] theorem State.clockFailure_store : (s.clockFailure).store = s.store := by
  unfold State.clockFailure
  try dsimp only
  repeat' split
  all_goals simp

@[simp] theorem State.clockFailure_freeCount : (s.clockFailure).freeCount = s.freeCount := by
  unfold State.clockFailure
  try dsimp only
  repeat' split
  all_goals simp

@[simp] theorem State.clockFailure_pending : (s.clockFailure).pending = s.pending := by
  unfold State.clockFailure
  try dsimp only
  repeat' split
  all_goals simp

/-! ## markCollected -/

@[simp] theorem State.markCollected_powered (b : Bool) : (s.markCollected b).powered = s.powered := by
  unfold State.markCollected
  try dsimp only
  all_goals simp

@[simp] theorem State.markCollected_now (b : Bool) : (s.markCollected b).now = s.now := by
  unfold State.markCollected
  try dsimp only
  all_goals simp

@[simp] theorem State.markCollected_link (b : Bool) : (s.markCollected b).link = s.link := by
  unfold State.markCollected
  try dsimp only
  all_goals simp

@[simp] theorem State.markCollected_meas (b : Bool) : (s.markCollected b).meas = s.meas := by
  unfold State.markCollected
  try dsimp only
  all_goals simp

@[simp] theorem State.markCollected_force (b : Bool) : (s.markCollected b).force = s.force := by
  unfold State.markCollected
  try dsimp only
  all_goals simp

@[simp] theorem State.markCollected_dist (b : Bool) : (s.markCollected b).dist = s.dist := by
  unfold State.markCollected
  try dsimp only
  all_goals simp

@[simp] theorem State.markCollected_chans (b : Bool) : (s.markCollected b).chans = s.chans := by
  unfold State.markCollected
  try dsimp only
  all_goals simp

@[simp] theorem State.markCollected_gate (b : Bool) : (s.markCollected b).gate = s.gate := by
  unfold State.markCollected
  try dsimp only
  all_goals simp

@[simp] theorem State.markCollected_mon (b : Bool) : (s.markCollected b).mon = s.mon := by
  unfold State.markCollected
  try dsimp only
  all_goals simp

@[simp] theorem State.markCollected_lines (b : Bool) : (s.markCollected b).lines = s.lines := by
  unfold State.markCollected
  try dsimp only
  all_goals simp

@[simp] theorem State.markCollected_ctl (b : Bool) : (s.markCollected b).ctl = s.ctl := by
  unfold State.markCollected
  try dsimp only
  all_goals simp

@[simp] theorem State.markCollected_store (b : Bool) : (s.markCollected b).store = s.store := by
  unfold State.markCollected
  try dsimp only
  all_goals simp

@[simp] theorem State.markCollected_freeCount (b : Bool) : (s.markCollected b).freeCount = s.freeCount := by
  unfold State.markCollected
  try dsimp only
  all_goals simp

@[simp] theorem State.markCollected_pending (b : Bool) : (s.markCollected b).pending = s.pending := by
  unfold State.markCollected
  try dsimp only
  all_goals simp

/-! ## firstRollaway -/

@[simp] theorem State.firstRollaway_powered : (s.firstRollaway).powered = s.powered := by
  unfold State.firstRollaway
  try dsimp only
  all_goals simp

@[simp] theorem State.firstRollaway_now : (s.firstRollaway).now = s.now := by
  unfold State.firstRollaway
  try dsimp only
  all_goals simp

@[simp] theorem State.firstRollaway_meas : (s.firstRollaway).meas = s.meas := by
  unfold State.firstRollaway
  try dsimp only
  all_goals simp

@[simp] theorem State.firstRollaway_lines : (s.firstRollaway).lines = s.lines := by
  unfold State.firstRollaway
  try dsimp only
  all_goals simp

@[simp] theorem State.firstRollaway_ctl : (s.firstRollaway).ctl = s.ctl := by
  unfold State.firstRollaway
  try dsimp only
  all_goals simp

@[simp] theorem State.firstRollaway_store : (s.firstRollaway).store = s.store := by
  unfold State.firstRollaway
  try dsimp only
  all_goals simp

@[simp] theorem State.firstRollaway_freeCount : (s.firstRollaway).freeCount = s.freeCount := by
  unfold State.firstRollaway
  try dsimp only
  all_goals simp

@[simp] theorem State.firstRollaway_pending : (s.firstRollaway).pending = s.pending := by
  unfold State.firstRollaway
  try dsimp only
  all_goals simp

/-! ## secondRollaway -/

@[simp] theorem State.secondRollaway_powered : (s.secondRollaway).powered = s.powered := by
  unfold State.secondRollaway
  try dsimp only
  all_goals simp

@[simp] theorem State.secondRollaway_now : (s.secondRollaway).now = s.now := by
  unfold State.secondRollaway
  try dsimp only
  all_goals simp

@[simp] theorem State.secondRollaway_meas : (s.secondRollaway).meas = s.meas := by
  unfold State.secondRollaway
  try dsimp only
  all_goals simp

@[simp] theorem State.secondRollaway_force : (s.secondRollaway).force = s.force := by
  unfold State.secondRollaway
  try dsimp only
  all_goals simp

@[simp] theorem State.secondRollaway_dist : (s.secondRollaway).dist = s.dist := by
  unfold State.secondRollaway
  try dsimp only
  all_goals simp

@[simp] theorem State.secondRollaway_chans : (s.secondRollaway).chans = s.chans := by
  unfold State.secondRollaway
  try dsimp only
  all_goals simp

@[simp] theorem State.secondRollaway_gate : (s.secondRollaway).gate = s.gate := by
  unfold State.secondRollaway
  try dsimp only
  all_goals simp

@[simp] theorem State.secondRollaway_lines : (s.secondRollaway).lines = s.lines := by
  unfold State.secondRollaway
  try dsimp only
  all_goals simp

@[simp] theorem State.secondRollaway_ctl : (s.secondRollaway).ctl = s.ctl := by
  unfold State.secondRollaway
  try dsimp only
  all_goals simp

@[simp] theorem State.secondRollaway_store : (s.secondRollaway).store = s.store := by
  unfold State.secondRollaway
  try dsimp only
  all_goals simp

@[simp] theorem State.secondRollaway_freeCount : (s.secondRollaway).freeCount = s.freeCount := by
  unfold State.secondRollaway
  try dsimp only
  all_goals simp

@[simp] theorem State.secondRollaway_pending : (s.secondRollaway).pending = s.pending := by
  unfold State.secondRollaway
  try dsimp only
  all_goals simp

/-! ## limitPulse -/

@[simp] theorem State.limitPulse_powered : (s.limitPulse).powered = s.powered := by
  unfold State.limitPulse
  try dsimp only
  repeat' split
  all_goals simp

@[simp] theorem State.limitPulse_now : (s.limitPulse).now = s.now := by
  unfold State.limitPulse
  try dsimp only
  repeat' split
  all_goals simp

@[simp] theorem State.limitPulse_meas : (s.limitPulse).meas = s.meas := by
  unfold State.limitPulse
  try dsimp only
  repeat' split
  all_goals simp

@[simp] theorem State.limitPulse_lines : (s.limitPulse).lines = s.lines := by
  unfold State.limitPulse
  try dsimp only
  repeat' split
  all_goals simp

@[simp] theorem State.limitPulse_ctl : (s.limitPulse).ctl = s.ctl := by
  unfold State.limitPulse
  try dsimp only
  repeat' split
  all_goals simp

@[simp] theorem State.limitPulse_store : (s.limitPulse).store = s.store := by
  unfold State.limitPulse
  try dsimp only
  repeat' split
  all_goals simp

@[simp] theorem State.limitPulse_freeCount : (s.limitPulse).freeCount = s.freeCount := by
  unfold State.limitPulse
  try dsimp only
  repeat' split
  all_goals simp

@[simp] theorem State.limitPulse_pending : (s.limitPulse).pending = s.pending := by
  unfold State.limitPulse
  try dsimp only
  repeat' split
  all_goals simp

/-! ## pendantAsRead -/

@[simp] theorem State.pendantAsRead_powered : (s.pendantAsRead).powered = s.powered := by
  unfold State.pendantAsRead
  try dsimp only
  repeat' split
  all_goals simp

@[simp] theorem State.pendantAsRead_now : (s.pendantAsRead).now = s.now := by
  unfold State.pendantAsRead
  try dsimp only
  repeat' split
  all_goals simp

@[simp] theorem State.pendantAsRead_meas : (s.pendantAsRead).meas = s.meas := by
  unfold State.pendantAsRead
  try dsimp only
  repeat' split
  all_goals simp

@[simp] theorem State.pendantAsRead_lines : (s.pendantAsRead).lines = s.lines := by
  unfold State.pendantAsRead
  try dsimp only
  repeat' split
  all_goals simp

@[simp] theorem State.pendantAsRead_ctl : (s.pendantAsRead).ctl = s.ctl := by
  unfold State.pendantAsRead
  try dsimp only
  repeat' split
  all_goals simp

@[simp] theorem State.pendantAsRead_store : (s.pendantAsRead).store = s.store := by
  unfold State.pendantAsRead
  try dsimp only
  repeat' split
  all_goals simp

@[simp] theorem State.pendantAsRead_freeCount : (s.pendantAsRead).freeCount = s.freeCount := by
  unfold State.pendantAsRead
  try dsimp only
  repeat' split
  all_goals simp

@[simp] theorem State.pendantAsRead_pending : (s.pendantAsRead).pending = s.pending := by
  unfold State.pendantAsRead
  try dsimp only
  repeat' split
  all_goals simp

/-! ## resetSequence -/

@[simp] theorem State.resetSequence_powered : (s.resetSequence).powered = s.powered := by
  unfold State.resetSequence
  try dsimp only
  all_goals simp

@[simp] theorem State.resetSequence_now : (s.resetSequence).now = s.now := by
  unfold State.resetSequence
  try dsimp only
  all_goals simp

@[simp] theorem State.resetSequence_freeCount : (s.resetSequence).freeCount = s.freeCount := by
  unfold State.resetSequence
  try dsimp only
  all_goals simp

@[simp] theorem State.resetSequence_pending : (s.resetSequence).pending = s.pending := by
  unfold State.resetSequence
  try dsimp only
  all_goals simp

/-! ## softReset -/

@[simp] theorem State.softReset_powered : (s.softReset).powered = s.powered := by
  unfold State.softReset
  try dsimp only
  all_goals simp

@[simp] theorem State.softReset_now : (s.softReset).now = s.now := by
  unfold State.softReset
  try dsimp only
  all_goals simp

@[simp] theorem State.softReset_freeCount : (s.softReset).freeCount = s.freeCount := by
  unfold State.softReset
  try dsimp only
  all_goals simp

@[simp] theorem State.softReset_pending : (s.softReset).pending = s.pending := by
  unfold State.softReset
  try dsimp only
  all_goals simp

/-! ## losePower -/

@[simp] theorem State.losePower_now : (s.losePower).now = s.now := by
  unfold State.losePower
  try dsimp only
  repeat' split
  all_goals simp

@[simp] theorem State.losePower_link : (s.losePower).link = s.link := by
  unfold State.losePower
  try dsimp only
  repeat' split
  all_goals simp

@[simp] theorem State.losePower_table : (s.losePower).table = s.table := by
  unfold State.losePower
  try dsimp only
  repeat' split
  all_goals simp

@[simp] theorem State.losePower_meas : (s.losePower).meas = s.meas := by
  unfold State.losePower
  try dsimp only
  repeat' split
  all_goals simp

@[simp] theorem State.losePower_force : (s.losePower).force = s.force := by
  unfold State.losePower
  try dsimp only
  repeat' split
  all_goals simp

@[simp] theorem State.losePower_dist : (s.losePower).dist = s.dist := by
  unfold State.losePower
  try dsimp only
  repeat' split
  all_goals simp

@[simp] theorem State.losePower_chans : (s.losePower).chans = s.chans := by
  unfold State.losePower
  try dsimp only
  repeat' split
  all_goals simp

@[simp] theorem State.losePower_gate : (s.losePower).gate = s.gate := by
  unfold State.losePower
  try dsimp only
  repeat' split
  all_goals simp

@[simp] theorem State.losePower_mon : (s.losePower).mon = s.mon := by
  unfold State.losePower
  try dsimp only
  repeat' split
  all_goals simp

@[simp] theorem State.losePower_lines : (s.losePower).lines = s.lines := by
  unfold State.losePower
  try dsimp only
  repeat' split
  all_goals simp

@[simp] theorem State.losePower_ctl : (s.losePower).ctl = s.ctl := by
  unfold State.losePower
  try dsimp only
  repeat' split
  all_goals simp

@[simp] theorem State.losePower_pending : (s.losePower).pending = s.pending := by
  unfold State.losePower
  try dsimp only
  repeat' split
  all_goals simp

/-! ## powerOn -/

@[simp] theorem State.powerOn_now : (s.powerOn).now = s.now := by
  unfold State.powerOn
  try dsimp only
  repeat' split
  all_goals simp

@[simp] theorem State.powerOn_pending : (s.powerOn).pending = s.pending := by
  unfold State.powerOn
  try dsimp only
  repeat' split
  all_goals simp

/-! ## enterSleep -/

@[simp] theorem State.enterSleep_powered : (s.enterSleep).powered = s.powered := by
  unfold State.enterSleep
  try dsimp only
  all_goals simp

@[simp] theorem State.enterSleep_now : (s.enterSleep).now = s.now := by
  unfold State.enterSleep
  try dsimp only
  all_goals simp

@[simp] theorem State.enterSleep_meas : (s.enterSleep).meas = { s.meas with sampleTimer := .stopped } := by
  unfold State.enterSleep
  try dsimp only
  all_goals simp

@[simp] theorem State.enterSleep_force : (s.enterSleep).force = s.force := by
  unfold State.enterSleep
  try dsimp only
  all_goals simp

@[simp] theorem State.enterSleep_dist : (s.enterSleep).dist = s.dist := by
  unfold State.enterSleep
  try dsimp only
  all_goals simp

@[simp] theorem State.enterSleep_gate : (s.enterSleep).gate = s.gate := by
  unfold State.enterSleep
  try dsimp only
  all_goals simp

@[simp] theorem State.enterSleep_store : (s.enterSleep).store = s.store := by
  unfold State.enterSleep
  try dsimp only
  all_goals simp

@[simp] theorem State.enterSleep_freeCount : (s.enterSleep).freeCount = s.freeCount := by
  unfold State.enterSleep
  try dsimp only
  all_goals simp

@[simp] theorem State.enterSleep_pending : (s.enterSleep).pending = s.pending := by
  unfold State.enterSleep
  try dsimp only
  all_goals simp

/-! ## wakeUp -/

@[simp] theorem State.wakeUp_powered : (s.wakeUp).powered = s.powered := by
  unfold State.wakeUp
  try dsimp only
  all_goals simp

@[simp] theorem State.wakeUp_now : (s.wakeUp).now = s.now := by
  unfold State.wakeUp
  try dsimp only
  all_goals simp

@[simp] theorem State.wakeUp_store : (s.wakeUp).store = s.store := by
  unfold State.wakeUp
  try dsimp only
  all_goals simp

@[simp] theorem State.wakeUp_freeCount : (s.wakeUp).freeCount = s.freeCount := by
  unfold State.wakeUp
  try dsimp only
  all_goals simp

@[simp] theorem State.wakeUp_pending : (s.wakeUp).pending = s.pending := by
  unfold State.wakeUp
  try dsimp only
  all_goals simp

/-! ## acceptKeepalive -/

@[simp] theorem State.acceptKeepalive_powered : (s.acceptKeepalive).powered = s.powered := by
  unfold State.acceptKeepalive
  try dsimp only
  all_goals simp

@[simp] theorem State.acceptKeepalive_now : (s.acceptKeepalive).now = s.now := by
  unfold State.acceptKeepalive
  try dsimp only
  all_goals simp

@[simp] theorem State.acceptKeepalive_table : (s.acceptKeepalive).table = s.table := by
  unfold State.acceptKeepalive
  try dsimp only
  all_goals simp

@[simp] theorem State.acceptKeepalive_meas : (s.acceptKeepalive).meas = s.meas := by
  unfold State.acceptKeepalive
  try dsimp only
  all_goals simp

@[simp] theorem State.acceptKeepalive_force : (s.acceptKeepalive).force = s.force := by
  unfold State.acceptKeepalive
  try dsimp only
  all_goals simp

@[simp] theorem State.acceptKeepalive_dist : (s.acceptKeepalive).dist = s.dist := by
  unfold State.acceptKeepalive
  try dsimp only
  all_goals simp

@[simp] theorem State.acceptKeepalive_chans : (s.acceptKeepalive).chans = s.chans := by
  unfold State.acceptKeepalive
  try dsimp only
  all_goals simp

@[simp] theorem State.acceptKeepalive_gate : (s.acceptKeepalive).gate = s.gate := by
  unfold State.acceptKeepalive
  try dsimp only
  all_goals simp

@[simp] theorem State.acceptKeepalive_mon : (s.acceptKeepalive).mon = s.mon := by
  unfold State.acceptKeepalive
  try dsimp only
  all_goals simp

@[simp] theorem State.acceptKeepalive_lines : (s.acceptKeepalive).lines = s.lines := by
  unfold State.acceptKeepalive
  try dsimp only
  all_goals simp

@[simp] theorem State.acceptKeepalive_store : (s.acceptKeepalive).store = s.store := by
  unfold State.acceptKeepalive
  try dsimp only
  all_goals simp

@[simp] theorem State.acceptKeepalive_freeCount : (s.acceptKeepalive).freeCount = s.freeCount := by
  unfold State.acceptKeepalive
  try dsimp only
  all_goals simp

@[simp] theorem State.acceptKeepalive_pending : (s.acceptKeepalive).pending = s.pending := by
  unfold State.acceptKeepalive
  try dsimp only
  all_goals simp

/-! ## awaitResync -/

@[simp] theorem State.awaitResync_powered : (s.awaitResync).powered = s.powered := by
  unfold State.awaitResync
  try dsimp only
  all_goals simp

@[simp] theorem State.awaitResync_now : (s.awaitResync).now = s.now := by
  unfold State.awaitResync
  try dsimp only
  all_goals simp

@[simp] theorem State.awaitResync_link : (s.awaitResync).link = s.link := by
  unfold State.awaitResync
  try dsimp only
  all_goals simp

@[simp] theorem State.awaitResync_table : (s.awaitResync).table = s.table := by
  unfold State.awaitResync
  try dsimp only
  all_goals simp

@[simp] theorem State.awaitResync_meas : (s.awaitResync).meas = s.meas := by
  unfold State.awaitResync
  try dsimp only
  all_goals simp

@[simp] theorem State.awaitResync_force : (s.awaitResync).force = s.force := by
  unfold State.awaitResync
  try dsimp only
  all_goals simp

@[simp] theorem State.awaitResync_dist : (s.awaitResync).dist = s.dist := by
  unfold State.awaitResync
  try dsimp only
  all_goals simp

@[simp] theorem State.awaitResync_chans : (s.awaitResync).chans = s.chans := by
  unfold State.awaitResync
  try dsimp only
  all_goals simp

@[simp] theorem State.awaitResync_gate : (s.awaitResync).gate = s.gate := by
  unfold State.awaitResync
  try dsimp only
  all_goals simp

@[simp] theorem State.awaitResync_mon : (s.awaitResync).mon = s.mon := by
  unfold State.awaitResync
  try dsimp only
  all_goals simp

@[simp] theorem State.awaitResync_lines : (s.awaitResync).lines = s.lines := by
  unfold State.awaitResync
  try dsimp only
  all_goals simp

@[simp] theorem State.awaitResync_store : (s.awaitResync).store = s.store := by
  unfold State.awaitResync
  try dsimp only
  all_goals simp

@[simp] theorem State.awaitResync_freeCount : (s.awaitResync).freeCount = s.freeCount := by
  unfold State.awaitResync
  try dsimp only
  all_goals simp

@[simp] theorem State.awaitResync_pending : (s.awaitResync).pending = s.pending := by
  unfold State.awaitResync
  try dsimp only
  all_goals simp

/-! ## collect -/

@[simp] theorem State.collect_powered : (s.collect).powered = s.powered := by
  unfold State.collect
  try dsimp only
  repeat' split
  all_goals simp

@[simp] theorem State.collect_now : (s.collect).now = s.now := by
  unfold State.collect
  try dsimp only
  repeat' split
  all_goals simp

@[simp] theorem State.collect_meas : (s.collect).meas = s.meas := by
  unfold State.collect
  try dsimp only
  repeat' split
  all_goals simp

@[simp] theorem State.collect_force : (s.collect).force = s.force := by
  unfold State.collect
  try dsimp only
  repeat' split
  all_goals simp

@[simp] theorem State.collect_dist : (s.collect).dist = s.dist := by
  unfold State.collect
  try dsimp only
  repeat' split
  all_goals simp

@[simp] theorem State.collect_chans : (s.collect).chans = s.chans := by
  unfold State.collect
  try dsimp only
  repeat' split
  all_goals simp

@[simp] theorem State.collect_gate : (s.collect).gate = s.gate := by
  unfold State.collect
  try dsimp only
  repeat' split
  all_goals simp

@[simp] theorem State.collect_mon : (s.collect).mon = s.mon := by
  unfold State.collect
  try dsimp only
  repeat' split
  all_goals simp

@[simp] theorem State.collect_lines : (s.collect).lines = s.lines := by
  unfold State.collect
  try dsimp only
  repeat' split
  all_goals simp

@[simp] theorem State.collect_ctl : (s.collect).ctl = s.ctl := by
  unfold State.collect
  try dsimp only
  repeat' split
  all_goals simp

@[simp] theorem State.collect_store : (s.collect).store = s.store := by
  unfold State.collect
  try dsimp only
  repeat' split
  all_goals simp

@[simp] theorem State.collect_freeCount : (s.collect).freeCount = s.freeCount := by
  unfold State.collect
  try dsimp only
  repeat' split
  all_goals simp

@[simp] theorem State.collect_pending : (s.collect).pending = s.pending := by
  unfold State.collect
  try dsimp only
  repeat' split
  all_goals simp

/-! ## amend -/

@[simp] theorem State.amend_powered (r : Record) (cls : HoldClass) (act : ExpiryAction) : (s.amend r cls act).powered = s.powered := by
  unfold State.amend
  try dsimp only
  repeat' split
  all_goals simp

@[simp] theorem State.amend_now (r : Record) (cls : HoldClass) (act : ExpiryAction) : (s.amend r cls act).now = s.now := by
  unfold State.amend
  try dsimp only
  repeat' split
  all_goals simp

@[simp] theorem State.amend_meas (r : Record) (cls : HoldClass) (act : ExpiryAction) : (s.amend r cls act).meas = s.meas := by
  unfold State.amend
  try dsimp only
  repeat' split
  all_goals simp

@[simp] theorem State.amend_gate (r : Record) (cls : HoldClass) (act : ExpiryAction) : (s.amend r cls act).gate = s.gate := by
  unfold State.amend
  try dsimp only
  repeat' split
  all_goals simp

@[simp] theorem State.amend_lines (r : Record) (cls : HoldClass) (act : ExpiryAction) : (s.amend r cls act).lines = s.lines := by
  unfold State.amend
  try dsimp only
  repeat' split
  all_goals simp

@[simp] theorem State.amend_ctl (r : Record) (cls : HoldClass) (act : ExpiryAction) : (s.amend r cls act).ctl = s.ctl := by
  unfold State.amend
  try dsimp only
  repeat' split
  all_goals simp

@[simp] theorem State.amend_store (r : Record) (cls : HoldClass) (act : ExpiryAction) : (s.amend r cls act).store = s.store := by
  unfold State.amend
  try dsimp only
  repeat' split
  all_goals simp

@[simp] theorem State.amend_freeCount (r : Record) (cls : HoldClass) (act : ExpiryAction) : (s.amend r cls act).freeCount = s.freeCount := by
  unfold State.amend
  try dsimp only
  repeat' split
  all_goals simp

@[simp] theorem State.amend_pending (r : Record) (cls : HoldClass) (act : ExpiryAction) : (s.amend r cls act).pending = s.pending := by
  unfold State.amend
  try dsimp only
  repeat' split
  all_goals simp

/-! ## convertToPark -/

@[simp] theorem State.convertToPark_powered (h : Nat) : (s.convertToPark h).powered = s.powered := by
  unfold State.convertToPark
  try dsimp only
  all_goals simp

@[simp] theorem State.convertToPark_now (h : Nat) : (s.convertToPark h).now = s.now := by
  unfold State.convertToPark
  try dsimp only
  all_goals simp

@[simp] theorem State.convertToPark_meas (h : Nat) : (s.convertToPark h).meas = s.meas := by
  unfold State.convertToPark
  try dsimp only
  all_goals simp

@[simp] theorem State.convertToPark_gate (h : Nat) : (s.convertToPark h).gate = s.gate := by
  unfold State.convertToPark
  try dsimp only
  all_goals simp

@[simp] theorem State.convertToPark_lines (h : Nat) : (s.convertToPark h).lines = s.lines := by
  unfold State.convertToPark
  try dsimp only
  all_goals simp

@[simp] theorem State.convertToPark_ctl (h : Nat) : (s.convertToPark h).ctl = s.ctl := by
  unfold State.convertToPark
  try dsimp only
  all_goals simp

@[simp] theorem State.convertToPark_store (h : Nat) : (s.convertToPark h).store = s.store := by
  unfold State.convertToPark
  try dsimp only
  all_goals simp

@[simp] theorem State.convertToPark_freeCount (h : Nat) : (s.convertToPark h).freeCount = s.freeCount := by
  unfold State.convertToPark
  try dsimp only
  all_goals simp

@[simp] theorem State.convertToPark_pending (h : Nat) : (s.convertToPark h).pending = s.pending := by
  unfold State.convertToPark
  try dsimp only
  all_goals simp

/-! ## retireExpired -/

@[simp] theorem State.retireExpired_powered (h : Nat) : (s.retireExpired h).powered = s.powered := by
  unfold State.retireExpired
  try dsimp only
  all_goals simp

@[simp] theorem State.retireExpired_now (h : Nat) : (s.retireExpired h).now = s.now := by
  unfold State.retireExpired
  try dsimp only
  all_goals simp

@[simp] theorem State.retireExpired_meas (h : Nat) : (s.retireExpired h).meas = s.meas := by
  unfold State.retireExpired
  try dsimp only
  all_goals simp

@[simp] theorem State.retireExpired_gate (h : Nat) : (s.retireExpired h).gate = s.gate := by
  unfold State.retireExpired
  try dsimp only
  all_goals simp

@[simp] theorem State.retireExpired_lines (h : Nat) : (s.retireExpired h).lines = s.lines := by
  unfold State.retireExpired
  try dsimp only
  all_goals simp

@[simp] theorem State.retireExpired_ctl (h : Nat) : (s.retireExpired h).ctl = s.ctl := by
  unfold State.retireExpired
  try dsimp only
  all_goals simp

@[simp] theorem State.retireExpired_store (h : Nat) : (s.retireExpired h).store = s.store := by
  unfold State.retireExpired
  try dsimp only
  all_goals simp

@[simp] theorem State.retireExpired_freeCount (h : Nat) : (s.retireExpired h).freeCount = s.freeCount := by
  unfold State.retireExpired
  try dsimp only
  all_goals simp

@[simp] theorem State.retireExpired_pending (h : Nat) : (s.retireExpired h).pending = s.pending := by
  unfold State.retireExpired
  try dsimp only
  all_goals simp

/-! ## expire -/

@[simp] theorem State.expire_powered (h : Nat) : (s.expire h).powered = s.powered := by
  unfold State.expire
  split <;> simp

@[simp] theorem State.expire_now (h : Nat) : (s.expire h).now = s.now := by
  unfold State.expire
  split <;> simp

@[simp] theorem State.expire_meas (h : Nat) : (s.expire h).meas = s.meas := by
  unfold State.expire
  split <;> simp

@[simp] theorem State.expire_gate (h : Nat) : (s.expire h).gate = s.gate := by
  unfold State.expire
  split <;> simp

@[simp] theorem State.expire_lines (h : Nat) : (s.expire h).lines = s.lines := by
  unfold State.expire
  split <;> simp

@[simp] theorem State.expire_ctl (h : Nat) : (s.expire h).ctl = s.ctl := by
  unfold State.expire
  split <;> simp

@[simp] theorem State.expire_store (h : Nat) : (s.expire h).store = s.store := by
  unfold State.expire
  split <;> simp

@[simp] theorem State.expire_freeCount (h : Nat) : (s.expire h).freeCount = s.freeCount := by
  unfold State.expire
  split <;> simp

@[simp] theorem State.expire_pending (h : Nat) : (s.expire h).pending = s.pending := by
  unfold State.expire
  split <;> simp

/-! ## measure -/

@[simp] theorem State.measure_powered (r : SampleSet) : (s.measure r).powered = s.powered := by
  unfold State.measure
  try dsimp only
  repeat' split
  all_goals simp

@[simp] theorem State.measure_now (r : SampleSet) : (s.measure r).now = s.now := by
  unfold State.measure
  try dsimp only
  repeat' split
  all_goals simp

@[simp] theorem State.measure_table (r : SampleSet) : (s.measure r).table = s.table := by
  unfold State.measure
  try dsimp only
  repeat' split
  all_goals simp

@[simp] theorem State.measure_force (r : SampleSet) : (s.measure r).force = s.force := by
  unfold State.measure
  try dsimp only
  repeat' split
  all_goals simp

@[simp] theorem State.measure_dist (r : SampleSet) : (s.measure r).dist = s.dist := by
  unfold State.measure
  try dsimp only
  repeat' split
  all_goals simp

@[simp] theorem State.measure_chans (r : SampleSet) : (s.measure r).chans = s.chans := by
  unfold State.measure
  try dsimp only
  repeat' split
  all_goals simp

@[simp] theorem State.measure_gate (r : SampleSet) : (s.measure r).gate = s.gate := by
  unfold State.measure
  try dsimp only
  repeat' split
  all_goals simp

@[simp] theorem State.measure_mon (r : SampleSet) : (s.measure r).mon = s.mon := by
  unfold State.measure
  try dsimp only
  repeat' split
  all_goals simp

@[simp] theorem State.measure_lines (r : SampleSet) : (s.measure r).lines = s.lines := by
  unfold State.measure
  try dsimp only
  repeat' split
  all_goals simp

@[simp] theorem State.measure_ctl (r : SampleSet) : (s.measure r).ctl = s.ctl := by
  unfold State.measure
  try dsimp only
  repeat' split
  all_goals simp

@[simp] theorem State.measure_store (r : SampleSet) : (s.measure r).store = s.store := by
  unfold State.measure
  try dsimp only
  repeat' split
  all_goals simp

@[simp] theorem State.measure_freeCount (r : SampleSet) : (s.measure r).freeCount = s.freeCount := by
  unfold State.measure
  try dsimp only
  repeat' split
  all_goals simp

@[simp] theorem State.measure_pending (r : SampleSet) : (s.measure r).pending = s.pending := by
  unfold State.measure
  try dsimp only
  repeat' split
  all_goals simp

/-! ## testPressures -/

@[simp] theorem State.testPressures_powered : (s.testPressures).powered = s.powered := by
  unfold State.testPressures
  try dsimp only
  all_goals simp

@[simp] theorem State.testPressures_now : (s.testPressures).now = s.now := by
  unfold State.testPressures
  try dsimp only
  all_goals simp

@[simp] theorem State.testPressures_link : (s.testPressures).link = s.link := by
  unfold State.testPressures
  try dsimp only
  all_goals simp

@[simp] theorem State.testPressures_table : (s.testPressures).table = s.table := by
  unfold State.testPressures
  try dsimp only
  all_goals simp

@[simp] theorem State.testPressures_meas : (s.testPressures).meas = s.meas := by
  unfold State.testPressures
  try dsimp only
  all_goals simp

@[simp] theorem State.testPressures_force : (s.testPressures).force = s.force := by
  unfold State.testPressures
  try dsimp only
  all_goals simp

@[simp] theorem State.testPressures_dist : (s.testPressures).dist = s.dist := by
  unfold State.testPressures
  try dsimp only
  all_goals simp

@[simp] theorem State.testPressures_gate : (s.testPressures).gate = s.gate := by
  unfold State.testPressures
  try dsimp only
  all_goals simp

@[simp] theorem State.testPressures_mon : (s.testPressures).mon = s.mon := by
  unfold State.testPressures
  try dsimp only
  all_goals simp

@[simp] theorem State.testPressures_lines : (s.testPressures).lines = s.lines := by
  unfold State.testPressures
  try dsimp only
  all_goals simp

@[simp] theorem State.testPressures_ctl : (s.testPressures).ctl = s.ctl := by
  unfold State.testPressures
  try dsimp only
  all_goals simp

@[simp] theorem State.testPressures_store : (s.testPressures).store = s.store := by
  unfold State.testPressures
  try dsimp only
  all_goals simp

@[simp] theorem State.testPressures_freeCount : (s.testPressures).freeCount = s.freeCount := by
  unfold State.testPressures
  try dsimp only
  all_goals simp

@[simp] theorem State.testPressures_pending : (s.testPressures).pending = s.pending := by
  unfold State.testPressures
  try dsimp only
  all_goals simp

/-! ## sensorFaults -/

@[simp] theorem State.sensorFaults_powered (before : Six Sensor) : (s.sensorFaults before).powered = s.powered := by
  unfold State.sensorFaults
  generalize allChans = l
  induction l generalizing s with
  | nil => rfl
  | cons c l ih => rw [List.foldl_cons, ih]; split <;> simp

@[simp] theorem State.sensorFaults_now (before : Six Sensor) : (s.sensorFaults before).now = s.now := by
  unfold State.sensorFaults
  generalize allChans = l
  induction l generalizing s with
  | nil => rfl
  | cons c l ih => rw [List.foldl_cons, ih]; split <;> simp

@[simp] theorem State.sensorFaults_meas (before : Six Sensor) : (s.sensorFaults before).meas = s.meas := by
  unfold State.sensorFaults
  generalize allChans = l
  induction l generalizing s with
  | nil => rfl
  | cons c l ih => rw [List.foldl_cons, ih]; split <;> simp

@[simp] theorem State.sensorFaults_lines (before : Six Sensor) : (s.sensorFaults before).lines = s.lines := by
  unfold State.sensorFaults
  generalize allChans = l
  induction l generalizing s with
  | nil => rfl
  | cons c l ih => rw [List.foldl_cons, ih]; split <;> simp

@[simp] theorem State.sensorFaults_ctl (before : Six Sensor) : (s.sensorFaults before).ctl = s.ctl := by
  unfold State.sensorFaults
  generalize allChans = l
  induction l generalizing s with
  | nil => rfl
  | cons c l ih => rw [List.foldl_cons, ih]; split <;> simp

@[simp] theorem State.sensorFaults_store (before : Six Sensor) : (s.sensorFaults before).store = s.store := by
  unfold State.sensorFaults
  generalize allChans = l
  induction l generalizing s with
  | nil => rfl
  | cons c l ih => rw [List.foldl_cons, ih]; split <;> simp

@[simp] theorem State.sensorFaults_freeCount (before : Six Sensor) : (s.sensorFaults before).freeCount = s.freeCount := by
  unfold State.sensorFaults
  generalize allChans = l
  induction l generalizing s with
  | nil => rfl
  | cons c l ih => rw [List.foldl_cons, ih]; split <;> simp

@[simp] theorem State.sensorFaults_pending (before : Six Sensor) : (s.sensorFaults before).pending = s.pending := by
  unfold State.sensorFaults
  generalize allChans = l
  induction l generalizing s with
  | nil => rfl
  | cons c l ih => rw [List.foldl_cons, ih]; split <;> simp

/-! ## channelsOnSample -/

@[simp] theorem State.channelsOnSample_powered (before : Six Sensor) : (s.channelsOnSample before).powered = s.powered := by
  unfold State.channelsOnSample
  try dsimp only
  all_goals simp

@[simp] theorem State.channelsOnSample_now (before : Six Sensor) : (s.channelsOnSample before).now = s.now := by
  unfold State.channelsOnSample
  try dsimp only
  all_goals simp

@[simp] theorem State.channelsOnSample_meas (before : Six Sensor) : (s.channelsOnSample before).meas = s.meas := by
  unfold State.channelsOnSample
  try dsimp only
  all_goals simp

@[simp] theorem State.channelsOnSample_lines (before : Six Sensor) : (s.channelsOnSample before).lines = s.lines := by
  unfold State.channelsOnSample
  try dsimp only
  all_goals simp

@[simp] theorem State.channelsOnSample_ctl (before : Six Sensor) : (s.channelsOnSample before).ctl = s.ctl := by
  unfold State.channelsOnSample
  try dsimp only
  all_goals simp

@[simp] theorem State.channelsOnSample_store (before : Six Sensor) : (s.channelsOnSample before).store = s.store := by
  unfold State.channelsOnSample
  try dsimp only
  all_goals simp

@[simp] theorem State.channelsOnSample_freeCount (before : Six Sensor) : (s.channelsOnSample before).freeCount = s.freeCount := by
  unfold State.channelsOnSample
  try dsimp only
  all_goals simp

@[simp] theorem State.channelsOnSample_pending (before : Six Sensor) : (s.channelsOnSample before).pending = s.pending := by
  unfold State.channelsOnSample
  try dsimp only
  all_goals simp

/-! ## supplyOnSample -/

@[simp] theorem State.supplyOnSample_powered (lowChanged first : Bool) : (s.supplyOnSample lowChanged first).powered = s.powered := by
  unfold State.supplyOnSample
  try dsimp only
  repeat' split
  all_goals simp

@[simp] theorem State.supplyOnSample_now (lowChanged first : Bool) : (s.supplyOnSample lowChanged first).now = s.now := by
  unfold State.supplyOnSample
  try dsimp only
  repeat' split
  all_goals simp

@[simp] theorem State.supplyOnSample_meas (lowChanged first : Bool) : (s.supplyOnSample lowChanged first).meas = s.meas := by
  unfold State.supplyOnSample
  try dsimp only
  repeat' split
  all_goals simp

@[simp] theorem State.supplyOnSample_force (lowChanged first : Bool) : (s.supplyOnSample lowChanged first).force = s.force := by
  unfold State.supplyOnSample
  try dsimp only
  repeat' split
  all_goals simp

@[simp] theorem State.supplyOnSample_gate (lowChanged first : Bool) : (s.supplyOnSample lowChanged first).gate = s.gate := by
  unfold State.supplyOnSample
  try dsimp only
  repeat' split
  all_goals simp

@[simp] theorem State.supplyOnSample_lines (lowChanged first : Bool) : (s.supplyOnSample lowChanged first).lines = s.lines := by
  unfold State.supplyOnSample
  try dsimp only
  repeat' split
  all_goals simp

@[simp] theorem State.supplyOnSample_ctl (lowChanged first : Bool) : (s.supplyOnSample lowChanged first).ctl = s.ctl := by
  unfold State.supplyOnSample
  try dsimp only
  repeat' split
  all_goals simp

@[simp] theorem State.supplyOnSample_store (lowChanged first : Bool) : (s.supplyOnSample lowChanged first).store = s.store := by
  unfold State.supplyOnSample
  try dsimp only
  repeat' split
  all_goals simp

@[simp] theorem State.supplyOnSample_freeCount (lowChanged first : Bool) : (s.supplyOnSample lowChanged first).freeCount = s.freeCount := by
  unfold State.supplyOnSample
  try dsimp only
  repeat' split
  all_goals simp

@[simp] theorem State.supplyOnSample_pending (lowChanged first : Bool) : (s.supplyOnSample lowChanged first).pending = s.pending := by
  unfold State.supplyOnSample
  try dsimp only
  repeat' split
  all_goals simp

/-! ## sample -/

@[simp] theorem State.sample_powered (r : SampleSet) : (s.sample r).powered = s.powered := by
  unfold State.sample
  try dsimp only
  repeat' split
  all_goals simp

@[simp] theorem State.sample_now (r : SampleSet) : (s.sample r).now = s.now := by
  unfold State.sample
  try dsimp only
  repeat' split
  all_goals simp

@[simp] theorem State.sample_lines (r : SampleSet) : (s.sample r).lines = s.lines := by
  unfold State.sample
  try dsimp only
  repeat' split
  all_goals simp

@[simp] theorem State.sample_ctl (r : SampleSet) : (s.sample r).ctl = s.ctl := by
  unfold State.sample
  try dsimp only
  repeat' split
  all_goals simp

@[simp] theorem State.sample_store (r : SampleSet) : (s.sample r).store = s.store := by
  unfold State.sample
  try dsimp only
  repeat' split
  all_goals simp

@[simp] theorem State.sample_freeCount (r : SampleSet) : (s.sample r).freeCount = s.freeCount := by
  unfold State.sample
  try dsimp only
  repeat' split
  all_goals simp

@[simp] theorem State.sample_pending (r : SampleSet) : (s.sample r).pending = s.pending := by
  unfold State.sample
  try dsimp only
  repeat' split
  all_goals simp

/-! ## driveEndsWatch -/

@[simp] theorem State.driveEndsWatch_powered : (s.driveEndsWatch).powered = s.powered := by
  unfold State.driveEndsWatch
  try dsimp only
  repeat' split
  all_goals simp

@[simp] theorem State.driveEndsWatch_now : (s.driveEndsWatch).now = s.now := by
  unfold State.driveEndsWatch
  try dsimp only
  repeat' split
  all_goals simp

@[simp] theorem State.driveEndsWatch_link : (s.driveEndsWatch).link = s.link := by
  unfold State.driveEndsWatch
  try dsimp only
  repeat' split
  all_goals simp

@[simp] theorem State.driveEndsWatch_table : (s.driveEndsWatch).table = s.table := by
  unfold State.driveEndsWatch
  try dsimp only
  repeat' split
  all_goals simp

@[simp] theorem State.driveEndsWatch_meas : (s.driveEndsWatch).meas = s.meas := by
  unfold State.driveEndsWatch
  try dsimp only
  repeat' split
  all_goals simp

@[simp] theorem State.driveEndsWatch_force : (s.driveEndsWatch).force = s.force := by
  unfold State.driveEndsWatch
  try dsimp only
  repeat' split
  all_goals simp

@[simp] theorem State.driveEndsWatch_dist : (s.driveEndsWatch).dist = s.dist := by
  unfold State.driveEndsWatch
  try dsimp only
  repeat' split
  all_goals simp

@[simp] theorem State.driveEndsWatch_chans : (s.driveEndsWatch).chans = s.chans := by
  unfold State.driveEndsWatch
  try dsimp only
  repeat' split
  all_goals simp

@[simp] theorem State.driveEndsWatch_gate : (s.driveEndsWatch).gate = s.gate := by
  unfold State.driveEndsWatch
  try dsimp only
  repeat' split
  all_goals simp

@[simp] theorem State.driveEndsWatch_lines : (s.driveEndsWatch).lines = s.lines := by
  unfold State.driveEndsWatch
  try dsimp only
  repeat' split
  all_goals simp

@[simp] theorem State.driveEndsWatch_ctl : (s.driveEndsWatch).ctl = s.ctl := by
  unfold State.driveEndsWatch
  try dsimp only
  repeat' split
  all_goals simp

@[simp] theorem State.driveEndsWatch_store : (s.driveEndsWatch).store = s.store := by
  unfold State.driveEndsWatch
  try dsimp only
  repeat' split
  all_goals simp

@[simp] theorem State.driveEndsWatch_freeCount : (s.driveEndsWatch).freeCount = s.freeCount := by
  unfold State.driveEndsWatch
  try dsimp only
  repeat' split
  all_goals simp

@[simp] theorem State.driveEndsWatch_pending : (s.driveEndsWatch).pending = s.pending := by
  unfold State.driveEndsWatch
  try dsimp only
  repeat' split
  all_goals simp

/-! ## takeDrive -/

@[simp] theorem State.takeDrive_powered (force : Int) (gear : Gear) : (s.takeDrive force gear).powered = s.powered := by
  unfold State.takeDrive
  try dsimp only
  all_goals simp

@[simp] theorem State.takeDrive_now (force : Int) (gear : Gear) : (s.takeDrive force gear).now = s.now := by
  unfold State.takeDrive
  try dsimp only
  all_goals simp

@[simp] theorem State.takeDrive_lines (force : Int) (gear : Gear) : (s.takeDrive force gear).lines = s.lines := by
  unfold State.takeDrive
  try dsimp only
  all_goals simp

@[simp] theorem State.takeDrive_ctl (force : Int) (gear : Gear) : (s.takeDrive force gear).ctl = s.ctl := by
  unfold State.takeDrive
  try dsimp only
  all_goals simp

@[simp] theorem State.takeDrive_store (force : Int) (gear : Gear) : (s.takeDrive force gear).store = s.store := by
  unfold State.takeDrive
  try dsimp only
  all_goals simp

@[simp] theorem State.takeDrive_freeCount (force : Int) (gear : Gear) : (s.takeDrive force gear).freeCount = s.freeCount := by
  unfold State.takeDrive
  try dsimp only
  all_goals simp

@[simp] theorem State.takeDrive_pending (force : Int) (gear : Gear) : (s.takeDrive force gear).pending = s.pending := by
  unfold State.takeDrive
  try dsimp only
  all_goals simp

/-! ## restore -/

@[simp] theorem State.restore_powered (c : Chan) : (s.restore c).powered = s.powered := by
  unfold State.restore
  try dsimp only
  repeat' split
  all_goals simp

@[simp] theorem State.restore_now (c : Chan) : (s.restore c).now = s.now := by
  unfold State.restore
  try dsimp only
  repeat' split
  all_goals simp

@[simp] theorem State.restore_lines (c : Chan) : (s.restore c).lines = s.lines := by
  unfold State.restore
  try dsimp only
  repeat' split
  all_goals simp

@[simp] theorem State.restore_ctl (c : Chan) : (s.restore c).ctl = s.ctl := by
  unfold State.restore
  try dsimp only
  repeat' split
  all_goals simp

@[simp] theorem State.restore_store (c : Chan) : (s.restore c).store = s.store := by
  unfold State.restore
  try dsimp only
  repeat' split
  all_goals simp

@[simp] theorem State.restore_freeCount (c : Chan) : (s.restore c).freeCount = s.freeCount := by
  unfold State.restore
  try dsimp only
  repeat' split
  all_goals simp

@[simp] theorem State.restore_pending (c : Chan) : (s.restore c).pending = s.pending := by
  unfold State.restore
  try dsimp only
  repeat' split
  all_goals simp

/-! ## pwmStart -/

@[simp] theorem State.pwmStart_powered (c : Chan) : (s.pwmStart c).powered = s.powered := by
  unfold State.pwmStart
  try dsimp only
  repeat' split
  all_goals simp

@[simp] theorem State.pwmStart_now (c : Chan) : (s.pwmStart c).now = s.now := by
  unfold State.pwmStart
  try dsimp only
  repeat' split
  all_goals simp

@[simp] theorem State.pwmStart_link (c : Chan) : (s.pwmStart c).link = s.link := by
  unfold State.pwmStart
  try dsimp only
  repeat' split
  all_goals simp

@[simp] theorem State.pwmStart_meas (c : Chan) : (s.pwmStart c).meas = s.meas := by
  unfold State.pwmStart
  try dsimp only
  repeat' split
  all_goals simp

@[simp] theorem State.pwmStart_force (c : Chan) : (s.pwmStart c).force = s.force := by
  unfold State.pwmStart
  try dsimp only
  repeat' split
  all_goals simp

@[simp] theorem State.pwmStart_dist (c : Chan) : (s.pwmStart c).dist = s.dist := by
  unfold State.pwmStart
  try dsimp only
  repeat' split
  all_goals simp

@[simp] theorem State.pwmStart_gate (c : Chan) : (s.pwmStart c).gate = s.gate := by
  unfold State.pwmStart
  try dsimp only
  repeat' split
  all_goals simp

@[simp] theorem State.pwmStart_lines (c : Chan) : (s.pwmStart c).lines = s.lines := by
  unfold State.pwmStart
  try dsimp only
  repeat' split
  all_goals simp

@[simp] theorem State.pwmStart_ctl (c : Chan) : (s.pwmStart c).ctl = s.ctl := by
  unfold State.pwmStart
  try dsimp only
  repeat' split
  all_goals simp

@[simp] theorem State.pwmStart_store (c : Chan) : (s.pwmStart c).store = s.store := by
  unfold State.pwmStart
  try dsimp only
  repeat' split
  all_goals simp

@[simp] theorem State.pwmStart_freeCount (c : Chan) : (s.pwmStart c).freeCount = s.freeCount := by
  unfold State.pwmStart
  try dsimp only
  repeat' split
  all_goals simp

@[simp] theorem State.pwmStart_pending (c : Chan) : (s.pwmStart c).pending = s.pending := by
  unfold State.pwmStart
  try dsimp only
  repeat' split
  all_goals simp

/-! ## currentChange -/

@[simp] theorem State.currentChange_powered (c : Chan) (present : Bool) : (s.currentChange c present).powered = s.powered := by
  unfold State.currentChange
  try dsimp only
  all_goals simp

@[simp] theorem State.currentChange_now (c : Chan) (present : Bool) : (s.currentChange c present).now = s.now := by
  unfold State.currentChange
  try dsimp only
  all_goals simp

@[simp] theorem State.currentChange_link (c : Chan) (present : Bool) : (s.currentChange c present).link = s.link := by
  unfold State.currentChange
  try dsimp only
  all_goals simp

@[simp] theorem State.currentChange_meas (c : Chan) (present : Bool) : (s.currentChange c present).meas = s.meas := by
  unfold State.currentChange
  try dsimp only
  all_goals simp

@[simp] theorem State.currentChange_force (c : Chan) (present : Bool) : (s.currentChange c present).force = s.force := by
  unfold State.currentChange
  try dsimp only
  all_goals simp

@[simp] theorem State.currentChange_dist (c : Chan) (present : Bool) : (s.currentChange c present).dist = s.dist := by
  unfold State.currentChange
  try dsimp only
  all_goals simp

@[simp] theorem State.currentChange_gate (c : Chan) (present : Bool) : (s.currentChange c present).gate = s.gate := by
  unfold State.currentChange
  try dsimp only
  all_goals simp

@[simp] theorem State.currentChange_lines (c : Chan) (present : Bool) : (s.currentChange c present).lines = s.lines := by
  unfold State.currentChange
  try dsimp only
  all_goals simp

@[simp] theorem State.currentChange_ctl (c : Chan) (present : Bool) : (s.currentChange c present).ctl = s.ctl := by
  unfold State.currentChange
  try dsimp only
  all_goals simp

@[simp] theorem State.currentChange_store (c : Chan) (present : Bool) : (s.currentChange c present).store = s.store := by
  unfold State.currentChange
  try dsimp only
  all_goals simp

@[simp] theorem State.currentChange_freeCount (c : Chan) (present : Bool) : (s.currentChange c present).freeCount = s.freeCount := by
  unfold State.currentChange
  try dsimp only
  all_goals simp

@[simp] theorem State.currentChange_pending (c : Chan) (present : Bool) : (s.currentChange c present).pending = s.pending := by
  unfold State.currentChange
  try dsimp only
  all_goals simp

/-! ## liftOne -/

@[simp] theorem State.liftOne_powered (raised : Bool) (c : Chan) : (s.liftOne raised c).powered = s.powered := by
  unfold State.liftOne
  try dsimp only
  repeat' split
  all_goals simp

@[simp] theorem State.liftOne_now (raised : Bool) (c : Chan) : (s.liftOne raised c).now = s.now := by
  unfold State.liftOne
  try dsimp only
  repeat' split
  all_goals simp

@[simp] theorem State.liftOne_lines (raised : Bool) (c : Chan) : (s.liftOne raised c).lines = s.lines := by
  unfold State.liftOne
  try dsimp only
  repeat' split
  all_goals simp

@[simp] theorem State.liftOne_ctl (raised : Bool) (c : Chan) : (s.liftOne raised c).ctl = s.ctl := by
  unfold State.liftOne
  try dsimp only
  repeat' split
  all_goals simp

@[simp] theorem State.liftOne_store (raised : Bool) (c : Chan) : (s.liftOne raised c).store = s.store := by
  unfold State.liftOne
  try dsimp only
  repeat' split
  all_goals simp

@[simp] theorem State.liftOne_freeCount (raised : Bool) (c : Chan) : (s.liftOne raised c).freeCount = s.freeCount := by
  unfold State.liftOne
  try dsimp only
  repeat' split
  all_goals simp

@[simp] theorem State.liftOne_pending (raised : Bool) (c : Chan) : (s.liftOne raised c).pending = s.pending := by
  unfold State.liftOne
  try dsimp only
  repeat' split
  all_goals simp

/-! ## liftChange -/

/-- What the events of the channels on a line leave (R98, R99). -/
theorem State.foldl_liftOne_frame (raised : Bool) (cs : List Chan) :
    let t := cs.foldl (fun u c => u.event fun v => v.liftOne raised c) s
    t.powered = s.powered ∧ t.now = s.now ∧ t.lines = s.lines ∧ t.ctl = s.ctl ∧ t.store = s.store ∧
      t.freeCount = s.freeCount ∧ t.pending = s.pending := by
  induction cs generalizing s with
  | nil => simp
  | cons c cs ih =>
    have h := ih (s.event fun v => v.liftOne raised c)
    by_cases hp : s.powered = true <;> simpa [State.event, hp] using h

@[simp] theorem State.liftChange_powered (line : LiftLine) (raised : Bool) : (s.liftChange line raised).powered = s.powered := by
  unfold State.liftChange
  refine (State.foldl_liftOne_frame _ raised _).1.trans ?_
  by_cases hp : s.powered = true <;> simp [State.event, hp]

@[simp] theorem State.liftChange_now (line : LiftLine) (raised : Bool) : (s.liftChange line raised).now = s.now := by
  unfold State.liftChange
  refine (State.foldl_liftOne_frame _ raised _).2.1.trans ?_
  by_cases hp : s.powered = true <;> simp [State.event, hp]

@[simp] theorem State.liftChange_ctl (line : LiftLine) (raised : Bool) : (s.liftChange line raised).ctl = s.ctl := by
  unfold State.liftChange
  refine (State.foldl_liftOne_frame _ raised _).2.2.2.1.trans ?_
  by_cases hp : s.powered = true <;> simp [State.event, hp]

@[simp] theorem State.liftChange_store (line : LiftLine) (raised : Bool) : (s.liftChange line raised).store = s.store := by
  unfold State.liftChange
  refine (State.foldl_liftOne_frame _ raised _).2.2.2.2.1.trans ?_
  by_cases hp : s.powered = true <;> simp [State.event, hp]

@[simp] theorem State.liftChange_pending (line : LiftLine) (raised : Bool) : (s.liftChange line raised).pending = s.pending := by
  unfold State.liftChange
  refine (State.foldl_liftOne_frame _ raised _).2.2.2.2.2.2.trans ?_
  by_cases hp : s.powered = true <;> simp [State.event, hp]

/-! ## lineChange -/

@[simp] theorem State.lineChange_powered (r : LineReading) : (s.lineChange r).powered = s.powered := by
  unfold State.lineChange
  try dsimp only
  repeat' split
  all_goals simp

@[simp] theorem State.lineChange_now (r : LineReading) : (s.lineChange r).now = s.now := by
  unfold State.lineChange
  try dsimp only
  repeat' split
  all_goals simp

@[simp] theorem State.lineChange_store (r : LineReading) : (s.lineChange r).store = s.store := by
  unfold State.lineChange
  try dsimp only
  repeat' split
  all_goals simp

@[simp] theorem State.lineChange_freeCount (r : LineReading) : (s.lineChange r).freeCount = s.freeCount := by
  unfold State.lineChange
  try dsimp only
  repeat' split
  all_goals simp

@[simp] theorem State.lineChange_pending (r : LineReading) : (s.lineChange r).pending = s.pending := by
  unfold State.lineChange
  try dsimp only
  repeat' split
  all_goals simp

/-! ## pulseMotion -/

@[simp] theorem State.pulseMotion_powered (n : Chan) : (s.pulseMotion n).powered = s.powered := by
  unfold State.pulseMotion
  try dsimp only
  repeat' split
  all_goals simp

@[simp] theorem State.pulseMotion_now (n : Chan) : (s.pulseMotion n).now = s.now := by
  unfold State.pulseMotion
  try dsimp only
  repeat' split
  all_goals simp

@[simp] theorem State.pulseMotion_link (n : Chan) : (s.pulseMotion n).link = s.link := by
  unfold State.pulseMotion
  try dsimp only
  repeat' split
  all_goals simp

@[simp] theorem State.pulseMotion_table (n : Chan) : (s.pulseMotion n).table = s.table := by
  unfold State.pulseMotion
  try dsimp only
  repeat' split
  all_goals simp

@[simp] theorem State.pulseMotion_force (n : Chan) : (s.pulseMotion n).force = s.force := by
  unfold State.pulseMotion
  try dsimp only
  repeat' split
  all_goals simp

@[simp] theorem State.pulseMotion_dist (n : Chan) : (s.pulseMotion n).dist = s.dist := by
  unfold State.pulseMotion
  try dsimp only
  repeat' split
  all_goals simp

@[simp] theorem State.pulseMotion_chans (n : Chan) : (s.pulseMotion n).chans = s.chans := by
  unfold State.pulseMotion
  try dsimp only
  repeat' split
  all_goals simp

@[simp] theorem State.pulseMotion_gate (n : Chan) : (s.pulseMotion n).gate = s.gate := by
  unfold State.pulseMotion
  try dsimp only
  repeat' split
  all_goals simp

@[simp] theorem State.pulseMotion_lines (n : Chan) : (s.pulseMotion n).lines = s.lines := by
  unfold State.pulseMotion
  try dsimp only
  repeat' split
  all_goals simp

@[simp] theorem State.pulseMotion_ctl (n : Chan) : (s.pulseMotion n).ctl = s.ctl := by
  unfold State.pulseMotion
  try dsimp only
  repeat' split
  all_goals simp

@[simp] theorem State.pulseMotion_store (n : Chan) : (s.pulseMotion n).store = s.store := by
  unfold State.pulseMotion
  try dsimp only
  repeat' split
  all_goals simp

@[simp] theorem State.pulseMotion_freeCount (n : Chan) : (s.pulseMotion n).freeCount = s.freeCount := by
  unfold State.pulseMotion
  try dsimp only
  repeat' split
  all_goals simp

@[simp] theorem State.pulseMotion_pending (n : Chan) : (s.pulseMotion n).pending = s.pending := by
  unfold State.pulseMotion
  try dsimp only
  repeat' split
  all_goals simp

/-! ## pulse -/

@[simp] theorem State.pulse_powered (n : Chan) : (s.pulse n).powered = s.powered := by
  unfold State.pulse
  try dsimp only
  repeat' split
  all_goals simp

@[simp] theorem State.pulse_now (n : Chan) : (s.pulse n).now = s.now := by
  unfold State.pulse
  try dsimp only
  repeat' split
  all_goals simp

@[simp] theorem State.pulse_store (n : Chan) : (s.pulse n).store = s.store := by
  unfold State.pulse
  try dsimp only
  repeat' split
  all_goals simp

@[simp] theorem State.pulse_freeCount (n : Chan) : (s.pulse n).freeCount = s.freeCount := by
  unfold State.pulse
  try dsimp only
  repeat' split
  all_goals simp

@[simp] theorem State.pulse_pending (n : Chan) : (s.pulse n).pending = s.pending := by
  unfold State.pulse
  try dsimp only
  repeat' split
  all_goals simp

/-! ## stopMoving -/

@[simp] theorem State.stopMoving_powered : (s.stopMoving).powered = s.powered := by
  unfold State.stopMoving
  try dsimp only
  repeat' split
  all_goals simp

@[simp] theorem State.stopMoving_now : (s.stopMoving).now = s.now := by
  unfold State.stopMoving
  try dsimp only
  repeat' split
  all_goals simp

@[simp] theorem State.stopMoving_meas : (s.stopMoving).meas = s.meas := by
  unfold State.stopMoving
  try dsimp only
  repeat' split
  all_goals simp

@[simp] theorem State.stopMoving_lines : (s.stopMoving).lines = s.lines := by
  unfold State.stopMoving
  try dsimp only
  repeat' split
  all_goals simp

@[simp] theorem State.stopMoving_ctl : (s.stopMoving).ctl = s.ctl := by
  unfold State.stopMoving
  try dsimp only
  repeat' split
  all_goals simp

@[simp] theorem State.stopMoving_store : (s.stopMoving).store = s.store := by
  unfold State.stopMoving
  try dsimp only
  repeat' split
  all_goals simp

@[simp] theorem State.stopMoving_freeCount : (s.stopMoving).freeCount = s.freeCount := by
  unfold State.stopMoving
  try dsimp only
  repeat' split
  all_goals simp

@[simp] theorem State.stopMoving_pending : (s.stopMoving).pending = s.pending := by
  unfold State.stopMoving
  try dsimp only
  repeat' split
  all_goals simp

/-! ## beginStandstill -/

@[simp] theorem State.beginStandstill_powered : (s.beginStandstill).powered = s.powered := by
  unfold State.beginStandstill
  try dsimp only
  repeat' split
  all_goals simp

@[simp] theorem State.beginStandstill_now : (s.beginStandstill).now = s.now := by
  unfold State.beginStandstill
  try dsimp only
  repeat' split
  all_goals simp

@[simp] theorem State.beginStandstill_meas : (s.beginStandstill).meas = s.meas := by
  unfold State.beginStandstill
  try dsimp only
  repeat' split
  all_goals simp

@[simp] theorem State.beginStandstill_lines : (s.beginStandstill).lines = s.lines := by
  unfold State.beginStandstill
  try dsimp only
  repeat' split
  all_goals simp

@[simp] theorem State.beginStandstill_store : (s.beginStandstill).store = s.store := by
  unfold State.beginStandstill
  try dsimp only
  repeat' split
  all_goals simp

@[simp] theorem State.beginStandstill_freeCount : (s.beginStandstill).freeCount = s.freeCount := by
  unfold State.beginStandstill
  try dsimp only
  repeat' split
  all_goals simp

@[simp] theorem State.beginStandstill_pending : (s.beginStandstill).pending = s.pending := by
  unfold State.beginStandstill
  try dsimp only
  repeat' split
  all_goals simp

/-! ## driverLeaves -/

@[simp] theorem State.driverLeaves_powered : (s.driverLeaves).powered = s.powered := by
  unfold State.driverLeaves
  try dsimp only
  all_goals simp

@[simp] theorem State.driverLeaves_now : (s.driverLeaves).now = s.now := by
  unfold State.driverLeaves
  try dsimp only
  all_goals simp

@[simp] theorem State.driverLeaves_meas : (s.driverLeaves).meas = s.meas := by
  unfold State.driverLeaves
  try dsimp only
  all_goals simp

@[simp] theorem State.driverLeaves_lines : (s.driverLeaves).lines = s.lines := by
  unfold State.driverLeaves
  try dsimp only
  all_goals simp

@[simp] theorem State.driverLeaves_ctl : (s.driverLeaves).ctl = s.ctl := by
  unfold State.driverLeaves
  try dsimp only
  all_goals simp

@[simp] theorem State.driverLeaves_store : (s.driverLeaves).store = s.store := by
  unfold State.driverLeaves
  try dsimp only
  all_goals simp

@[simp] theorem State.driverLeaves_freeCount : (s.driverLeaves).freeCount = s.freeCount := by
  unfold State.driverLeaves
  try dsimp only
  all_goals simp

@[simp] theorem State.driverLeaves_pending : (s.driverLeaves).pending = s.pending := by
  unfold State.driverLeaves
  try dsimp only
  all_goals simp

/-! ## driverReturns -/

@[simp] theorem State.driverReturns_powered : (s.driverReturns).powered = s.powered := by
  unfold State.driverReturns
  try dsimp only
  all_goals simp

@[simp] theorem State.driverReturns_now : (s.driverReturns).now = s.now := by
  unfold State.driverReturns
  try dsimp only
  all_goals simp

@[simp] theorem State.driverReturns_link : (s.driverReturns).link = s.link := by
  unfold State.driverReturns
  try dsimp only
  all_goals simp

@[simp] theorem State.driverReturns_table : (s.driverReturns).table = s.table := by
  unfold State.driverReturns
  try dsimp only
  all_goals simp

@[simp] theorem State.driverReturns_meas : (s.driverReturns).meas = s.meas := by
  unfold State.driverReturns
  try dsimp only
  all_goals simp

@[simp] theorem State.driverReturns_force : (s.driverReturns).force = s.force := by
  unfold State.driverReturns
  try dsimp only
  all_goals simp

@[simp] theorem State.driverReturns_dist : (s.driverReturns).dist = s.dist := by
  unfold State.driverReturns
  try dsimp only
  all_goals simp

@[simp] theorem State.driverReturns_chans : (s.driverReturns).chans = s.chans := by
  unfold State.driverReturns
  try dsimp only
  all_goals simp

@[simp] theorem State.driverReturns_gate : (s.driverReturns).gate = s.gate := by
  unfold State.driverReturns
  try dsimp only
  all_goals simp

@[simp] theorem State.driverReturns_lines : (s.driverReturns).lines = s.lines := by
  unfold State.driverReturns
  try dsimp only
  all_goals simp

@[simp] theorem State.driverReturns_ctl : (s.driverReturns).ctl = s.ctl := by
  unfold State.driverReturns
  try dsimp only
  all_goals simp

@[simp] theorem State.driverReturns_store : (s.driverReturns).store = s.store := by
  unfold State.driverReturns
  try dsimp only
  all_goals simp

@[simp] theorem State.driverReturns_freeCount : (s.driverReturns).freeCount = s.freeCount := by
  unfold State.driverReturns
  try dsimp only
  all_goals simp

@[simp] theorem State.driverReturns_pending : (s.driverReturns).pending = s.pending := by
  unfold State.driverReturns
  try dsimp only
  all_goals simp

/-! ## seatChanged -/

@[simp] theorem State.seatChanged_powered : (s.seatChanged).powered = s.powered := by
  unfold State.seatChanged
  try dsimp only
  repeat' split
  all_goals simp

@[simp] theorem State.seatChanged_now : (s.seatChanged).now = s.now := by
  unfold State.seatChanged
  try dsimp only
  repeat' split
  all_goals simp

@[simp] theorem State.seatChanged_meas : (s.seatChanged).meas = s.meas := by
  unfold State.seatChanged
  try dsimp only
  repeat' split
  all_goals simp

@[simp] theorem State.seatChanged_lines : (s.seatChanged).lines = s.lines := by
  unfold State.seatChanged
  try dsimp only
  repeat' split
  all_goals simp

@[simp] theorem State.seatChanged_ctl : (s.seatChanged).ctl = s.ctl := by
  unfold State.seatChanged
  try dsimp only
  repeat' split
  all_goals simp

@[simp] theorem State.seatChanged_store : (s.seatChanged).store = s.store := by
  unfold State.seatChanged
  try dsimp only
  repeat' split
  all_goals simp

@[simp] theorem State.seatChanged_freeCount : (s.seatChanged).freeCount = s.freeCount := by
  unfold State.seatChanged
  try dsimp only
  repeat' split
  all_goals simp

@[simp] theorem State.seatChanged_pending : (s.seatChanged).pending = s.pending := by
  unfold State.seatChanged
  try dsimp only
  repeat' split
  all_goals simp

/-! ## doorChanged -/

@[simp] theorem State.doorChanged_powered : (s.doorChanged).powered = s.powered := by
  unfold State.doorChanged
  try dsimp only
  repeat' split
  all_goals simp

@[simp] theorem State.doorChanged_now : (s.doorChanged).now = s.now := by
  unfold State.doorChanged
  try dsimp only
  repeat' split
  all_goals simp

@[simp] theorem State.doorChanged_meas : (s.doorChanged).meas = s.meas := by
  unfold State.doorChanged
  try dsimp only
  repeat' split
  all_goals simp

@[simp] theorem State.doorChanged_lines : (s.doorChanged).lines = s.lines := by
  unfold State.doorChanged
  try dsimp only
  repeat' split
  all_goals simp

@[simp] theorem State.doorChanged_ctl : (s.doorChanged).ctl = s.ctl := by
  unfold State.doorChanged
  try dsimp only
  repeat' split
  all_goals simp

@[simp] theorem State.doorChanged_store : (s.doorChanged).store = s.store := by
  unfold State.doorChanged
  try dsimp only
  repeat' split
  all_goals simp

@[simp] theorem State.doorChanged_freeCount : (s.doorChanged).freeCount = s.freeCount := by
  unfold State.doorChanged
  try dsimp only
  repeat' split
  all_goals simp

@[simp] theorem State.doorChanged_pending : (s.doorChanged).pending = s.pending := by
  unfold State.doorChanged
  try dsimp only
  repeat' split
  all_goals simp

/-! ## driverLineSettles -/

@[simp] theorem State.driverLineSettles_powered (line : DriverLine) : (s.driverLineSettles line).powered = s.powered := by
  unfold State.driverLineSettles
  try dsimp only
  repeat' split
  all_goals simp

@[simp] theorem State.driverLineSettles_now (line : DriverLine) : (s.driverLineSettles line).now = s.now := by
  unfold State.driverLineSettles
  try dsimp only
  repeat' split
  all_goals simp

@[simp] theorem State.driverLineSettles_meas (line : DriverLine) : (s.driverLineSettles line).meas = s.meas := by
  unfold State.driverLineSettles
  try dsimp only
  repeat' split
  all_goals simp

@[simp] theorem State.driverLineSettles_ctl (line : DriverLine) : (s.driverLineSettles line).ctl = s.ctl := by
  unfold State.driverLineSettles
  try dsimp only
  repeat' split
  all_goals simp

@[simp] theorem State.driverLineSettles_store (line : DriverLine) : (s.driverLineSettles line).store = s.store := by
  unfold State.driverLineSettles
  try dsimp only
  repeat' split
  all_goals simp

@[simp] theorem State.driverLineSettles_freeCount (line : DriverLine) : (s.driverLineSettles line).freeCount = s.freeCount := by
  unfold State.driverLineSettles
  try dsimp only
  repeat' split
  all_goals simp

@[simp] theorem State.driverLineSettles_pending (line : DriverLine) : (s.driverLineSettles line).pending = s.pending := by
  unfold State.driverLineSettles
  try dsimp only
  repeat' split
  all_goals simp

/-! ## pairSettles -/

@[simp] theorem State.pairSettles_powered : (s.pairSettles).powered = s.powered := by
  unfold State.pairSettles
  try dsimp only
  repeat' split
  all_goals simp

@[simp] theorem State.pairSettles_now : (s.pairSettles).now = s.now := by
  unfold State.pairSettles
  try dsimp only
  repeat' split
  all_goals simp

@[simp] theorem State.pairSettles_meas : (s.pairSettles).meas = s.meas := by
  unfold State.pairSettles
  try dsimp only
  repeat' split
  all_goals simp

@[simp] theorem State.pairSettles_ctl : (s.pairSettles).ctl = s.ctl := by
  unfold State.pairSettles
  try dsimp only
  repeat' split
  all_goals simp

@[simp] theorem State.pairSettles_store : (s.pairSettles).store = s.store := by
  unfold State.pairSettles
  try dsimp only
  repeat' split
  all_goals simp

@[simp] theorem State.pairSettles_freeCount : (s.pairSettles).freeCount = s.freeCount := by
  unfold State.pairSettles
  try dsimp only
  repeat' split
  all_goals simp

@[simp] theorem State.pairSettles_pending : (s.pairSettles).pending = s.pending := by
  unfold State.pairSettles
  try dsimp only
  repeat' split
  all_goals simp

/-! ## rebuildChannel -/

@[simp] theorem State.rebuildChannel_powered (c : Chan) : (s.rebuildChannel c).powered = s.powered := by
  unfold State.rebuildChannel
  try dsimp only
  all_goals simp

@[simp] theorem State.rebuildChannel_now (c : Chan) : (s.rebuildChannel c).now = s.now := by
  unfold State.rebuildChannel
  try dsimp only
  all_goals simp

@[simp] theorem State.rebuildChannel_lines (c : Chan) : (s.rebuildChannel c).lines = s.lines := by
  unfold State.rebuildChannel
  try dsimp only
  all_goals simp

@[simp] theorem State.rebuildChannel_ctl (c : Chan) : (s.rebuildChannel c).ctl = s.ctl := by
  unfold State.rebuildChannel
  try dsimp only
  all_goals simp

@[simp] theorem State.rebuildChannel_store (c : Chan) : (s.rebuildChannel c).store = s.store := by
  unfold State.rebuildChannel
  try dsimp only
  all_goals simp

@[simp] theorem State.rebuildChannel_freeCount (c : Chan) : (s.rebuildChannel c).freeCount = s.freeCount := by
  unfold State.rebuildChannel
  try dsimp only
  all_goals simp

@[simp] theorem State.rebuildChannel_pending (c : Chan) : (s.rebuildChannel c).pending = s.pending := by
  unfold State.rebuildChannel
  try dsimp only
  all_goals simp

/-! ## handOn -/

@[simp] theorem State.handOn_powered (item : Item) : (s.handOn item).powered = s.powered := by
  unfold State.handOn
  try dsimp only
  repeat' split
  all_goals simp

@[simp] theorem State.handOn_now (item : Item) : (s.handOn item).now = s.now := by
  unfold State.handOn
  try dsimp only
  repeat' split
  all_goals simp

@[simp] theorem State.handOn_lines (item : Item) : (s.handOn item).lines = s.lines := by
  unfold State.handOn
  try dsimp only
  repeat' split
  all_goals simp

@[simp] theorem State.handOn_ctl (item : Item) : (s.handOn item).ctl = s.ctl := by
  unfold State.handOn
  try dsimp only
  repeat' split
  all_goals simp

@[simp] theorem State.handOn_store (item : Item) : (s.handOn item).store = s.store := by
  unfold State.handOn
  try dsimp only
  repeat' split
  all_goals simp

@[simp] theorem State.handOn_freeCount (item : Item) : (s.handOn item).freeCount = s.freeCount := by
  unfold State.handOn
  try dsimp only
  repeat' split
  all_goals simp

@[simp] theorem State.handOn_pending (item : Item) : (s.handOn item).pending = s.pending := by
  unfold State.handOn
  try dsimp only
  repeat' split
  all_goals simp

/-! ## writeItem -/

@[simp] theorem State.writeItem_powered (item : Item) (value : Word16) : (s.writeItem item value).powered = s.powered := by
  unfold State.writeItem
  try dsimp only
  repeat' split
  all_goals simp

@[simp] theorem State.writeItem_now (item : Item) (value : Word16) : (s.writeItem item value).now = s.now := by
  unfold State.writeItem
  try dsimp only
  repeat' split
  all_goals simp

@[simp] theorem State.writeItem_lines (item : Item) (value : Word16) : (s.writeItem item value).lines = s.lines := by
  unfold State.writeItem
  try dsimp only
  repeat' split
  all_goals simp

@[simp] theorem State.writeItem_ctl (item : Item) (value : Word16) : (s.writeItem item value).ctl = s.ctl := by
  unfold State.writeItem
  try dsimp only
  repeat' split
  all_goals simp

@[simp] theorem State.writeItem_freeCount (item : Item) (value : Word16) : (s.writeItem item value).freeCount = s.freeCount := by
  unfold State.writeItem
  try dsimp only
  repeat' split
  all_goals simp

@[simp] theorem State.writeItem_pending (item : Item) (value : Word16) : (s.writeItem item value).pending = s.pending := by
  unfold State.writeItem
  try dsimp only
  repeat' split
  all_goals simp

end Sys2Proof.Machine
end

