-- ==== Sys2Proof/Laws/Operations.lean ====
section
/-! SUPPORT. What the shared operations do, said once each: rounding, timers, the taking of an exchange, answers, notices,
the report of confirmation, runs and offers, hold-set changes and openings. -/

namespace Sys2Proof.Machine

/-! ## Rounding -/

/-- A rounded-up quotient is at most `k` just where the dividend is at most `k` divisors. -/
theorem ceilDiv_le_iff {n d k : Nat} (hd : 0 < d) : ceilDiv n d ≤ k ↔ n ≤ k * d := by
  unfold ceilDiv
  rw [Nat.div_le_iff_le_mul_add_pred hd]
  constructor <;> intro h <;> nlinarith

/-- The rounded-up quotient of 0 is 0. -/
@[simp] theorem ceilDiv_zero (d : Nat) : ceilDiv 0 d = 0 := by
  cases d with
  | zero => rfl
  | succ d => exact Nat.div_eq_of_lt (by omega)

/-- A rounded-up quotient times the divisor reaches the dividend. -/
theorem le_ceilDiv_mul {n d : Nat} (hd : 0 < d) : n ≤ ceilDiv n d * d := (ceilDiv_le_iff hd).1 le_rfl

/-- A rounded-up quotient exceeds the dividend's by less than one divisor. -/
theorem ceilDiv_mul_lt {n d : Nat} (hd : 0 < d) : ceilDiv n d * d < n + d := by
  unfold ceilDiv
  have := Nat.div_mul_le_self (n + (d - 1)) d
  omega

/-! ## Timers -/

@[simp] theorem Timer.due_stopped (t : Nat) : Timer.due .stopped t = false := rfl

@[simp] theorem Timer.due_ranOut (t : Nat) : Timer.due .ranOut t = false := rfl

@[simp] theorem Timer.due_running (n t : Nat) : Timer.due (.running n) t = decide (Config.ms t ≤ n) := rfl

@[simp] theorem Timer.tick_stopped : Timer.tick .stopped = .stopped := rfl

@[simp] theorem Timer.tick_ranOut : Timer.tick .ranOut = .ranOut := rfl

@[simp] theorem Timer.tick_running (n : Nat) : Timer.tick (.running n) = .running (n + 1) := rfl

@[simp] theorem Timer.start_eq : Timer.start = .running 0 := rfl

/-- A timer that is due runs. -/
theorem Timer.isRunning_of_due {timer : Timer} {t : Nat} (h : timer.due t = true) : timer.isRunning = true := by
  cases timer <;> simp_all [Timer.isRunning]

/-- A tick keeps a timer running, and starts none. -/
@[simp] theorem Timer.isRunning_tick (timer : Timer) : timer.tick.isRunning = timer.isRunning := by
  cases timer <;> rfl

/-! ## Taking an exchange -/

/-- A part that takes requests hands the exchange to its rule. -/
theorem State.exchange_takes {s : State} (h : s.takes) (f : State → State) : s.exchange f = f s := by
  obtain ⟨hp, hm, hs⟩ := h
  simp [State.exchange, hp, hm, hs]

/-- A part that takes requests hands a request its mode admits to the rule that owns it, and refuses any other MODE. -/
theorem State.request_takes {s : State} (h : s.takes) (r : Request) (own : State → State) :
    s.request r own = if r.admitted s.ctl.mode then own s else s.refuse r.code .mode := by
  simp [State.request, State.exchange_takes h]

/-- In SLEEP an exchange wakes the part, and its request is discarded. -/
theorem State.exchange_sleep {s : State} (hp : s.powered = true) (hm : s.ctl.mode = .sleep) (f : State → State) :
    s.exchange f = State.conclude s s.wakeUp := by
  simp [State.exchange, hp, hm]

/-- Without power an exchange does nothing. -/
theorem State.exchange_unpowered {s : State} (hp : s.powered = false) (f : State → State) : s.exchange f = s := by
  simp [State.exchange, hp]

/-- An event of a powered part is its rule's state, concluded. -/
theorem State.event_powered {s : State} (h : s.powered = true) (f : State → State) :
    s.event f = State.conclude s (f s) := by
  simp [State.event, h]

/-- Without power an event does nothing. -/
theorem State.event_unpowered {s : State} (h : s.powered = false) (f : State → State) : s.event f = s := by
  simp [State.event, h]

/-! ## Answers -/

/-- A placed answer changes the slot alone. -/
theorem State.place_eq (s : State) (a : Answer) : s.place a = s.withSlot a := rfl

/-- A DONE answer changes the slot alone. -/
theorem State.done_eq (s : State) (code : Byte) (bytes : List Byte) :
    s.done code bytes = s.withSlot (doneAnswer code bytes) := rfl

/-- A REFUSED answer changes the slot alone. -/
theorem State.refuse_eq (s : State) (code : Byte) (reason : Reason) :
    s.refuse code reason = s.withSlot (refusedAnswer code reason) := rfl

@[simp] theorem State.withSlot_slot (s : State) (a : Answer) : (s.withSlot a).link.slot = a := rfl

/-! ## The report of confirmation -/

/-- The report of confirmation changes the states of records from ENGAGING to HELD, or no record at all. -/
theorem State.reportConfirmed_records (s : State) :
    s.reportConfirmed.table.records = s.table.records.map Record.hold ∧ s.distConfirmed = true ∨
      s.reportConfirmed = s ∧ s.distConfirmed = false := by
  unfold State.reportConfirmed
  split
  · left
    refine ⟨?_, by assumption⟩
    unfold State.engagingToHeld
    dsimp only
    split <;> rfl
  · right
    simp_all

/-- A record moved to HELD keeps every field but its state. -/
@[simp] theorem Record.hold_handle (r : Record) : r.hold.handle = r.handle := by unfold Record.hold; split <;> rfl

@[simp] theorem Record.hold_owner (r : Record) : r.hold.owner = r.owner := by unfold Record.hold; split <;> rfl

@[simp] theorem Record.hold_cls (r : Record) : r.hold.cls = r.cls := by unfold Record.hold; split <;> rfl

@[simp] theorem Record.hold_cause (r : Record) : r.hold.cause = r.cause := by unfold Record.hold; split <;> rfl

@[simp] theorem Record.hold_tag (r : Record) : r.hold.tag = r.tag := by unfold Record.hold; split <;> rfl

@[simp] theorem Record.hold_expiry (r : Record) : r.hold.expiry = r.expiry := by unfold Record.hold; split <;> rfl

@[simp] theorem State.reportConfirmed_applied (s : State) : s.reportConfirmed.table.applied = s.table.applied := by
  unfold State.reportConfirmed State.engagingToHeld; dsimp only; repeat' split
  all_goals rfl

@[simp] theorem State.reportConfirmed_nextHandle (s : State) :
    s.reportConfirmed.table.nextHandle = s.table.nextHandle := by
  unfold State.reportConfirmed State.engagingToHeld; dsimp only; repeat' split
  all_goals rfl

@[simp] theorem State.reportConfirmed_relief (s : State) : s.reportConfirmed.table.relief = s.table.relief := by
  unfold State.reportConfirmed State.engagingToHeld; dsimp only; repeat' split
  all_goals rfl

@[simp] theorem State.reportConfirmed_beat (s : State) : s.reportConfirmed.table.beat = s.table.beat := by
  unfold State.reportConfirmed State.engagingToHeld; dsimp only; repeat' split
  all_goals rfl

/-- The report moves states alone: the holds, as a hold-set change sees them, stay. -/
@[simp] theorem State.reportConfirmed_holdSet (s : State) :
    holdSet s.reportConfirmed.table.records = holdSet s.table.records := by
  rcases s.reportConfirmed_records with ⟨h, -⟩ | ⟨h, -⟩ <;> simp [h, holdSet, List.map_map, Function.comp_def]

/-! ## Runs and offers -/

/-- A run of the Distribution Unit leaves the distribution it finds. -/
@[simp] theorem State.distributeWith_dist (s : State) (loads : Six Nat) (fresh : Bool) :
    (s.distributeWith loads fresh).dist = s.distribution loads := by
  unfold State.distributeWith; simp

@[simp] theorem State.distributeWith_chans (s : State) (loads : Six Nat) (fresh : Bool) :
    (s.distributeWith loads fresh).chans = s.handOver (s.distribution loads) fresh := by
  unfold State.distributeWith; simp

@[simp] theorem State.distributeWith_applied (s : State) (loads : Six Nat) (fresh : Bool) :
    (s.distributeWith loads fresh).table.applied = s.table.applied := by
  unfold State.distributeWith; simp

@[simp] theorem State.distributeWith_nextHandle (s : State) (loads : Six Nat) (fresh : Bool) :
    (s.distributeWith loads fresh).table.nextHandle = s.table.nextHandle := by
  unfold State.distributeWith; simp

@[simp] theorem State.distributeWith_relief (s : State) (loads : Six Nat) (fresh : Bool) :
    (s.distributeWith loads fresh).table.relief = s.table.relief := by
  unfold State.distributeWith; simp

@[simp] theorem State.distributeWith_holdSet (s : State) (loads : Six Nat) (fresh : Bool) :
    holdSet (s.distributeWith loads fresh).table.records = holdSet s.table.records := by
  unfold State.distributeWith; simp

/-- A run of the Distribution Unit after a change of A leaves A at its new value. -/
@[simp] theorem State.applyForce_applied (s : State) (a : Nat) : (s.applyForce a).table.applied = a := by
  unfold State.applyForce State.distribute; dsimp only; split <;> simp

/-- An offer without a hold-set change raises A to F_req, or keeps it (R28). -/
@[simp] theorem State.offer_applied (s : State) :
    s.offer.table.applied = max s.force.fReq s.table.applied := by
  unfold State.offer; simp

/-- A run of the Force Calculator with its offer (R46, R28). -/
@[simp] theorem State.runAndOffer_applied (s : State) :
    s.runAndOffer.table.applied = max s.calculate.fReq s.table.applied := by
  unfold State.runAndOffer State.runForce; simp

@[simp] theorem State.runAndOffer_force (s : State) : s.runAndOffer.force = s.calculate := by
  unfold State.runAndOffer State.runForce; simp

/-- A hold-set change leaves A at the F_req of its own run (R28). -/
@[simp] theorem State.holdSetChange_applied (s : State) (parkBefore : Bool) :
    (s.holdSetChange parkBefore).table.applied = s.calculate.fReq := by
  unfold State.holdSetChange State.distribute State.runForce; dsimp only; split <;> simp

@[simp] theorem State.holdSetChange_force (s : State) (parkBefore : Bool) :
    (s.holdSetChange parkBefore).force = s.calculate := by
  unfold State.holdSetChange State.distribute State.runForce; dsimp only; split <;> simp

/-- A hold-set change stops the relief timer (R30). -/
@[simp] theorem State.holdSetChange_relief (s : State) (parkBefore : Bool) :
    (s.holdSetChange parkBefore).table.relief = .stopped := by
  unfold State.holdSetChange State.distribute State.runForce; dsimp only; split <;> simp

@[simp] theorem State.holdSetChange_nextHandle (s : State) (parkBefore : Bool) :
    (s.holdSetChange parkBefore).table.nextHandle = s.table.nextHandle := by
  unfold State.holdSetChange State.distribute State.runForce; dsimp only; split <;> simp

@[simp] theorem State.holdSetChange_holdSet (s : State) (parkBefore : Bool) :
    holdSet (s.holdSetChange parkBefore).table.records = holdSet s.table.records := by
  unfold State.holdSetChange State.distribute State.runForce; dsimp only; split <;> simp

/-- A retirement takes the record of the handle out of the holds and keeps the rest in place (R12, R3). -/
theorem State.retire_holdSet (s : State) (h : Nat) (driveOff : Bool) :
    holdSet (s.retire h driveOff).table.records =
      holdSet (s.table.records.filter fun r => r.handle != h) := by
  unfold State.retire; dsimp only; split <;> simp

/-- An opening appends its record and takes every RELEASING record out (R14). -/
theorem State.openRecord_holdSet (s : State) (make : Nat → Record) :
    holdSet (s.openRecord make).table.records =
      holdSet ((s.table.records.filter fun r => !r.isReleasing) ++ [make s.table.newHandle]) := by
  unfold State.openRecord; dsimp only; split <;> simp

/-- A record of an owner other than MONITOR is retired since an earlier table just where no record of its owner has its handle
(R26, R141). -/
theorem retiredSince_iff (before now : List Record) :
    retiredSince before now = true ↔
      ∃ r ∈ before, r.owner ≠ .monitor ∧ ∀ x ∈ now, x.handle = r.handle → x.owner ≠ r.owner := by
  simp [retiredSince]

/-- While the holds are the same, handle by handle and owner by owner, none is retired. -/
theorem retiredSince_self (records : List Record) : retiredSince records records = false := by
  rw [Bool.eq_false_iff, ne_eq, retiredSince_iff]
  rintro ⟨r, hr, -, h⟩
  exact h r hr rfl rfl

/-- A retirement that empties the table drops the reference at a drive-off, and else starts the watch-after (R126). -/
theorem State.retire_reference (s : State) (h : Nat) (driveOff : Bool)
    (hk : (s.table.records.filter fun r => r.handle != h) = []) :
    (s.retire h driveOff).mon.ref = (if driveOff then .clear else .watch) ∧
      (s.retire h driveOff).mon.watchAfter = if driveOff then .stopped else .running 0 := by
  unfold State.retire
  dsimp only
  rw [if_pos hk]
  cases driveOff <;> exact ⟨rfl, rfl⟩

/-- Under an idle gate a change of E derives the loads and the weight and makes one run (R39, R40, R62). -/
theorem State.eligibilityChanged_idle (s : State) (hg : s.gate.armed = false) :
    s.eligibilityChanged = s.deriveWeight.distribute := by
  simp [State.eligibilityChanged, State.gateDecide, hg]

/-! ## What falls together, and the expiries -/

/-- Putting an element at a place adds it to the list's elements. -/
theorem insertPlace_perm {α : Type} (x : α) : ∀ (ys : List α) (k : Nat), (insertPlace x ys k).Perm (x :: ys)
  | _, 0 => by simp [insertPlace]
  | [], _ + 1 => by simp [insertPlace]
  | y :: ys, k + 1 => ((insertPlace_perm x ys k).cons y).trans (List.Perm.swap x y ys)

/-- What falls together is taken in some order, each once (log entry 3). -/
theorem arrange_perm {α : Type} (moment : Nat) : ∀ xs : List α, (arrange moment xs).Perm xs
  | [] => .nil
  | [_] => .rfl
  | x :: y :: ys => (insertPlace_perm x _ _).trans ((arrange_perm moment (y :: ys)).cons x)

@[simp] theorem Record.countDown_handle (r : Record) : r.countDown.handle = r.handle := by
  unfold Record.countDown; split <;> rfl

@[simp] theorem Record.countDown_cls (r : Record) : r.countDown.cls = r.cls := by unfold Record.countDown; split <;> rfl

@[simp] theorem Record.countDown_state (r : Record) : r.countDown.state = r.state := by
  unfold Record.countDown; split <;> rfl

/-- A record whose count does not end with this unit has its expiry counted, unless it is RELEASING (R22). -/
theorem Record.countDown_eq (r : Record) (h : r.lastUnit = false) : r.countDown = { r with expiry := r.countedTo } := by
  rcases r with ⟨a, b, c, st, d, e, f, g⟩
  cases st <;> simp_all [Record.countDown, Record.counts, Record.countedTo]

/-- The count of a sound record never comes to 0 and stands (R1). -/
theorem Record.countDown_sound (r : Record) (h : r.expiry ≠ some 0) : r.countDown.expiry ≠ some 0 := by
  rcases r with ⟨a, b, c, st, d, e, ex, g⟩
  cases ex with
  | none => simp [Record.countDown, Record.lastUnit]
  | some n =>
    by_cases h1 : n ≤ 1
    · simpa [Record.countDown, Record.lastUnit, h1] using h
    · simp only [Record.countDown, Record.lastUnit, Option.any_some, decide_eq_false h1]
      split
      · simp; omega
      · exact h

/-- A conversion stops the relief timer (R23, R30). -/
@[simp] theorem State.convertToPark_relief (s : State) (h : Nat) : (s.convertToPark h).table.relief = .stopped := by
  unfold State.convertToPark; simp

/-- A conversion changes the class of its record alone, in its place (R23, R3). -/
theorem State.convertToPark_holdSet (s : State) (h : Nat) :
    holdSet (s.convertToPark h).table.records =
      (holdSet s.table.records).map fun x => if x.1 = h then (x.1, .park) else x := by
  unfold State.convertToPark
  simp only [State.raiseHolds_table, State.reportConfirmed_holdSet, State.holdSetChange_holdSet, State.withTable_table]
  simp only [updateRecord, holdSet, List.map_map]
  refine List.map_congr_left fun r _ => ?_
  simp only [Function.comp_def]
  split <;> simp

/-- Where no count ends with the beat, the counts fall by one and nothing else changes but the beat (R22). -/
theorem State.countExpiries_of_none (s : State) (h : ∀ r ∈ s.table.records, r.lastUnit = false) :
    s.countExpiries =
      s.withTable
        { s.table with beat := 0, records := s.table.records.map fun r => { r with expiry := r.countedTo } } := by
  have hl : s.lastUnits = [] := by
    simp only [State.lastUnits, List.map_eq_nil_iff, List.filter_eq_nil_iff]
    intro r hr
    simp [h r hr]
  have hm : s.table.records.map Record.countDown = s.table.records.map fun r => { r with expiry := r.countedTo } :=
    List.map_congr_left fun r hr => r.countDown_eq (h r hr)
  simp [State.countExpiries, hl, hm, arrange]

/-- The expiries of one beat leave what an expiry leaves. -/
theorem State.foldl_expire_frame (s : State) (handles : List Nat) :
    let t := handles.foldl State.expire s
    t.powered = s.powered ∧ t.now = s.now ∧ t.meas = s.meas ∧ t.gate = s.gate ∧ t.lines = s.lines ∧ t.ctl = s.ctl ∧
      t.store = s.store ∧ t.pending = s.pending := by
  induction handles generalizing s with
  | nil => simp
  | cons h hs ih => simpa using ih (s.expire h)

/-! ## The lift lines -/

/-- A change of a lift line is the line's level and then an event at each channel on it, each once, in some order (R63, R98,
R99; log entry 3). -/
theorem State.liftChange_inTurn (s : State) (line : LiftLine) (raised : Bool) :
    ∃ (cs : List Chan) (k : Nat), cs.Perm (s.onLine line) ∧
      s.liftChange line raised =
        cs.foldl (fun u c => u.event fun v => v.liftOne raised c)
          (s.event fun u => { u with lines := u.lines.setLift line raised, freeCount := k }) := by
  refine ⟨_, if 1 < (s.onLine line).length then s.freeCount + 1 else s.freeCount, arrange_perm s.freeCount _, ?_⟩
  by_cases hp : s.powered = true <;> simp [State.liftChange, State.event, hp]

/-- A channel that its line does not move records the level alone (R97, R98). -/
theorem State.liftOne_record (s : State) (raised : Bool) (c : Chan) (h : ¬s.movesBy raised c) :
    s.liftOne raised c = s.withChan c { s.chans.get c with lift := raised } := by
  cases raised <;>
    simp_all [State.movesBy, State.liftOne, State.liftChannel, State.lowersIntoFault, Channel.takeLift]

/-- A channel that its line moves has a run of its own, a lowering into a fault with its notice before it (R95, R98, R99). -/
theorem State.liftOne_moves (s : State) (raised : Bool) (c : Chan) (h : s.movesBy raised c) :
    s.liftOne raised c =
      (let t := s.withChan c (s.liftChannel raised c)
       if !raised && s.lowersIntoFault c then t.raise .channel else t).eligibilityChanged := by
  have hne : (s.chans.get c).state ≠ (s.liftChannel raised c).state := by
    cases raised <;> simp only [State.movesBy, State.liftChannel, Channel.takeLift] at h ⊢
    · cases hf : s.lowersIntoFault c <;> simp_all [Channel.fault, Channel.joining]
    · simp_all only [Bool.not_true, Bool.false_and, Bool.and_true, if_true]
      intro hl
      rw [hl] at h
      simp [Channel.lifted, ChanState.tested] at h
  unfold State.liftOne
  simp only [State.withChan_chans, Six.get_put_same, hne, if_false]

/-! ## The pendant -/

theorem pairOf_eq_pairRead (pa pb : Bool) : pairOf pa pb = pairRead pa pb := by cases pa <;> cases pb <;> rfl

theorem PairState.asks_iff (p : PairState) : p.asks = true ↔ p ≠ .notAsking := by cases p <;> simp [PairState.asks]

/-- Where at most one record is the pendant's, the first one found decides for all. -/
theorem State.pendantFree_iff (s : State) (h : ownedBy s.table.records .pendant ≤ 1) :
    s.pendantFree = true ↔ s.noPendant := by
  unfold State.pendantFree State.noPendant State.pendantLive
  generalize s.table.records = records at h
  induction records with
  | nil => simp
  | cons r rest ih =>
    by_cases hr : r.owner = .pendant
    · have hrest : ∀ x ∈ rest, x.owner ≠ .pendant := by
        intro x hx hp
        have : 1 ≤ ownedBy rest .pendant := List.length_pos_of_mem (List.mem_filter.2 ⟨hx, by simp [hp]⟩)
        simp only [ownedBy, List.filter_cons, hr, beq_self_eq_true, if_true, List.length_cons] at h this
        omega
      simp only [List.find?_cons, hr, beq_self_eq_true, List.forall_mem_cons, Option.all_some, Record.isReleasing,
        beq_iff_eq, forall_true_left]
      exact ⟨fun hs => ⟨hs, fun x hx hp => absurd hp (hrest x hx)⟩, fun hs => hs.1⟩
    · have hb : (r.owner == Owner.pendant) = false := by simpa using hr
      have h' : ownedBy rest .pendant ≤ 1 := by simpa [ownedBy, List.filter_cons, hb] using h
      simpa [List.find?_cons, hb, hr] using ih h'

/-! ## Wake, and the time that passes -/

/-- A FAULTED channel keeps all but its PWM count at a wake (R101). -/
theorem Channel.wake_faulted {ch : Channel} (h : ch.state = .faulted) (line : Option LiftLine) (raised : Bool)
    (c : Chan) : ch.wake line raised c = { ch with pwm := some (Config.ms c.val) } := by
  simp [Channel.wake, firstPwm, h]

/-- One tick moves a timer on. -/
theorem Timer.movesTo_tick (x : Timer) : x.movesTo x.tick := by
  cases x <;> simp [Timer.movesTo, Timer.tick, Timer.isRunning]

/-- One tick takes one from a time left. -/
theorem leftAfter_countDown (x : Option Nat) : leftAfter x (countDown x) := by
  cases x <;> simp [leftAfter, countDown]

/-- What an exchange shifts out is as long as the exchange, where the slot's answer carries eight payload bytes (R169, R170). -/
theorem State.shiftedOut_length (s : State) (bytes : Nat) (h : s.link.slot.payload.length = 8) :
    (s.shiftedOut bytes).length = bytes := by
  have hf : s.outgoing.length = 12 := by
    unfold State.outgoing
    split <;> simp [Answer.frame, Answer.body, closeFrame, h, Answer.idle]
  unfold State.shiftedOut
  split
  · simp [hf]; omega
  · simp

/-! ## Modes -/

@[simp] theorem State.enterSafe_mode (s : State) : s.enterSafe.ctl.mode = .safe := by
  unfold State.enterSafe State.safeOverrides
  dsimp only
  split
  · unfold State.firstStandstillInSafe; simp
  · simp

end Sys2Proof.Machine
end

