-- ==== Sys2Proof/Laws/PerInstr.lean ====
section
/-! SUPPORT. Facts about every command as syntax: one lemma per constructor. -/

namespace Sys2Proof.Laws

/-- The frame of a command: where the command has one, its body is the eleven bytes of R172 and an exchange carries it. -/
def BodyLength.Statement (i : Instr) : Prop :=
  ∀ body, encodeBody i = some body → body.length = 11 ∧ Machine.isExchange i = true

theorem BodyLength.powerOnReset : BodyLength.Statement .powerOnReset := by
  intro body h
  cases h

theorem BodyLength.powerLoss : BodyLength.Statement .powerLoss := by
  intro body h
  cases h

theorem BodyLength.idleRequest : BodyLength.Statement .idleRequest := by
  intro body h
  cases h
  exact ⟨rfl, rfl⟩

theorem BodyLength.badframe : ∀ a, BodyLength.Statement (.badframe a) := by
  intro a body h
  cases h

theorem BodyLength.shortExchange : ∀ a, BodyLength.Statement (.shortExchange a) := by
  intro a body h
  cases h

theorem BodyLength.unknownRequest : ∀ a, BodyLength.Statement (.unknownRequest a) := by
  intro a body h
  cases h
  exact ⟨rfl, rfl⟩

theorem BodyLength.ident : BodyLength.Statement .ident := by
  intro body h
  cases h
  exact ⟨rfl, rfl⟩

theorem BodyLength.status : BodyLength.Statement .status := by
  intro body h
  cases h
  exact ⟨rfl, rfl⟩

theorem BodyLength.noticeMask : ∀ a, BodyLength.Statement (.noticeMask a) := by
  intro a body h
  cases h
  exact ⟨rfl, rfl⟩

theorem BodyLength.keepalive : ∀ a, BodyLength.Statement (.keepalive a) := by
  intro a body h
  cases h
  exact ⟨rfl, rfl⟩

theorem BodyLength.resync : BodyLength.Statement .resync := by
  intro body h
  cases h
  exact ⟨rfl, rfl⟩

theorem BodyLength.sleep : BodyLength.Statement .sleep := by
  intro body h
  cases h
  exact ⟨rfl, rfl⟩

theorem BodyLength.reset : BodyLength.Statement .reset := by
  intro body h
  cases h
  exact ⟨rfl, rfl⟩

theorem BodyLength.openHold : ∀ a b c d e, BodyLength.Statement (.openHold a b c d e) := by
  intro a b c d e body h
  cases h
  exact ⟨rfl, rfl⟩

theorem BodyLength.amendHold : ∀ a b c d e, BodyLength.Statement (.amendHold a b c d e) := by
  intro a b c d e body h
  cases h
  exact ⟨rfl, rfl⟩

theorem BodyLength.releaseHold : ∀ a b, BodyLength.Statement (.releaseHold a b) := by
  intro a b body h
  cases h
  exact ⟨rfl, rfl⟩

theorem BodyLength.readHold : ∀ a, BodyLength.Statement (.readHold a) := by
  intro a body h
  cases h
  exact ⟨rfl, rfl⟩

theorem BodyLength.listHolds : ∀ a, BodyLength.Statement (.listHolds a) := by
  intro a body h
  cases h
  exact ⟨rfl, rfl⟩

theorem BodyLength.driveState : ∀ a b, BodyLength.Statement (.driveState a b) := by
  intro a b body h
  cases h
  exact ⟨rfl, rfl⟩

theorem BodyLength.drumState : ∀ a b c, BodyLength.Statement (.drumState a b c) := by
  intro a b c body h
  cases h
  exact ⟨rfl, rfl⟩

theorem BodyLength.readMeasure : ∀ a, BodyLength.Statement (.readMeasure a) := by
  intro a body h
  cases h
  exact ⟨rfl, rfl⟩

theorem BodyLength.readChannel : ∀ a b, BodyLength.Statement (.readChannel a b) := by
  intro a b body h
  cases h
  exact ⟨rfl, rfl⟩

theorem BodyLength.channelRestore : ∀ a, BodyLength.Statement (.channelRestore a) := by
  intro a body h
  cases h
  exact ⟨rfl, rfl⟩

theorem BodyLength.profileRead : ∀ a b c, BodyLength.Statement (.profileRead a b c) := by
  intro a b c body h
  cases h
  exact ⟨rfl, rfl⟩

theorem BodyLength.profileWrite : ∀ a b c, BodyLength.Statement (.profileWrite a b c) := by
  intro a b c body h
  cases h
  exact ⟨rfl, rfl⟩

theorem BodyLength.profileCommit : BodyLength.Statement .profileCommit := by
  intro body h
  cases h
  exact ⟨rfl, rfl⟩

theorem BodyLength.commitEnd : BodyLength.Statement .commitEnd := by
  intro body h
  cases h

theorem BodyLength.sampleArrival : ∀ a, BodyLength.Statement (.sampleArrival a) := by
  intro a body h
  cases h

theorem BodyLength.reliefTimerExpiry : BodyLength.Statement .reliefTimerExpiry := by
  intro body h
  cases h

theorem BodyLength.pwmPeriodStart : ∀ a, BodyLength.Statement (.pwmPeriodStart a) := by
  intro a body h
  cases h

theorem BodyLength.confirmationWindowExpiry : ∀ a, BodyLength.Statement (.confirmationWindowExpiry a) := by
  intro a body h
  cases h

theorem BodyLength.driftTimerExpiry : ∀ a, BodyLength.Statement (.driftTimerExpiry a) := by
  intro a body h
  cases h

theorem BodyLength.springTimerExpiry : ∀ a, BodyLength.Statement (.springTimerExpiry a) := by
  intro a body h
  cases h

theorem BodyLength.springCurrentChange : ∀ a b, BodyLength.Statement (.springCurrentChange a b) := by
  intro a b body h
  cases h

theorem BodyLength.currentMismatchExpiry : ∀ a, BodyLength.Statement (.currentMismatchExpiry a) := by
  intro a body h
  cases h

theorem BodyLength.rawLineChange : ∀ a, BodyLength.Statement (.rawLineChange a) := by
  intro a body h
  cases h

theorem BodyLength.liftRaised : ∀ a, BodyLength.Statement (.liftRaised a) := by
  intro a body h
  cases h

theorem BodyLength.liftLowered : ∀ a, BodyLength.Statement (.liftLowered a) := by
  intro a body h
  cases h

theorem BodyLength.wheelPulse : ∀ a, BodyLength.Statement (.wheelPulse a) := by
  intro a body h
  cases h

theorem BodyLength.movingTimerExpiry : BodyLength.Statement .movingTimerExpiry := by
  intro body h
  cases h

theorem BodyLength.standstillTimerExpiry : BodyLength.Statement .standstillTimerExpiry := by
  intro body h
  cases h

theorem BodyLength.watchAfterExpiry : BodyLength.Statement .watchAfterExpiry := by
  intro body h
  cases h

theorem BodyLength.driverLineDebounced : ∀ a, BodyLength.Statement (.driverLineDebounced a) := by
  intro a body h
  cases h

theorem BodyLength.seatTimerExpiry : BodyLength.Statement .seatTimerExpiry := by
  intro body h
  cases h

theorem BodyLength.autoparkTimerExpiry : BodyLength.Statement .autoparkTimerExpiry := by
  intro body h
  cases h

theorem BodyLength.pendantPairDebounced : BodyLength.Statement .pendantPairDebounced := by
  intro body h
  cases h

theorem BodyLength.holdExpiry : ∀ a, BodyLength.Statement (.holdExpiry a) := by
  intro a body h
  cases h

theorem BodyLength.expiryTrainEnd : BodyLength.Statement .expiryTrainEnd := by
  intro body h
  cases h

theorem BodyLength.releaseTimerExpiry : BodyLength.Statement .releaseTimerExpiry := by
  intro body h
  cases h

theorem BodyLength.driveReportStale : BodyLength.Statement .driveReportStale := by
  intro body h
  cases h

theorem BodyLength.keepaliveWindowOpens : BodyLength.Statement .keepaliveWindowOpens := by
  intro body h
  cases h

theorem BodyLength.keepaliveWindowCloses : BodyLength.Statement .keepaliveWindowCloses := by
  intro body h
  cases h

theorem BodyLength.criticalDeadlineExpiry : ∀ a, BodyLength.Statement (.criticalDeadlineExpiry a) := by
  intro a body h
  cases h

theorem BodyLength.startTimerExpiry : BodyLength.Statement .startTimerExpiry := by
  intro body h
  cases h

theorem BodyLength.retryTimerExpiry : BodyLength.Statement .retryTimerExpiry := by
  intro body h
  cases h

theorem BodyLength.degradedTimerExpiry : BodyLength.Statement .degradedTimerExpiry := by
  intro body h
  cases h

theorem BodyLength.clkrefIntervalEnd : BodyLength.Statement .clkrefIntervalEnd := by
  intro body h
  cases h

theorem BodyLength.clockMonitorTimeout : BodyLength.Statement .clockMonitorTimeout := by
  intro body h
  cases h

theorem BodyLength.sleepEntry : BodyLength.Statement .sleepEntry := by
  intro body h
  cases h

theorem BodyLength.wake : ∀ a, BodyLength.Statement (.wake a) := by
  intro a body h
  cases h

theorem BodyLength.expiryCountdown : BodyLength.Statement .expiryCountdown := by
  intro body h
  cases h

end Sys2Proof.Laws
end

