-- ==== Sys2Proof/Tests/Slice0.lean ====
section
/-! SUPPORT. Tests: the WellFormed checks, the check byte and frames, the worked examples of the spec, and for each statement
a concrete state that meets its hypotheses. Expected values are the spec's (its section is named) unless a test says so. -/

namespace Sys2Proof.Tests

open Sys2Proof Sys2Proof.Machine

set_option maxRecDepth 8000
-- One proof at a time: many kernel evaluations side by side would take more memory than a check allows.
set_option Elab.async false

/-! ## WellFormed refuses ill-formed commands -/

/-- A short exchange has fewer than twelve bytes (R170). -/
theorem test_wellFormed_short :
    (Instr.shortExchange (List.replicate 12 0)).wellFormed = false ∧
      (Instr.shortExchange (List.replicate 11 0)).wellFormed = true := by decide

/-- A known code is no unknown request (R178). -/
theorem test_wellFormed_unknown :
    (Instr.unknownRequest 0x52).wellFormed = false ∧ (Instr.unknownRequest 0x53).wellFormed = true := by decide

/-- Handles run from 1 to 255 (R5). -/
theorem test_wellFormed_handle :
    (Instr.holdExpiry 0).wellFormed = false ∧ (Instr.holdExpiry 256).wellFormed = false ∧
      (Instr.holdExpiry 255).wellFormed = true := by decide

/-- A sample set with an accelerometer reading. -/
def sampleOf (psv psu : Int) (acx : Int) : SampleSet := ⟨.const psv, .const psu, 800, 800, acx⟩

/-- A reading beyond the rails of the converter is no reading (R37). -/
theorem test_wellFormed_sample :
    (Instr.sampleArrival (sampleOf 0 600 2001)).wellFormed = false ∧
      (Instr.sampleArrival (sampleOf 0 600 (-2000))).wellFormed = true := by decide

/-! ## The check byte and the frames -/

/-- The registers of the worked example of 9.10 after the first, the sixth and the eleventh byte of 00h. -/
theorem test_crc8_example :
    crc8 [0] = 0xC4 ∧ crc8 (List.replicate 6 0) = 0x09 ∧ crc8 (List.replicate 11 0) = 0x1D := by decide

/-- Twelve bytes of 00h are no idle request, and eleven of 00h with 1Dh are (9.10). -/
theorem test_idle_frame :
    commandOfExchange (List.replicate 12 0) = .badframe 0 ∧
      commandOfExchange (List.replicate 11 0 ++ [0x1D]) = .idleRequest := by decide

/-- An OPEN HOLD laid out byte by byte from R189: CAB, FIRM, tag 7, expiry 300; bytes past the twelfth are ignored (R169). -/
theorem test_openHold_frame :
    commandOfExchange (closeFrame [0x20, 1, 2, 1, 7, 0x01, 0x2C, 9, 9, 9, 9] ++ [1, 2]) =
      .openHold 1 2 1 7 300 := by decide

/-- A DRIVE STATE of −300 daN in FORWARD, its force in two's complement, most significant byte first (R173, R189). -/
theorem test_driveState_frame :
    commandOfExchange (closeFrame [0x30, 0, 0xFE, 0xD4, 1, 0, 0, 0, 0, 0, 0]) = .driveState 0xFED4 1 ∧
      (0xFED4 : Word16).toInt = -300 := by decide

/-- The answer frame of the idle answer ends with 1Dh (9.10). -/
theorem test_idle_answer : Answer.idle.frame = List.replicate 11 0 ++ [0x1D] := by decide

/-- An exchange of fourteen bytes shifts out the idle answer and 00h twice; without power the host reads 00h alone (R170,
9.10). -/
theorem test_shiftedOut :
    State.reset.shiftedOut 14 = List.replicate 11 0 ++ [0x1D, 0, 0] ∧ State.reset.shiftedOut 3 = [0, 0, 0] ∧
      { State.reset with powered := false }.shiftedOut 12 = List.replicate 12 0 := by decide

/-- No row of the table gives bits, so no word spells a command. -/
theorem test_no_word : decodeTableWord 32 0x20 = none ∧ State.reset.withFetchWord 32 0x20 = State.reset :=
  ⟨rfl, rfl⟩

/-! ## The step -/

/-- A step takes the command at the front and leaves the rest waiting. -/
theorem test_step_front :
    ∃ t, step (State.reset.withPending [.ident, .status]) = .next t ∧ t.pending = [.status] ∧
      t.link.slot = ⟨0x01, .done, .none, [0x5A, 0xB6, 3, 0xC6, 0x40, 0, 0, 0]⟩ := ⟨_, rfl, rfl, rfl⟩

/-! ## The state after reset -/

/-- A part as it leaves the factory before its first power-on reset. -/
def beforePower : State :=
  { State.reset with powered := false, table := HoldTable.reset, dist := Distribution.empty }

/-- The power-on reset of R166 and R167 gives the reset state, computed by the model's own reset sequence. -/
theorem test_powerOn : beforePower.powerOn = State.reset := by decide +kernel

/-- The factory image is stored with its CRC and is accepted (R192, R194). -/
theorem test_factory_image :
    Profile.factory.crc = State.reset.store.crc ∧ Profile.factory.inRanges = true ∧
      Profile.factory.constraints = true := by decide +kernel

/-- The built-in set lies within the ranges and the constraints (R193). -/
theorem test_builtIn : Profile.builtIn.inRanges = true ∧ Profile.builtIn.constraints = true := by decide +kernel

/-- The figures of the worked example of 3.9 at power-on. -/
theorem test_power_on_forces :
    State.reset.calculate = ⟨19572, 19572, 20000, 1200, 20772, 24927, 31158, 41544, 41544⟩ := by decide +kernel

/-! ## The reference truck -/

/-- A channel's items of the reference truck (4.9). -/
def refItems (fitted role hasSpring line circuit gain pushout pFull cap staticLoad : Word16) : ChannelItems :=
  { fitted := fitted, role := role, hasSpring := hasSpring, liftLine := line, circuit := circuit, gain := gain,
    pushout := pushout, pFull := pFull, springCap := cap, staticLoad := staticLoad, loadOffset := 0, loadGain := 1000,
    minLoad := 0, maxLoad := 20000, failSafe := 1 }

/-- The reference truck's profile, as far as 4.9 and 3.10 give it. -/
def refProfile : Profile where
  vehicle := { VehicleItems.builtIn with mu := 400 }
  channels :=
    ⟨refItems 1 1 0 0 1 600 40 900 0 8000, refItems 1 4 0 1 1 600 40 900 0 3500,
     refItems 1 2 1 0 1 1000 50 1100 4500 11000, refItems 1 2 1 0 2 1000 50 1100 4500 11000,
     refItems 1 3 1 0 2 400 50 800 2000 3500, refItems 0 3 0 0 1 500 60 1000 3000 0⟩

/-- A HELD record. -/
def heldRecord (h : Nat) (o : Owner) (k : HoldClass) : Record := ⟨h, o, k, .held, none, none, none, false⟩

/-- The START record, HELD. -/
def heldStart : Record := ⟨1, .monitor, .park, .held, some .start, none, none, false⟩

/-- A channel in a state, its test timers stopped. -/
def chanIn (state : ChanState) : Channel := { Channel.atReset state .stopped .stopped 0 2 with confirmed := true }

/-- The reference truck in RUN at standstill, both reservoirs at 800 kPa, with its loads of 4.9, over some records, at the moment
of a sample set. -/
def truck (records : List Record) : State :=
  { State.reset with
    table := { State.reset.table with records := records, nextHandle := 9 }
    store := { State.reset.store with working := refProfile, image := refProfile }
    ctl := ⟨.run, 0, 0, .windowOpen, some ⟨0, 200⟩, .stopped, false, false, .measuring 15⟩
    meas :=
      { State.reset.meas with
        grade := 174
        weight := 31392
        drum := .agitate
        loads := ⟨8000, 0, 10000, 10000, 3392, 0⟩
        supplyA := ⟨.valid 800, 750, false⟩
        supplyB := ⟨.valid 800, 750, false⟩
        sampleTimer := .running 20 }
    chans := ⟨chanIn .service, chanIn .lifted, chanIn .service, chanIn .service, chanIn .service, chanIn .absent⟩
    mon := { State.reset.mon with motion := .standstill, standstill := .ranOut } }

/-- The figures of the reference truck with a CAB FIRM and a DRUM PARK hold (3.10). -/
theorem test_reference_forces :
    (truck [heldRecord 2 .cab .firm, heldRecord 3 .drum .park]).calculate =
      ⟨5568, 5568, 19392, 582, 6150, 7380, 9225, 12300, 12300⟩ := by decide +kernel

/-- The truck with A at a figure. -/
def truckAt (records : List Record) (a : Nat) : State :=
  { truck records with table := { (truck records).table with applied := a } }

/-- The distribution of a truck over its loads in force. -/
def distOf (s : State) : Distribution := s.distribution s.meas.loads

/-- The shares, pressures and duties of a distribution in channel order. -/
def figuresOf (d : Distribution) : List (Nat × Nat × Nat) := d.cmds.toList.map fun k => (k.share, k.pressure, k.duty)

/-- The FIRM hold in case N (4.9): shares, pressures and duties, one daN above A, SHORT clear. -/
theorem test_firm_distribution :
    figuresOf (distOf (truckAt [heldRecord 2 .cab .firm] 9225)) =
        [(2351, 432, 480), (0, 0, 0), (2939, 344, 313), (2939, 344, 313), (997, 300, 375), (0, 0, 0)] ∧
      (distOf (truckAt [heldRecord 2 .cab .firm] 9225)).total = 9226 ∧
      (distOf (truckAt [heldRecord 2 .cab .firm] 9225)).short = none := by decide +kernel

/-- The PARK hold added, case P (4.9): the springs hold 9356 and the steer axle the rest. -/
theorem test_park_distribution :
    figuresOf (distOf (truckAt [heldRecord 2 .cab .firm, heldRecord 3 .drum .park] 12300)) =
        [(2944, 531, 590), (0, 0, 0), (0, 0, 0), (0, 0, 0), (0, 0, 0), (0, 0, 0)] ∧
      (distOf (truckAt [heldRecord 2 .cab .firm, heldRecord 3 .drum .park] 12300)).cmds.toList.map Command.spring =
        [0, 0, 4000, 4000, 1356, 0] ∧
      (distOf (truckAt [heldRecord 2 .cab .firm, heldRecord 3 .drum .park] 12300)).short = none := by decide +kernel

/-- The steep site (4.9): every axle at its friction limit, SHORT with kind TRACTION. -/
theorem test_steep_distribution :
    (distOf (truckAt [heldRecord 3 .drum .park] 19084)).total = 12556 ∧
      (distOf (truckAt [heldRecord 3 .drum .park] 19084)).short = some .traction ∧
      (distOf (truckAt [heldRecord 3 .drum .park] 19084)).cmds.c1.duty = 638 := by decide +kernel

/-- Circuit A low under the FIRM hold (4.9): channel 3 by its springs, channel 1 at its cap, two passes. -/
theorem test_low_supply_distribution :
    (distOf { truckAt [heldRecord 2 .cab .firm] 9225 with
        meas := { (truck []).meas with supplyA := ⟨.valid 300, 250, true⟩ } }).cmds.toList.map
      (fun k => (k.spring, k.share)) = [(0, 1260), (0, 0), (4000, 0), (0, 2961), (0, 1005), (0, 0)] := by
  decide +kernel

/-- The result of a command that goes on. -/
def after (i : Instr) (s : State) : State :=
  match exec i s with
  | .next t => t
  | _ => s

/-- The wrap of the handle counter (1.12): with 255, 1 and 4 live and the counter at 255, the record takes 2. -/
theorem test_handle_wrap :
    (⟨[heldRecord 255 .cab .light, heldRecord 1 .drum .light, heldRecord 4 .drum .firm], 255, 0, .stopped, 0⟩ :
      HoldTable).newHandle = 2 ∧ nextAfter 2 = 3 := by decide

/-- OPEN HOLD beside the FIRM hold (1.13, 3.10): DONE with the handle, and A rises to 12300. -/
theorem test_openHold :
    (after (.openHold 2 3 0 0 0) (truckAt [heldRecord 2 .cab .firm] 9225)).link.slot =
        ⟨0x20, .done, .none, [9, 0, 0, 0, 0, 0, 0, 0]⟩ ∧
      (after (.openHold 2 3 0 0 0) (truckAt [heldRecord 2 .cab .firm] 9225)).table.applied = 12300 := by
  decide +kernel

/-- DRUM STATE DISCHARGE without a weight (1.13): A rises to 12688. -/
theorem test_drumState :
    (after (.drumState 4 0 0) (truckAt [heldRecord 2 .cab .firm, heldRecord 3 .drum .park] 12300)).table.applied =
      12688 := by decide +kernel

/-- The last hold released on the grade without a drive: PENDING, RELEASING, the gate armed (1.12, R19, R107). -/
theorem test_releaseHold_last :
    (after (.releaseHold 1 2) (truckAt [heldRecord 2 .cab .firm] 9225)).link.slot =
        ⟨0x22, .pending, .none, [2, 0, 0, 0, 0, 0, 0, 0]⟩ ∧
      (after (.releaseHold 1 2) (truckAt [heldRecord 2 .cab .firm] 9225)).gate = ⟨true, 2, some 6000, false, false⟩ := by
  decide +kernel

/-- The truck while its last hold is being released. -/
def releasing : State := after (.releaseHold 1 2) (truckAt [heldRecord 2 .cab .firm] 9225)

/-- A forward drive on a grade with the front lower lets the truck go: A falls to 0 (R108, R116). -/
theorem test_driveState_lets_go :
    (after (.driveState 1000 1) releasing).table.records = [] ∧ (after (.driveState 1000 1) releasing).table.applied = 0 ∧
      (after (.driveState 1000 1) releasing).mon.ref = .clear := by decide +kernel

/-- A reverse drive must overcome the grade: −5767 does not, −5768 does (R108). -/
theorem test_driveState_uphill :
    (after (.driveState (BitVec.ofInt 16 (-5767)) 2) releasing).gate.armed = true ∧
      (after (.driveState (BitVec.ofInt 16 (-5768)) 2) releasing).gate.armed = false := by decide +kernel

/-- Twelve holds of DRUM and CAB, the pendant's opening owed, and the one PARK hold among them released in RUN with the driver
gone: the AUTOPARK hold takes the handle just retired, and the owed opening is still made (R5, R26, R138, R141). -/
theorem test_retry_beside_autopark :
    (after (.releaseHold 2 9)
        { truck (heldRecord 9 .drum .park :: (List.range 11).map fun i =>
            heldRecord (20 + i) (if i < 6 then .cab else .drum) .light) with
          lines := { State.reset.lines with pa := true, pb := false, pair := .asking }
          mon := { (truck []).mon with pendantWant := .untilRoom, autopark := .ranOut } }).table.records.filterMap
      (fun r => if r.owner = .monitor ∨ r.owner = .pendant then some (r.handle, r.owner) else none) =
        [(9, .monitor), (10, .pendant)] := by decide +kernel

/-- An opening that waited for the truck to stop moving is made when the moving timer runs out: PENDANT, FIRM (R26, R124). -/
theorem test_movingTimer_pendant :
    (after .movingTimerExpiry
        { truck [heldStart] with
          lines := { State.reset.lines with pa := true, pb := false, pair := .asking }
          mon := { (truck []).mon with moving := some 0, motion := .moving, pendantWant := .untilStill false } }
      ).table.records.map (fun r => (r.handle, r.owner, r.cls)) = [(1, .monitor, .park), (9, .pendant, .firm)] := by
  decide +kernel

/-- The beat of the expiries with the driver absent: a count that stands at 1 reaches 0 and its record becomes PARK in that same
step, another falls by one, and a record without an expiry stands (R1, R22, R23). -/
theorem test_countdown_expires :
    let s := truck [{ heldRecord 2 .cab .firm with expiry := some 1 }, { heldRecord 3 .cab .light with expiry := some 5 },
      heldRecord 4 .drum .light]
    let t := after .expiryCountdown { s with table := { s.table with beat := 200 } }
    t.table.records.map (fun r => (r.handle, r.cls, r.expiry)) =
        [(2, .park, none), (3, .light, some 4), (4, .light, none)] ∧
      t.link.lastHandle = 2 ∧ t.table.beat = 0 := by decide +kernel

/-- The idling part at the beat: the expiry of the count that stands at 1 is due, and the beat of the others after it (R22). -/
theorem test_expiries_due :
    let s := truck [{ heldRecord 2 .cab .firm with expiry := some 1 }, { heldRecord 3 .cab .light with expiry := some 5 }]
    { s with table := { s.table with beat := 200 } }.dueOfExpiries = [.holdExpiry 2] ∧
      { s with table := { s.table with beat := 199 } }.dueOfExpiries = [] ∧
      { truck [heldStart] with table := { (truck [heldStart]).table with beat := 200 } }.dueOfExpiries =
        [.expiryCountdown] := by decide

/-- A sample set is taken 10 ms after the one before it and not sooner; the part takes its own, over what the inputs show (R32). -/
theorem test_sample_period :
    let s := truck [heldStart]
    let early : State := { s with meas := { s.meas with sampleTimer := .running 19 } }
    (after (.sampleArrival (sampleOf 100 600 0)) s).meas.psv = .const (.valid 100) ∧
      (after (.sampleArrival (sampleOf 100 600 0)) s).meas.sampleTimer = .running 0 ∧
      (after (.sampleArrival (sampleOf 100 600 0)) early).meas =
        { early.meas with inputs := sampleOf 100 600 0 } ∧
      Instr.sampleArrival s.meas.inputs ∈ s.dueEvents ∧ early.sampleDue = false := by decide +kernel

/-- The last hold runs out with the driver present: the table is empty, A 0, and the reference in WATCH from 0 (R24, R126). -/
theorem test_expiry_watch :
    let t := after (.holdExpiry 2)
      { truckAt [{ heldRecord 2 .cab .firm with expiry := some 1 }] 9225 with
        table :=
          { (truck []).table with records := [{ heldRecord 2 .cab .firm with expiry := some 1 }], beat := 200 }
        mon := { (truck []).mon with driverPresent := true } }
    t.table.records = [] ∧ t.table.applied = 0 ∧ t.mon.ref = .watch ∧ t.mon.watchAfter = .running 0 ∧
      t.mon.train = .running 0 := by decide +kernel

/-- A restore of channel 2, its lift line RAISED, leaves it LIFTED and makes a run (R104, R120): A = 9225 shared over the static
loads 8000, 11000, 11000 and 3500 of channels 1, 3, 4 and 5, worked by hand from R71, R75 and R76. -/
theorem test_restore_to_lifted :
    let t := after (.channelRestore 2) ((truckAt [heldRecord 2 .cab .firm] 9225).withChan 1
      { chanIn .faulted with cause := some .pressure, lift := true })
    (t.chans.get 1).state = .lifted ∧ figuresOf t.dist =
      [(2203, 408, 454), (0, 0, 0), (3030, 353, 321), (3030, 353, 321), (964, 291, 364), (0, 0, 0)] := by
  decide +kernel

/-- The release of an AUTOPARK record sets the inhibit, and that of a hold of CAB does not (R139). -/
theorem test_release_inhibits :
    let s := truck [heldRecord 2 .cab .firm, { heldStart with handle := 3, cause := some .autopark }]
    (after (.releaseHold 1 3) s).mon.inhibit = true ∧ (after (.releaseHold 1 2) s).mon.inhibit = false := by
  decide +kernel

/-- A keepalive with the token answer 255 − t in the open window renews the window from its own moment (R149, R150). -/
theorem test_keepalive :
    (after (.keepalive 255) (truck [heldStart])).ctl.window = some ⟨100, 200⟩ ∧
      (after (.keepalive 255) (truck [heldStart])).ctl.token = 37 := by decide +kernel

/-- A keepalive with a wrong answer in RUN takes the part to DEGRADED (R152). -/
theorem test_keepalive_wrong :
    (after (.keepalive 254) (truck [heldStart])).ctl.mode = .degraded ∧
      (after (.keepalive 254) (truck [heldStart])).ctl.degradations = 1 := by decide +kernel

/-- A limit pulse at a creep limit of 1 pulse left opens the ROLLAWAY hold (R128, R130). -/
theorem test_wheelPulse_limit :
    (after (.wheelPulse 2)
        { truck [heldStart] with
          mon := { (truck []).mon with ref := .holding, wheels := .const ⟨none, 7, false⟩ } }).table.records.map
      Record.cause = [some .start, some .rollaway] := by decide +kernel

/-- The grade of a window that is not full is its worst entry, the newest among equals (R36). -/
theorem test_grade_worst : gradeOf 0 [170, -180, 180, 175] = 180 ∧ gradeOf 0 [180, -180, 175] = -180 := by decide

/-- The mean of a full window is rounded away from zero (R36). -/
theorem test_grade_mean :
    gradeOf 0 (List.replicate 15 174 ++ [175]) = 175 ∧ gradeOf 0 (List.replicate 15 (-174) ++ [-175]) = -175 := by
  decide

/-- At the first sample after a wake that finds a circuit not low, the run uses the static loads (R79). -/
theorem test_second_run_after_wake :
    (truck []).supplyRunLoads true = ⟨8000, 0, 11000, 11000, 3500, 0⟩ ∧
      (truck []).supplyRunLoads false = (truck []).meas.loads := by decide +kernel

/-- A FAULTED channel keeps its recorded lift level at a wake; a LIFTED one whose line reads LOWERED joins (R101). -/
theorem test_lift_level_at_wake :
    ((chanIn .faulted).wake (some .lift1) true 1).lift = false ∧
      ((chanIn .lifted).wake (some .lift1) false 1).state = .idle := by decide

/-- An INVALID sensor needs five readings in range in a row (R33). -/
theorem test_sensor_recovers :
    (Sensor.invalid 3).take 100 = .invalid 4 ∧ (Sensor.invalid 4).take 100 = .valid 100 ∧
      (Sensor.valid 100).take (-21) = .invalid 0 ∧ Sensor.unread.take (-20) = .valid 0 := by decide

/-! ## Witnesses: a state that meets the hypotheses of each statement -/

/-- RUN at standstill with the START record HELD and every output forced by nothing. -/
def runState : State := truck [heldStart]

/-- The same part in another mode, with another phase, mode timer and window. -/
def inMode (m : Mode) (p : Phase) (t : Timer) (w : Option Window) : State :=
  { runState with ctl := { runState.ctl with mode := m, phase := p, timer := t, window := w } }

/-- START with its timer at the end. -/
def startState : State := inMode .start .first (.running 4000) none

/-- RETRY with its timer at the end. -/
def retryState : State := inMode .retry .first (.running 8000) none

/-- DEGRADED awaiting a RESYNC, its timer at the end. -/
def degradedState : State := inMode .degraded .awaitResync (.running 60000) none

/-- SAFE. -/
def safeState : State := inMode .safe .none .stopped none

/-- SLEEP, its clock monitor stopped. -/
def sleepState : State :=
  { runState with
    ctl := ⟨.sleep, 0, 0, .none, none, .stopped, false, false, .stopped⟩
    meas := { runState.meas with sampleTimer := .stopped } }

/-- RUN with a sleep pending. -/
def sleepPendingState : State := { runState with ctl := { runState.ctl with sleepPending := true } }

/-- A part that owes nothing, with its queue empty: the hypothesis of the idle step, with and without power. -/
theorem witness_IdleQueuesWhatIsDueOrTicks :
    runState.pending = [] ∧ runState.powered = true ∧ { runState with powered := false }.pending = [] ∧
      startState.dueEvents ≠ [] ∧
      { State.reset with chans := .const (Channel.atReset .absent .stopped .stopped 0 2) }.dueEvents = [] := by
  decide +kernel

theorem witness_PowerOnGivesTheResetState :
    State.reset.store = State.reset.store ∧ State.reset.lines = State.reset.lines ∧
      (∀ c, (State.reset.chans.get c).current = false) ∧ State.reset.meas.inputs = State.reset.meas.inputs := by
  refine ⟨rfl, rfl, ?_, rfl⟩
  decide

theorem witness_ResetLeaves :
    State.reset.resetsBy .powerOnReset ∧ runState.resetsBy .reset ∧ degradedState.resetsBy .reset := by
  unfold State.resetsBy State.takes
  decide

theorem witness_PowerLossLosesTheCommit :
    runState.powered = true ∧ runState.store.commit = none ∧
      { runState with store := { runState.store with commit := some ⟨0, refProfile⟩, mark := false } }.store.commit ≠
        none := by decide +kernel

theorem witness_takes : runState.takes ∧ startState.takes ∧ degradedState.takes ∧ safeState.takes := by
  unfold State.takes
  decide

theorem witness_PlainExchangesAnswer :
    runState.takes ∧ ([1, 2] : List Byte).length < 12 ∧ (0x53 : Byte) ∉ knownCodes := by
  unfold State.takes
  decide

theorem witness_StatusCollects :
    runState.takes ∧ runState.ctl.degradations ≤ 3 ∧ runState.table.records.length ≤ 16 ∧
      runState.table.applied ≤ 143268 ∧ runState.link.lastHandle ≤ 255 := by
  unfold State.takes
  decide

theorem witness_NoticeMaskEnables :
    runState.takes ∧ runState.ctl.mode ≠ .degraded ∧ runState.ctl.mode ≠ .safe := by
  unfold State.takes
  decide

theorem witness_AttnFollowsTheFlags : runState.powered = true := rfl

/-- Handles 0 and 9 are no live handle, page 4 and channel 7 do not exist, an item of each kind does. -/
theorem witness_ReadsAnswer :
    runState.takes ∧ (∀ r ∈ runState.table.records, r.handle ≠ (9 : Byte).toNat) ∧ 15 < (16 : Byte).toNat ∧
      runState.table.records.length ≤ (1 : Byte).toNat ∧ 3 < (4 : Byte).toNat ∧ (6 : Byte).toNat = (5 : Chan).val + 1 ∧
      6 < (7 : Byte).toNat ∧ itemAt 0x15 0 = none ∧ itemAt 0x14 0 = some (.vehicle 19) ∧
      itemAt 0x2E 6 = some (.channel 5 14) ∧ itemAt 0x1F 0 = some .commitCount := by
  unfold State.takes
  decide

/-- The table of the running part is sound. -/
theorem witness_tableSound : runState.table.sound := by
  unfold HoldTable.sound withinLimits Record.sound
  decide

/-- A live record with none after it, and one that another follows. -/
theorem witness_ReadHoldTells :
    runState.takes ∧ runState.table.sound ∧ runState.table.records[0]? = some heldStart ∧
      runState.table.records[1]? = none ∧
      (truck [heldRecord 2 .cab .firm, heldRecord 3 .cab .light]).table.records[1]? =
        some (heldRecord 3 .cab .light) :=
  ⟨witness_takes.1, witness_tableSound, rfl, rfl, rfl⟩

theorem witness_ModeRefuses :
    degradedState.takes ∧ degradedState.ctl.mode = .degraded ∧ safeState.takes ∧ safeState.ctl.mode = .safe ∧
      startState.takes ∧ startState.ctl.mode = .start := by
  unfold State.takes
  decide

theorem witness_FramesCarryTheirRequests :
    (Instr.releaseHold 1 2).wellFormed = true ∧
      encode (.releaseHold 1 2) = some (closeFrame [0x22, 1, 2, 0, 0, 0, 0, 0, 0, 0, 0]) := by decide

theorem witness_AnswersStayWhole : State.reset.link.slot.sound ∧ ∃ t, step State.reset = .next t := by
  exact ⟨⟨rfl, rfl⟩, _, rfl⟩

theorem witness_FirstKeepaliveEntersRun :
    startState.takes ∧ startState.ctl.mode = .start ∧ retryState.takes ∧ retryState.ctl.mode = .retry ∧
      (3 : Byte) ≠ 255 - startState.ctl.token := by
  unfold State.takes
  decide

theorem witness_KeepaliveWindowOpensAndRenews :
    runState.takes ∧ runState.ctl.mode = .run ∧ runState.ctl.phase = .windowOpen ∧
      (inMode .run .wait .stopped (some ⟨0, 200⟩)).ctl.window = some ⟨0, 200⟩ ∧
      (inMode .degraded (.resync 1 false) (.running 1) (some ⟨0, 200⟩)).ctl.phase = .resync 1 false := by
  unfold State.takes
  decide

/-- Each of the three supervision faults arises (R152). -/
theorem witness_SupervisionFault :
    runState.faultsBy (.keepalive 3) ∧
      (inMode .run .windowOpen .stopped (some ⟨0, 0⟩)).faultsBy .keepaliveWindowCloses ∧
      { runState with link := { runState.link with shortDeadline := .running 1000 } }.faultsBy
        (.criticalDeadlineExpiry .short) := by
  refine ⟨⟨rfl, rfl, .inl ⟨3, rfl, rfl, .inr ⟨rfl, by decide⟩⟩⟩, ⟨rfl, rfl, .inr (.inl ⟨rfl, rfl, _, rfl, ?_⟩)⟩,
    ⟨rfl, rfl, .inr (.inr ⟨_, _, rfl, rfl, ?_⟩)⟩⟩
  · exact Nat.zero_le _
  · exact Nat.le_refl _

theorem witness_ResyncRun :
    degradedState.takes ∧ degradedState.ctl.phase = .awaitResync ∧
      (inMode .degraded (.resync 2 true) (.running 1) (some ⟨0, 0⟩)).takes ∧
      (inMode .degraded (.resync 2 true) (.running 1) (some ⟨0, 0⟩)).ctl.mode = .degraded ∧
      (inMode .degraded (.resync 1 false) (.running 1) (some ⟨0, 0⟩)).takes := by
  unfold State.takes
  decide

theorem witness_ModeTimersRunOut :
    startState.powered = true ∧ startState.ctl.timer = .running 4000 ∧ Config.ms 2000 ≤ 4000 ∧
      retryState.ctl.timer = .running 8000 ∧ Config.ms 4000 ≤ 8000 ∧ degradedState.ctl.timer = .running 60000 ∧
      Config.ms 30000 ≤ 60000 := by decide

/-- The Mode Controller of SAFE is sound, and so is that of RUN. -/
theorem witness_SafeIsLatched :
    safeState.controlSound ∧ safeState.ctl.mode = .safe ∧ ∃ t, exec .clkrefIntervalEnd safeState = .next t := by
  refine ⟨⟨?_, ?_⟩, rfl, _, rfl⟩
  · simp [Control.sound, safeState, inMode, runState, truck]
  · simp [safeState, inMode, runState, truck, State.reset]

theorem witness_SupervisionKeepsItsLaw : runState.controlSound ∧ ∃ t, step runState = .next t := by
  refine ⟨⟨?_, ?_⟩, _, rfl⟩
  · simp [Control.sound, runState, truck]
  · simp [runState, truck]

theorem witness_SleepIsTakenAndEntered :
    runState.takes ∧ runState.ctl.mode = .run ∧ runState.maySleep ∧ ¬(truck []).maySleep ∧ (truck []).takes ∧
      sleepPendingState.powered = true ∧ sleepPendingState.ctl.mode ≠ .sleep ∧
      sleepPendingState.ctl.sleepPending = true ∧ sleepPendingState.maySleep := by
  unfold State.takes State.maySleep
  decide

/-- Each cause wakes: chip select, a line, and a limit pulse at the counter's last step. -/
theorem witness_WakeStartsAfresh :
    sleepState.powered = true ∧ sleepState.ctl.mode = .sleep ∧ sleepState.lines.wakes (.seat true) = true ∧
      { sleepState with mon := { sleepState.mon with ref := .holding, wheels := .const ⟨none, 7, false⟩ } }.limitBy 0 := by
  unfold State.limitBy
  decide

/-- The sleeping truck of 8.13: DRUM PARK with handle 30 HELD on level ground, and a degradation count of 1. -/
def asleep30 : State :=
  { sleepState with
    table := { sleepState.table with records := [heldRecord 30 .drum .park], nextHandle := 31, applied := 2000 }
    meas := { sleepState.meas with grade := 0 }
    link := { sleepState.link with pending := 0 }
    ctl := { sleepState.ctl with degradations := 1 } }

/-- Sleep and a pendant wake (8.13): PA and PB change together as the switch moves. The pair is read as ASKING, START entered
with the count kept and MODE alone raised, and the PENDANT hold opened with handle 31. -/
theorem test_pendant_wake :
    let t := after (.rawLineChange (.pair true false)) asleep30
    t.ctl.mode = .start ∧ t.ctl.token = 0 ∧ t.ctl.degradations = 1 ∧ t.lines.pair = .asking ∧ t.link.pending = 0x40 ∧
      t.table.records = [heldRecord 30 .drum .park, ⟨31, .pendant, .firm, .engaging, none, none, none, false⟩] := by
  decide +kernel

/-- The clause on the hold that a waking pendant opens: the pair wakes the part, asks, and finds room and no PENDANT record. -/
theorem witness_WakeStartsAfresh_pendant :
    asleep30.powered = true ∧ asleep30.ctl.mode = .sleep ∧ asleep30.lines.wakes (.pair true false) = true ∧
      asleep30.holdsSound ∧ asleep30.mon.motion ≠ .moving ∧
      (∀ r ∈ asleep30.table.records, r.owner ≠ .pendant) ∧ nonMonitorCount asleep30.table.records < 12 ∧
      (after (.wake (.line (.pair true false))) asleep30).lines.pair ≠ .notAsking ∧
      (after (.wake (.line (.pa true))) asleep30).lines.pair = .lineFault := by
  unfold State.holdsSound State.gateSound HoldTable.sound withinLimits Record.sound
  decide +kernel

/-- The sleeping truck with a PENDANT record after other holds, over a line that has asked and now reads PA and PB low. -/
def pendantAsleep (others : List Record) : State :=
  { asleep30 with
    table := { asleep30.table with records := others ++ [heldRecord 31 .pendant .firm] }
    lines := { asleep30.lines with pa := false, pb := false, pair := .asking } }

/-- A wake over a line that does not ask releases the PENDANT record (R143): retired beside another hold, and alone handed to
the gate in START. -/
theorem witness_WakeStartsAfresh_released :
    let t (others : List Record) : State := after (.wake (.line (.pb true))) (pendantAsleep others)
    (pendantAsleep [heldRecord 30 .drum .park]).holdsSound ∧ (pendantAsleep []).holdsSound ∧
      (pendantAsleep []).lines.wakes (.pb true) = true ∧ (pendantAsleep []).ctl.mode = .sleep ∧
      (t [heldRecord 30 .drum .park]).lines.pair = .notAsking ∧ (t []).lines.pair = .notAsking ∧
      (t [heldRecord 30 .drum .park]).table.records = [heldRecord 30 .drum .park] ∧
      (t []).table.records.map Record.state = [.releasing] ∧ (t []).gate.modeCause = true := by
  unfold State.holdsSound State.gateSound HoldTable.sound withinLimits Record.sound
  and_intros <;> decide +kernel

theorem witness_ClockMonitorJudges :
    runState.powered = true ∧ runState.ctl.clock = .measuring 15 ∧
      { runState with ctl := { runState.ctl with clock := .measuring 26 } }.ctl.clock = .measuring 26 := by decide

/-- The sleeping part with one channel FAULTED and the force its own runs ask for in force. -/
def faultedAsleep : State :=
  let s := sleepState.withChan 4 { chanIn .faulted with cause := some .pressure }
  { s with dist := s.distribution s.meas.loads }

/-- The laws that the clauses on the kept holds and on the lift levels ask for, asleep: sound holds, a pendant line that asks as
the table has it, a FAULTED channel, a channel with a lift line, and a stage from which a rollaway is caught. -/
theorem witness_WakeStartsAfresh_kept :
    faultedAsleep.powered = true ∧ faultedAsleep.ctl.mode = .sleep ∧ faultedAsleep.holdsSound ∧
      faultedAsleep.distSound ∧ (faultedAsleep.lines.pa = false ∧ faultedAsleep.lines.pb = true) ∧
      (∀ r ∈ faultedAsleep.table.records, r.owner ≠ .pendant ∧ r.cause ≠ some .rollaway) ∧
      (faultedAsleep.chans.get 4).state = .faulted ∧ (faultedAsleep.items 1).line = some .lift1 ∧
      (faultedAsleep.items 1).isFitted = true ∧ (faultedAsleep.chans.get 1).state = .lifted ∧
      faultedAsleep.mon.stage = .none := by
  unfold State.holdsSound State.gateSound HoldTable.sound withinLimits Record.sound State.distSound Command.sound
    State.memberSound
  refine ⟨?_, ?_, ⟨?_, ?_⟩, ?_, ?_, ?_, ?_, ?_, ?_, ?_, ?_⟩ <;> decide +kernel

/-- The holds of the running part are sound. -/
theorem witness_holdsSound : runState.holdsSound := by
  unfold State.holdsSound State.gateSound HoldTable.sound withinLimits Record.sound
  decide

/-- A truck with two CAB holds has sound holds. -/
theorem sound_two : (truck [heldRecord 2 .cab .firm, heldRecord 3 .cab .light]).holdsSound := by
  unfold State.holdsSound State.gateSound HoldTable.sound withinLimits Record.sound
  decide

/-- A truck with one CAB hold has sound holds. -/
theorem sound_one : (truck [heldRecord 2 .cab .firm]).holdsSound := by
  unfold State.holdsSound State.gateSound HoldTable.sound withinLimits Record.sound
  decide

/-- A truck with a CAB hold whose count ends with the beat that has come round. -/
def expired : State :=
  let s := truck [{ heldRecord 2 .cab .firm with expiry := some 1 }]
  { s with table := { s.table with beat := 200 } }

theorem sound_expired : expired.holdsSound := by
  unfold State.holdsSound State.gateSound HoldTable.sound withinLimits Record.sound
  decide

/-- A truck whose last hold is RELEASING under the armed gate, its release timer and its drive report run out. -/
def releasingTruck : State :=
  { truck [{ heldRecord 2 .cab .firm with state := .releasing }] with
    gate := ⟨true, 2, some 0, false, false⟩
    meas := { (truck []).meas with driveAge := .running 400 } }

/-- The same release under another mode and its supervision, the mode suspending the gate, over a drive force or none. -/
def releasingIn (m : Mode) (p : Phase) (t : Timer) (w : Option Window) (drive : Int) : State :=
  { releasingTruck with
    ctl := (inMode m p t w).ctl
    gate := ⟨true, 2, some 0, false, true⟩
    force := releasingTruck.calculate
    meas := { releasingTruck.meas with driveForce := drive, gear := .forward } }

/-- A release pending at the entry into RUN, by the first keepalive and by the third of a RESYNC run: the gate lets the truck go,
and it does not; and one pending at the RETRY timer's end. -/
theorem witness_releasingIn :
    let first := releasingIn .start .first (.running 1) none
    let third := releasingIn .degraded (.resync 2 true) (.running 1) (some ⟨0, 200⟩)
    (first 1000).takes ∧ (first 1000).holdsSound ∧ (first 1000).gate.armed = true ∧
      (first 1000).letsGo (first 1000).force (first 1000).meas.drive ∧
      ¬(first 0).letsGo (first 0).force (first 0).meas.drive ∧ (third 1000).takes ∧ (third 1000).holdsSound ∧
      (third 1000).letsGo (third 1000).force (third 1000).meas.drive ∧
      (releasingIn .retry .first (.running 8000) none 0).holdsSound ∧
      ¬(after (.keepalive 255) (first 1000)).gate.armed = true ∧
      (after (.keepalive 255) (first 0)).gate = ⟨true, 2, some 0, false, false⟩ := by
  unfold State.takes State.holdsSound State.gateSound HoldTable.sound withinLimits Record.sound State.letsGo
  and_intros <;> decide +kernel

/-- A release cancelled by a supervision fault, from RUN into DEGRADED and into SAFE, with no hold opened after it (R119). -/
theorem witness_SupervisionFault_armed :
    releasingTruck.faultsBy (.keepalive 3) ∧ releasingTruck.gate.armed = true ∧ releasingTruck.ctl.degradations < 2 ∧
      releasingTruck.mon.autopark ≠ .ranOut ∧
      (after (.keepalive 3) releasingTruck).link.lastReason = .mode ∧
      (after (.keepalive 3) releasingTruck).table.records = [heldRecord 2 .cab .firm] ∧
      { releasingTruck with mon := { releasingTruck.mon with motion := .creeping } }.mon.motion ≠ .standstill := by
  refine ⟨⟨rfl, rfl, .inl ⟨3, rfl, rfl, .inr ⟨rfl, by decide⟩⟩⟩, rfl, by decide, by decide, ?_, ?_, by decide⟩ <;>
    decide +kernel

theorem sound_releasing : releasingTruck.holdsSound := by
  unfold State.holdsSound State.gateSound HoldTable.sound withinLimits Record.sound
  decide

/-- The truck with a motion state. -/
def moving (s : State) (m : Motion) : State := { s with mon := { s.mon with motion := m } }

/-- Six CAB and six DRUM holds. -/
def twelve : List Record := (List.range 12).map fun i => heldRecord (20 + i) (if i < 6 then .cab else .drum) .light

/-- Every check of OPEN HOLD at its boundary, and an OPEN HOLD that passes them all. -/
theorem witness_OpenHoldChecksAndOpens :
    runState.takes ∧ runState.ctl.mode = .run ∧ badOpenHold 4 1 0 ∧ badOpenHold 0 1 0 ∧ badOpenHold 1 4 0 ∧
      badOpenHold 1 3 1 ∧ badOpenHold 1 2 601 ∧ ¬badOpenHold 3 2 600 ∧ ¬badOpenHold 1 3 0 ∧
      (moving runState .moving).mon.motion = .moving ∧ 12 ≤ nonMonitorCount (truck twelve).table.records ∧
      (truck [heldRecord 2 .service .firm, heldRecord 3 .service .light]).ownerFull 3 ∧
      nonMonitorCount (truck (twelve.take 6)).table.records < 12 ∧ (truck (twelve.take 6)).ownerFull 1 ∧
      ¬runState.ownerFull 3 ∧ runState.nothingFollows := by
  unfold State.takes badOpenHold State.ownerFull State.nothingFollows
  and_intros <;> decide +kernel

/-- Every check of AMEND HOLD at its boundary, and amends that pass them, with the class kept and changed. -/
theorem witness_AmendHoldChecksAndAmends :
    runState.takes ∧ badAmendHold 0 1 1 ∧ badAmendHold 1 4 1 ∧ badAmendHold 1 1 0 ∧ badAmendHold 1 1 601 ∧
      ¬badAmendHold 1 1 600 ∧ ¬badAmendHold 3 2 0 ∧
      (∀ r ∈ (truck [heldRecord 2 .cab .firm]).table.records, r.handle ≠ (3 : Byte).toNat) ∧
      (heldRecord 2 .cab .firm).handle = (2 : Byte).toNat ∧ (heldRecord 2 .cab .firm).owner.code = 1 ∧
      heldStart.owner.code ≠ 1 ∧ amendedExpiry 1 5 none ≠ none ∧ amendedExpiry 2 0 (some 5) = none ∧
      (heldRecord 2 .cab .firm).cls.code = 2 ∧ (heldRecord 2 .cab .firm).cls.code ≠ 3 := by
  unfold State.takes badAmendHold
  and_intros <;> decide

/-- Each case of RELEASE HOLD: refused to a stranger, a ROLLAWAY record not collected, one of two holds, the last one. -/
theorem witness_ReleaseHoldChecksAndReleases :
    runState.takes ∧ runState.ctl.mode = .run ∧ ¬runState.mayRelease 2 heldStart ∧ runState.mayRelease 1 heldStart ∧
      ¬runState.mayRelease 1 { heldStart with cause := some .rollaway } ∧
      1 < (truck [heldRecord 2 .cab .firm, heldRecord 3 .cab .light]).table.records.length ∧
      (truck [heldRecord 2 .cab .firm]).table.records = [heldRecord 2 .cab .firm] ∧
      (truck []).mayRelease 1 (heldRecord 2 .cab .firm) ∧ (truck [heldRecord 2 .cab .firm]).nothingFollows ∧
      (truck []).mayRelease 1 { heldStart with cause := some .autopark } := by
  refine ⟨witness_takes.1, rfl, ?_, ?_, ?_, by decide, rfl, rfl, by unfold State.nothingFollows; decide, ?_⟩
  · simp [State.mayRelease, heldStart]
  · simp [State.mayRelease, heldStart]
  · simp [State.mayRelease, heldStart]
  · simp [State.mayRelease, heldStart]

/-- A last PARK hold released while circuit B is low: the supply cause holds from the arming, and SUPPLY is raised (R114). -/
theorem witness_ReleaseHoldChecksAndReleases_supply :
    let s : State :=
      { truck [heldRecord 2 .cab .park] with meas := { (truck []).meas with supplyB := ⟨.unread, 500, true⟩ } }
    s.takes ∧ s.holdsSound ∧ s.lowSpring ∧ s.link.pending.getLsbD 4 = false ∧
      (after (.releaseHold 1 2) s).gate.supplyCause = true ∧
      (after (.releaseHold 1 2) s).link.pending.getLsbD 4 = true := by
  unfold State.takes State.lowSpring State.holdsSound State.gateSound HoldTable.sound withinLimits Record.sound
  and_intros <;> decide +kernel

/-- The condition of the gate and the supply-low spring channel, each met and not met. -/
theorem witness_letsGo :
    (truck []).letsGo (truck []).calculate 1 ∧ ¬(truck []).letsGo (truck []).calculate 0 ∧ ¬(truck []).lowSpring ∧
      { truck [] with meas := { (truck []).meas with supplyB := ⟨.unread, 500, true⟩ } }.lowSpring := by
  unfold State.letsGo State.lowSpring
  decide +kernel

/-- The distribution that an amend leaves, confirmed over a truck whose channels are, and not over one whose are not. -/
theorem witness_AmendHoldChecksAndAmends_confirmed :
    let r' : Record := ⟨2, .cab, .light, .engaging, none, none, none, false⟩
    ((truck [heldRecord 2 .cab .firm]).withHold r').distConfirmed = false ∧
      (runState.withHold { heldStart with state := .engaging }).table.records = [{ heldStart with state := .engaging }] ∧
      runState.distConfirmed = true := by decide +kernel

theorem witness_HoldsExpire :
    runState.powered = true ∧ runState.ctl.mode ≠ .sleep ∧
      { runState with table := { runState.table with beat := 200 } }.table.beat = Config.ms 100 ∧
      (∀ r ∈ runState.table.records, r.state ≠ .releasing → ∀ n, r.expiry = some n → 1 < n) ∧
      expired.table.beat = Config.ms 100 ∧ (∀ r ∈ expired.table.records, r.endsNext) ∧
      expired.holdsSound ∧ expired.powered = true ∧ expired.mon.driverPresent = false ∧
      { expired with mon := { expired.mon with driverPresent := true, train := .running 4000 } }.mon.train =
        .running (Config.ms 2000) ∧
      expired.table.records = [{ heldRecord 2 .cab .firm with expiry := some 1 }] ∧ expired.nothingFollows := by
  refine ⟨rfl, ?_, rfl, ?_, rfl, ?_, sound_expired, rfl, rfl, rfl, rfl, ?_⟩
  · decide
  · rintro r hr - n hn
    obtain rfl : r = heldStart := by simpa [runState, truck] using hr
    exact absurd hn (by simp [heldStart])
  · decide
  · unfold State.nothingFollows; decide

theorem witness_ReliefAndReleaseTimersRunOut :
    { runState with table := { runState.table with relief := .running 4000 } }.table.relief =
        .running (Config.ms 2000) ∧
      { runState with gate := ⟨true, 2, some 0, false, false⟩ }.gate.remaining = some 0 := by decide

theorem witness_GateFollowsTheDrive :
    releasingTruck.holdsSound ∧ releasingTruck.gate.armed = true ∧ releasingTruck.gate.supplyCause = false ∧
      releasingTruck.gate.modeCause = false ∧ releasingTruck.takes ∧
      releasingTruck.meas.driveAge = .running (Config.ms 200) ∧ releasingTruck.nothingFollows := by
  refine ⟨sound_releasing, rfl, rfl, rfl, ?_, rfl, ?_⟩
  · unfold State.takes; decide
  · unfold State.nothingFollows; decide

/-- The PARK hold of a truck being released while a spring channel's circuit is low, or after it was. -/
def parkReleasing (low supply : Bool) : State :=
  { truck [{ heldRecord 2 .cab .park with state := .releasing }] with
    gate := ⟨true, 2, some 40, supply, false⟩
    meas :=
      { (truck []).meas with
        driveAge := .running 400
        supplyB := if low then ⟨.valid 300, 250, true⟩ else ⟨.valid 800, 750, false⟩ } }

theorem sound_parkReleasing (low supply : Bool) : (parkReleasing low supply).holdsSound := by
  unfold State.holdsSound State.gateSound HoldTable.sound withinLimits Record.sound
  cases low <;> cases supply <;> decide

/-- The gate suspended by its supply cause: the reports, and the samples that begin and end the cause; and by the mode. -/
theorem witness_GateFollowsTheDrive_suspended :
    (parkReleasing true true).gate.armed = true ∧ (parkReleasing true true).gate.supplyCause = true ∧
      (parkReleasing true true).takes ∧ (parkReleasing true true).ctl.mode ≠ .degraded ∧
      (parkReleasing true true).powered = true ∧
      (parkReleasing true true).meas.driveAge = .running (Config.ms 200) ∧
      (parkReleasing true true).heldLow (parkReleasing true true) ∧
      ¬(parkReleasing true true).heldLow (parkReleasing false true) ∧ (parkReleasing true true).gate.modeCause = false ∧
      (parkReleasing true false).gate.supplyCause = false ∧ (parkReleasing true true).samplesNow := by
  unfold State.takes State.heldLow State.lowSpring
  refine ⟨?_, ?_, ?_, ?_, ?_, ?_, ?_, ?_, ?_, ?_, 20, rfl, ?_⟩ <;> decide +kernel

/-- The laws of SLEEP and of the holds, awake and asleep. -/
theorem witness_HoldsKeepTheirLaws :
    runState.holdsSound ∧ runState.sleepSound ∧ (∃ t, step runState = .next t) ∧ asleep30.holdsSound ∧
      asleep30.sleepSound ∧ ∃ t, step asleep30 = .next t := by
  unfold State.holdsSound State.gateSound HoldTable.sound withinLimits Record.sound State.sleepSound Line.atRest
  refine ⟨?_, ?_, ⟨_, rfl⟩, ?_, ?_, _, rfl⟩ <;> decide

/-- The truck with the results of its own runs in force. -/
def settled (s : State) : State := { s with force := s.calculate, dist := s.distribution s.meas.loads }

theorem witness_ForcesKeepTheirLaws :
    (settled (truckAt [heldRecord 2 .cab .firm] 9225)).forcesSound ∧
      ∃ t, step (settled (truckAt [heldRecord 2 .cab .firm] 9225)) = .next t := by
  refine ⟨?_, _, rfl⟩
  unfold State.forcesSound coversFloors
  decide +kernel

theorem witness_AppliedForceRatchets :
    runState.holdsSound ∧ ∃ t, exec .ident runState = .next t ∧
      holdSet t.table.records = holdSet runState.table.records ∧ t.table.nextHandle = runState.table.nextHandle :=
  ⟨witness_holdsSound, _, rfl, rfl, rfl⟩

/-- The moment of a sample set, and one that is not. -/
theorem witness_samplesNow :
    runState.samplesNow ∧ ¬{ runState with meas := { runState.meas with sampleTimer := .running 19 } }.samplesNow ∧
      ¬sleepState.samplesNow := by
  refine ⟨⟨20, rfl, by decide⟩, ?_, ?_⟩
  · rintro ⟨n, h, hn⟩
    obtain rfl : 19 = n := by simpa using h
    revert hn; decide
  · rintro ⟨n, h, -⟩
    exact Timer.noConfusion h

/-- An awake part with the gate idle, over holds and over none; a sensor lost, a supply-low changed, at the first sample after a
wake and later, and a P_avail strayed; a pressure in the band and one outside it. -/
theorem witness_SampleIsMeasured :
    runState.powered = true ∧ runState.ctl.mode ≠ .sleep ∧ runState.gate.armed = false ∧
      runState.table.records ≠ [] ∧ { truck [] with mon := State.reset.mon }.mon.motion ≠ .standstill ∧
      runState.losesSensor { runState with meas := { runState.meas with psv := .const (.invalid 0) } } 2 ∧
      runState.lowDiffers { runState with meas := { runState.meas with supplyA := ⟨.valid 300, 250, true⟩ } } ∧
      runState.meas.awaitsFirstSample = false ∧ sleepState.wakeUp.meas.awaitsFirstSample = true ∧
      State.reset.availStrays runState ∧ withinBand .service 100 130 ∧ ¬withinBand .service 100 131 ∧
      withinBand .idle 0 30 ∧ ¬withinBand .idle 0 31 ∧ (chanIn .service).judgedByPressure (runState.items 0) := by
  refine ⟨rfl, by decide, rfl, by decide, by decide, ⟨by decide, ⟨0, rfl⟩, ?_⟩, by unfold State.lowDiffers; decide, rfl,
    by decide +kernel, ⟨0, 500, rfl, by decide⟩, ?_, ?_, ?_, ?_, ?_⟩
  · intro n
    exact Sensor.noConfusion
  · unfold withinBand; decide
  · unfold withinBand; decide
  · unfold withinBand; decide
  · unfold withinBand; decide
  · unfold Channel.judgedByPressure; decide

/-- A standstill and an implausible reading, at the count before the last and at the last. -/
theorem witness_GradeFollowsTheWindow :
    runState.powered = true ∧ runState.ctl.mode ≠ .sleep ∧ runState.mon.motion = .standstill ∧
      runState.meas.forced = false ∧ runState.meas.implausible < 4 ∧ 600 < (601 : Int).natAbs ∧
      (-600 : Int).natAbs ≤ 600 := by decide

theorem witness_ReportsAreTaken :
    runState.gate.armed = false ∧ runState.takes ∧ runState.ctl.mode ≠ .degraded ∧ runState.ctl.mode ≠ .safe ∧
      { runState with meas := { runState.meas with driveAge := .running 400 } }.meas.driveAge =
        .running (Config.ms 200) := by
  unfold State.takes
  decide

theorem witness_FiguresStayInRange : runState.figuresSound ∧ ∃ t, step runState = .next t := by
  refine ⟨?_, _, rfl⟩
  unfold State.figuresSound Measure.gradeSound
  decide +kernel

theorem witness_DistributionKeepsItsLaw :
    (settled (truckAt [heldRecord 2 .cab .firm] 9225)).distSound ∧
      ∃ t, step (settled (truckAt [heldRecord 2 .cab .firm] 9225)) = .next t := by
  refine ⟨?_, _, rfl⟩
  unfold State.distSound Command.sound State.memberSound
  decide +kernel

/-- The report heard: every channel of E confirmed over HELD records; and an ENGAGING record over an unconfirmed one. -/
theorem witness_DistributionKeepsItsLaw_report :
    runState.reportSound ∧ (∃ t, step runState = .next t) ∧ State.reset.holdsSound ∧ State.reset.distSound ∧
      (∃ r ∈ State.reset.table.records, r.state = .engaging) ∧ State.reset.distConfirmed = false := by
  unfold State.reportSound State.holdsSound State.gateSound HoldTable.sound withinLimits Record.sound State.distSound
    Command.sound State.memberSound
  refine ⟨?_, ⟨_, rfl⟩, ?_, ?_, ?_, ?_⟩ <;> decide +kernel

theorem witness_ParkKeepsTheSpringsApplied :
    (settled (truckAt [heldStart] 12300)).springsSound ∧
      (∃ r ∈ (settled (truckAt [heldStart] 12300)).table.records, r.cls = .park) ∧
      ((truck []).items 2).isFitted = true ∧ ((truck []).items 2).springs = true ∧
      ((truck []).chans.get 2).state ≠ .faulted := by
  unfold State.springsSound State.latchSound State.memberSound State.parkPlaced
  decide +kernel

/-- The state with channel 3 changed. -/
def withC3 (f : Channel → Channel) : State := runState.withChan 2 (f (runState.chans.get 2))

theorem witness_ChannelTimersAndCurrents :
    runState.powered = true ∧ ((withC3 fun ch => { ch with pwm := some 0 }).chans.get 2).pwm = some 0 ∧
      ((withC3 fun ch => { ch with spring := .running 1200 }).chans.get 2).spring = .running (Config.ms 600) ∧
      (runState.chans.get 2).current ≠ true ∧
      ((withC3 fun ch => { ch with pwm := some 0, failsafeMarked := true }).chans.get 2).failsafeMarked = true := by
  decide

theorem witness_ChannelsFault :
    ((withC3 fun ch => { ch with window := .running 800, confirmed := false }).chans.get 2).window =
        .running (Config.ms 400) ∧
      ((withC3 fun ch => { ch with drift := .running 800 }).chans.get 2).drift = .running (Config.ms 400) ∧
      ((withC3 fun ch => { ch with mismatch := .running 100 }).chans.get 2).mismatch = .running (Config.ms 50) ∧
      (runState.chans.get 2).state = .service := by decide

theorem witness_ChannelRestoreRestores :
    runState.takes ∧ runState.ctl.mode = .run ∧ (3 : Byte).toNat = (2 : Chan).val + 1 ∧
      ((withC3 fun ch => { ch with state := .faulted, cause := some .pressure }).chans.get 2).state = .faulted ∧
      (runState.items 2).isFitted = true ∧ ¬(1 ≤ (7 : Byte).toNat ∧ (7 : Byte).toNat ≤ 6) := by
  unfold State.takes
  decide

/-- The restore under an armed gate: channel 4 joins a low circuit, which begins or continues the supply cause; the cause ends;
and it never arose. -/
theorem witness_ChannelRestoreRestores_armed :
    let s (low supply : Bool) : State := (parkReleasing low supply).withChan 3
      { chanIn .faulted with cause := some .pressure }
    (s true false).takes ∧ (s true false).gate.armed = true ∧ (s true false).holdsSound ∧ (s false true).holdsSound ∧
      (s true false).heldLow (after (.channelRestore 4) (s true false)) ∧
      ¬(s false true).heldLow (after (.channelRestore 4) (s false true)) ∧ (s false true).gate.supplyCause = true ∧
      ¬(s false false).heldLow (after (.channelRestore 4) (s false false)) ∧ (s false false).gate.supplyCause = false := by
  unfold State.takes State.heldLow State.lowSpring State.holdsSound State.gateSound HoldTable.sound withinLimits
    Record.sound
  and_intros <;> decide +kernel

/-- A fault under an armed gate: of a channel beside the low spring circuit, which continues or begins the supply cause; of the
last spring channel on it, which ends the cause; and with none (R112, R114, R120). -/
theorem witness_ChannelsFault_armed :
    let s (c : Chan) (low supply : Bool) : State := (parkReleasing low supply).withChan c
      { chanIn .service with confirmed := false, window := .running 800 }
    let t (c : Chan) (low supply : Bool) : State := after (.confirmationWindowExpiry c) (s c low supply)
    (s 0 true false).holdsSound ∧ (s 0 true false).gate.armed = true ∧ (s 0 true false).heldLow (t 0 true false) ∧
      (t 0 true false).gate.supplyCause = true ∧ ¬(s 2 false true).heldLow (t 2 false true) ∧
      (s 2 false true).gate.modeCause = false ∧ ¬(s 2 false false).heldLow (t 2 false false) ∧
      (t 2 false false).gate = (s 2 false false).gate := by
  unfold State.heldLow State.lowSpring State.holdsSound State.gateSound HoldTable.sound withinLimits Record.sound
  and_intros <;> decide +kernel

/-- The truck with a distribution in force and its first lift line settling on a level. -/
def lifting (raw : Bool) : State :=
  { settled (truckAt [heldRecord 2 .cab .firm] 9225) with
    lines := { State.reset.lines with lift1 := ⟨raw, !raw, .running 100⟩ } }

/-- The truck with channels 1, 2 and 5 on the first lift line: channel 2 LIFTED already, and the other two in E or LIFTED. -/
def liftingThree (raw : Bool) : State :=
  let s := lifting raw
  let on (v : ChannelItems) : ChannelItems := { v with liftLine := 1 }
  let k := refProfile.channels
  let u : State :=
    { s with
      store := { s.store with working := { refProfile with channels := { k with c1 := on k.c1, c5 := on k.c5 } } }
      chans := if raw then s.chans else { s.chans with c1 := chanIn .lifted, c5 := chanIn .lifted } }
  settled u.deriveWeight

/-- Two channels lifted by one line have a run each, in either order (R63, R98): by the friction limits of 4.9 over the static
loads, 3200 + 4400 + 4400 + 1400, the first run carries A = 9225 over what it leaves, the other channel among it, and the
second is SHORT and raises the notice (R74). Lowered again, the first run ends SHORT. -/
theorem test_two_channels_on_a_line :
    let run (raised : Bool) (cs : List Chan) (s : State) : State :=
      cs.foldl (fun u c => u.event fun v => v.liftOne raised c) s
    (liftingThree true).onLine .lift1 = [0, 1, 4] ∧
      (∀ p ∈ [((0 : Chan), (4 : Chan)), (4, 0)],
        let first := run true [p.1] (liftingThree true)
        let both := run true [p.1, p.2] (liftingThree true)
        ((liftingThree true).dist.short = none ∧ first.dist.short = none ∧
          first.link.pending = (liftingThree true).link.pending ∧ (first.dist.cmds.get p.1).share = 0 ∧
          0 < (first.dist.cmds.get p.2).share) ∧
          both.dist.short = some .traction ∧ both.link.pending.getLsbD 2 = true ∧
          (both.chans.get 0).state = .lifted ∧ (both.chans.get 4).state = .lifted) ∧
      (liftingThree false).dist.short = some .traction ∧
      ∀ c ∈ [(0 : Chan), 4], (run false [c] (liftingThree false)).dist.short = none := by
  decide +kernel

theorem witness_LiftLinesActOnTheirChannels_two :
    (liftingThree true).powered = true ∧ (liftingThree true).distSound ∧ (liftingThree false).distSound ∧
      ((liftingThree true).lines.lift .lift1).debounce = .running (Config.ms 50) ∧
      (liftingThree true).movesBy true 0 ∧ (liftingThree true).movesBy true 4 ∧ ¬(liftingThree true).movesBy true 1 ∧
      (liftingThree false).movesBy false 0 ∧ (liftingThree false).movesBy false 4 := by
  unfold State.distSound Command.sound State.memberSound State.movesBy
  and_intros <;> decide +kernel

theorem witness_LiftLinesActOnTheirChannels :
    (lifting true).powered = true ∧ (lifting true).distSound ∧
      ((lifting true).lines.lift .lift1).debounce = .running (Config.ms 50) ∧
      ((lifting false).lines.lift .lift1).raw = false ∧ ((lifting true).items 2).line ≠ some .lift1 ∧
      ((lifting true).items 1).line = some .lift1 ∧ (lifting true).gate.armed = false := by
  unfold State.distSound Command.sound State.memberSound
  decide +kernel

/-- A lift and a lowering of channel 2 under an armed gate, with the supply cause to begin and to end (R112, R120). -/
theorem witness_LiftLinesActOnTheirChannels_armed :
    let s (raw supply : Bool) : State :=
      { settled (parkReleasing raw supply) with
        lines := (lifting raw).lines
        chans := { (parkReleasing raw supply).chans with c2 := chanIn (if raw then .service else .lifted) } }
    (s true false).holdsSound ∧ (s true false).gate.armed = true ∧ ((s true false).items 1).line = some .lift1 ∧
      ((s true false).chans.get 1).state.tested = true ∧ ((s false true).chans.get 1).state = .lifted ∧
      (s true false).heldLow (after (.liftRaised .lift1) (s true false)) ∧
      ¬(s false true).heldLow (after (.liftLowered .lift1) (s false true)) := by
  unfold State.heldLow State.lowSpring State.holdsSound State.gateSound HoldTable.sound withinLimits Record.sound
  and_intros <;> decide +kernel

theorem witness_LinesAreDebounced : runState.powered = true ∧ runState.ctl.mode ≠ .sleep := by decide

theorem witness_PulsesAreCounted : runState.powered = true ∧ ¬runState.limitBy 0 := by
  unfold State.limitBy
  decide

/-- A truck one pulse short of the limit, at a stage. -/
def creeping (stage : Stage) : State :=
  { runState with mon := { runState.mon with ref := .holding, wheels := .const ⟨none, 7, false⟩, stage := stage } }

theorem witness_RollawayIsCaught :
    (creeping .none).powered = true ∧ (creeping .none).ctl.mode ≠ .sleep ∧ (creeping .none).limitBy 3 ∧
      (creeping .secured).limitBy 3 ∧ (creeping .caught).limitBy 3 ∧ (creeping .lost).limitBy 3 ∧
      (∀ r ∈ (creeping .none).table.records, r.cause ≠ some .rollaway) ∧ (creeping .none).table.records ≠ [] ∧
      (after (.wheelPulse 3) (creeping .none)).mon.stage = .caught ∧
      (after (.wheelPulse 3) (creeping .lost)).mon.wheels.get 3 = ⟨some 0, 8, true⟩ ∧
      (after (.wheelPulse 3) { creeping .none with table := (truck []).table }).countersAtZero := by
  unfold State.limitBy State.countersAtZero
  and_intros <;> decide +kernel

theorem witness_MotionTimersRunOut :
    runState.powered = true ∧ { runState with mon := { runState.mon with moving := some 0 } }.mon.moving = some 0 ∧
      { runState with mon := { runState.mon with standstill := .running 600 } }.mon.standstill =
        .running (Config.ms 300) ∧
      { runState with mon := { runState.mon with watchAfter := .running 10000 } }.mon.watchAfter =
        .running (Config.ms 5000) := by decide

/-- A truck whose moving timer has run out over some records, with a pendant opening waiting and the line asking. -/
def waiting (records : List Record) (told : Bool) : State :=
  { truck records with
    lines := { State.reset.lines with pa := true, pb := false, pair := .asking }
    mon := { (truck []).mon with moving := some 0, motion := .moving, pendantWant := .untilStill told } }

/-- Six CAB and six DRUM holds have no fault in them. -/
theorem sound_twelve : (truck twelve).holdsSound := by
  unfold State.holdsSound State.gateSound HoldTable.sound withinLimits Record.sound
  decide +kernel

/-- The waiting opening with room, with none, and with a PENDANT record live; and one whose line asks no more. -/
theorem witness_MotionTimersRunOut_pendant :
    (waiting [heldStart] false).holdsSound ∧ (waiting [heldStart] false).mon.moving = some 0 ∧
      (waiting [heldStart] false).mon.pendantWant = .untilStill false ∧ (waiting [heldStart] false).noPendant ∧
      (waiting [heldStart] false).lines.pair ≠ .notAsking ∧ (waiting [heldStart] false).ctl.mode ≠ .sleep ∧
      nonMonitorCount (waiting [heldStart] false).table.records < 12 ∧
      (waiting twelve true).noPendant ∧ 12 ≤ nonMonitorCount (waiting twelve true).table.records ∧
      (waiting [heldRecord 2 .pendant .firm] true).holdsSound ∧ ¬(waiting [heldRecord 2 .pendant .firm] true).noPendant ∧
      runState.lines.pair = .notAsking ∧ ∀ told, runState.mon.pendantWant ≠ .untilStill told := by
  unfold State.noPendant State.holdsSound State.gateSound HoldTable.sound withinLimits Record.sound
  refine ⟨?_, ?_, ?_, ?_, ?_, ?_, ?_, ?_, ?_, ?_, ?_, rfl, nofun⟩ <;> decide +kernel

theorem witness_DriverPresenceFollows :
    runState.powered = true ∧
      { runState with lines := { runState.lines with seat := ⟨true, false, .running 100⟩ } }.lines.seat.debounce =
        .running (Config.ms 50) ∧
      { runState with mon := { runState.mon with seatTimer := .running 3000 } }.mon.seatTimer =
        .running (Config.ms 1500) := by decide

theorem witness_AutoparkParks :
    (truck [heldRecord 2 .cab .firm]).holdsSound ∧ (truck [heldRecord 2 .cab .firm]).powered = true ∧
      { truck [] with mon := { (truck []).mon with autopark := .running 4000 } }.mon.autopark =
        .running (Config.ms 2000) ∧
      (∀ r ∈ (truck [heldRecord 2 .cab .firm]).table.records, r.cls ≠ .park) ∧ (truck []).mon.inhibit = false := by
  refine ⟨sound_one, rfl, rfl, ?_, rfl⟩
  decide

/-- The truck 2000 ms and more after standstill with the driver about to leave by the seat beside an open door, or by the door
over an empty seat, and the autopark condition met and not met. -/
theorem witness_AutoparkParks_lines :
    let s : State :=
      { truck [heldRecord 2 .cab .firm] with
        mon := { (truck []).mon with autopark := .ranOut, driverPresent := true }
        lines := { State.reset.lines with seat := ⟨false, true, .running 100⟩, door := ⟨true, true, .stopped⟩ } }
    s.powered = true ∧ s.mon.driverPresent = true ∧ (s.lines.driver .seat).debounce = .running (Config.ms 50) ∧
      s.parksWith True ∧ ¬runState.parksWith True ∧ s.autoparkSettled ∧ ∃ t, step s = .next t := by
  unfold State.parksWith State.autoparkSettled State.parksWith
  refine ⟨rfl, rfl, rfl, ?_, ?_, ?_, _, rfl⟩ <;> decide

theorem witness_PendantOpensAndReleases :
    runState.powered = true ∧ runState.holdsSound ∧
      { runState with lines := { runState.lines with pa := true, pairDebounce := .running 100 } }.lines.pairDebounce =
        .running (Config.ms 50) ∧
      runState.lines.pair = .notAsking ∧ nonMonitorCount runState.table.records < 12 ∧ runState.noPendant := by
  refine ⟨rfl, witness_holdsSound, rfl, rfl, ?_, ?_⟩
  · decide
  · unfold State.noPendant; decide

/-- A pair that settles on PA and PB over some records, having read another state. -/
def pairSettling (records : List Record) (was : PairState) (pa pb : Bool) : State :=
  { truck records with lines := { State.reset.lines with pa := pa, pb := pb, pair := was, pairDebounce := .running 100 } }

/-- A pair that comes to ask with room, with none, while MOVING, and beside a PENDANT record; one that stops asking, with no
PENDANT record, in SAFE, beside another hold, and as the last hold. -/
theorem witness_PendantOpensAndReleases_pair :
    (pairSettling [heldStart] .notAsking true true).lines.pairDebounce = .running (Config.ms 50) ∧
      pairRead true true = .lineFault ∧ pairRead false true = .notAsking ∧ (truck twelve).holdsSound ∧
      (truck twelve).noPendant ∧ 12 ≤ nonMonitorCount (truck twelve).table.records ∧
      (moving (truck [heldStart]) .moving).mon.motion = .moving ∧ (truck [heldRecord 2 .pendant .firm]).holdsSound ∧
      ¬(truck [heldRecord 2 .pendant .firm]).noPendant ∧
      (truck [heldRecord 2 .pendant .firm, heldRecord 3 .cab .light]).holdsSound ∧
      1 < (truck [heldRecord 2 .pendant .firm, heldRecord 3 .cab .light]).table.records.length ∧
      safeState.ctl.mode = .safe := by
  unfold State.noPendant State.holdsSound State.gateSound HoldTable.sound withinLimits Record.sound
  and_intros <;> decide +kernel

/-- The last PENDANT hold of a pair that stops asking drives off where the gate condition is met in RUN, and is held by the gate
where it is not, or in another mode (R107, R113). -/
theorem witness_PendantOpensAndReleases_last :
    let s (m : Mode) (d : Int) : State :=
      let p := pairSettling [heldRecord 2 .pendant .firm] .asking false true
      { p with
        force := p.calculate
        ctl := { p.ctl with mode := m }
        meas := { p.meas with driveForce := d, gear := .forward, driveAge := .running 0 } }
    let t (m : Mode) (d : Int) : State := after .pendantPairDebounced (s m d)
    (s .run 20000).holdsSound ∧ (s .run 20000).letsGo (s .run 20000).force (s .run 20000).meas.drive ∧
      (t .run 20000).table.records = [] ∧ ¬(s .run 0).letsGo (s .run 0).force (s .run 0).meas.drive ∧
      (t .run 0).gate.suspended = false ∧ (t .run 0).gate.armed = true ∧ (t .degraded 20000).gate.suspended = true := by
  unfold State.letsGo State.holdsSound State.gateSound HoldTable.sound withinLimits Record.sound
  and_intros <;> decide +kernel

/-- An opening that waits while a command passes; one owed for lack of room, whose law holds, over holds of which one is released
or runs out, at standstill and while MOVING. -/
theorem witness_PendantOpensAndReleases_owed :
    let owed : State :=
      { truck [] with
        table :=
          { (truck []).table with records := twelve.map fun r => { r with expiry := some 1 }, beat := 200 }
        lines := (waiting [] true).lines
        mon := { (truck []).mon with driverPresent := true, pendantWant := .untilRoom } }
    (∃ t, exec .ident (waiting [heldStart] false) = .next t) ∧ (waiting [heldStart] false).ctl.mode ≠ .sleep ∧
      owed.holdsSound ∧ owed.powered = true ∧ owed.takes ∧ owed.ctl.mode = .run ∧ owed.noPendant ∧
      owed.lines.pair ≠ .notAsking ∧ { heldRecord 20 .cab .light with expiry := some 1 } ∈ owed.table.records ∧
      owed.mayRelease 1 (heldRecord 20 .cab .light) ∧ 1 < owed.table.records.length ∧ owed.mon.motion ≠ .moving ∧
      (moving owed .moving).mon.motion = .moving ∧ owed.pendantSettled ∧ ∃ t, step owed = .next t := by
  unfold State.noPendant State.pendantSettled State.takes State.holdsSound State.gateSound HoldTable.sound withinLimits
    Record.sound
  refine ⟨⟨_, rfl⟩, ?_, ?_, ?_, ?_, ?_, ?_, ?_, ?_, rfl, ?_, ?_, ?_, ?_, _, rfl⟩ <;> decide +kernel

theorem witness_ReferenceKeepsItsLaw :
    runState.holdsSound ∧ runState.referenceSound ∧ ∃ t, step runState = .next t := by
  refine ⟨witness_holdsSound, ?_, _, rfl⟩
  unfold State.referenceSound Wheel.sound
  decide

/-- A ROLLAWAY record ENGAGING, its stage CAUGHT, over channels of which the last to confirm waits for its spring timer. -/
def caughtEngaging : State :=
  { (truck [{ heldStart with state := .engaging, cause := some .rollaway }]).withChan 2
      { chanIn .spring with confirmed := false, spring := .running 1200 } with
    mon := { (truck []).mon with ref := .holding, stage := .caught, wheels := .const ⟨none, 8, true⟩ } }

/-- The passage of the ROLLAWAY record to HELD; and a release that fails in SECURED. -/
theorem witness_ReferenceKeepsItsLaw_passage :
    caughtEngaging.holdsSound ∧ caughtEngaging.referenceSound ∧ caughtEngaging.mon.stage = .caught ∧
      caughtEngaging.ctl.mode ≠ .sleep ∧
      (∃ r ∈ (after (.springTimerExpiry 2) caughtEngaging).table.records, r.isRollaway = true ∧ r.state = .held) ∧
      (∃ t, exec .releaseTimerExpiry (creeping .secured) = .next t) ∧ (creeping .secured).mon.stage = .secured := by
  unfold State.referenceSound Wheel.sound State.holdsSound State.gateSound HoldTable.sound withinLimits Record.sound
  refine ⟨?_, ?_, rfl, ?_, ?_, ⟨_, rfl⟩, rfl⟩ <;> decide +kernel

theorem witness_WarnShowsItsCauses :
    { runState with mon := { runState.mon with warn := .pulse 999 } }.warnSound ∧ ∃ t, step runState = .next t := by
  refine ⟨?_, _, rfl⟩
  simp [State.warnSound, runState, truck, State.reset]

/-- A truck whose profile may be written: RUN, standstill, a SERVICE PARK record HELD (R198). -/
def unlockedTruck : State := truck [heldRecord 5 .service .park]

theorem witness_ProfileWriteChecksAndWrites :
    unlockedTruck.takes ∧ unlockedTruck.lockOpen ∧ ¬runState.lockOpen ∧ itemAt 0x15 0 = none ∧
      itemAt 0x03 0 = some (.vehicle 2) ∧ (Item.vehicle 2).inRange 149 = false ∧ (Item.vehicle 2).inRange 150 = true ∧
      (unlockedTruck.store.working.write (.vehicle 2) 150).constraints = true ∧
      (unlockedTruck.store.working.write (.vehicle 1) 32000).constraints = false := by
  unfold State.takes State.lockOpen
  decide +kernel

/-- An item of each group with a value that differs from the one in force, the gate idle (R200). -/
theorem witness_ProfileWriteChecksAndWrites_handedOn :
    unlockedTruck.gate.armed = false ∧
      ∀ p ∈ [(Item.vehicle 0, (33000 : Word16)), (.vehicle 2, 500), (.vehicle 13, 9), (.channel 0 1, 3),
          (.channel 0 5, 700), (.channel 0 9, 8100), (.channel 0 14, 2)],
        p.1.inRange p.2 = true ∧ (unlockedTruck.store.working.write p.1 p.2).constraints = true ∧
          unlockedTruck.store.working.read p.1 ≠ p.2 := by decide +kernel

theorem witness_CommitRunsItsCourse :
    unlockedTruck.takes ∧ unlockedTruck.lockOpen ∧ unlockedTruck.store.commit = none ∧
      unlockedTruck.store.count < 2000 ∧
      { unlockedTruck with store := { unlockedTruck.store with count := 2000 } }.store.count = 2000 ∧
      { unlockedTruck with store := { unlockedTruck.store with commit := some ⟨500, refProfile⟩ } }.store.commit =
        some ⟨Config.ms 250, refProfile⟩ := by
  unfold State.takes State.lockOpen
  decide +kernel

theorem witness_CommitCountIsKept : runState.store.sound ∧ ∃ t, step runState = .next t := by
  refine ⟨?_, _, rfl⟩
  unfold Store.sound
  decide

end Sys2Proof.Tests
end

/-! # The report of confirmation between two runs of one event

Refutes the third part of `Obligations.DistributionKeepsItsLaw` (O43). Two runs of one event can confirm the distribution and
unconfirm it again: the retirement of the only PARK hold runs case N, and the AUTOPARK opening that it sets off runs case P
anew. Under FAILSAFE with HOLD_LAST the commands of case N are confirmed at once (R102), so the ENGAGING record is HELD after the
first run; the second run requests SPRING again, unconfirmed, over the same classes, A and distribution, and the AUTOPARK record
has taken the handle that became free. The state lies outside what a part can reach, for its FAILSAFE overrides stand in RUN;
`holdsSound` and `distSound`, which are all the statement asks of it, do not read the overrides. -/

namespace Sys2Proof.Proofs

open Sys2Proof.Machine

/-- The factory profile with the fail-safe action HOLD_LAST on every channel. -/
def holdLastProfile : Profile :=
  { Profile.factory with
    channels := Six.ofFn fun c => { Profile.factory.channels.get c with failSafe := 2 } }

/-- A channel under FAILSAFE, its test timers stopped. -/
def failsafeChannel (state : ChanState) (confirmed : Bool) : Channel :=
  { Channel.atReset state .stopped .stopped 0 2 with confirmed := confirmed, override := .failsafe }

/-- A CAB hold that is ENGAGING. -/
def waitingRecord : Record := ⟨5, .cab, .light, .engaging, none, none, none, false⟩

/-- The SERVICE hold whose release leaves no PARK hold. -/
def parkRecord : Record := ⟨7, .service, .park, .held, none, none, none, false⟩

/-- The table of the counterexample: the next handle is the one that the release makes free. -/
def twoHolds : HoldTable := ⟨[waitingRecord, parkRecord], 7, 41544, .stopped, 0⟩

/-- The distribution of case P over the factory truck with both circuits at 800 kPa. -/
def parkDistribution : Distribution :=
  { caseP := true
    cmds :=
      ⟨⟨some .service, 0, 3200, 700, 700, some 750⟩, ⟨some .spring, 3000, 0, 0, 0, some 750⟩,
       ⟨some .spring, 3000, 0, 0, 0, some 750⟩, .outside, .outside, .outside⟩
    total := 9200
    short := some .traction }

/-- A part in RUN at standstill with the autopark timer run out and nobody in the seat. -/
def overriddenInRun : State :=
  { State.reset with
    table := twoHolds
    dist := parkDistribution
    store := { State.reset.store with working := holdLastProfile }
    ctl := ⟨.run, 0, 0, .windowOpen, some ⟨0, 200⟩, .stopped, false, false, .measuring 15⟩
    meas := { State.reset.meas with supplyA := ⟨.valid 800, 750, false⟩, supplyB := ⟨.valid 800, 750, false⟩ }
    chans :=
      ⟨failsafeChannel .service true, failsafeChannel .spring false, failsafeChannel .spring false,
       failsafeChannel .absent false, failsafeChannel .absent false, failsafeChannel .absent false⟩
    mon := { State.reset.mon with motion := .standstill, standstill := .ranOut, autopark := .ranOut } }

/-- The part after the SERVICE hold is released. -/
def afterRelease : State := overriddenInRun.request .releaseHold fun t => t.releaseHoldRule (requestOwner 3) 7

theorem overriddenInRun_holdsSound : overriddenInRun.holdsSound := by
  unfold State.holdsSound HoldTable.sound State.gateSound withinLimits Record.sound
  decide +kernel

theorem overriddenInRun_distSound : overriddenInRun.distSound := by
  unfold State.distSound Command.sound State.memberSound
  decide +kernel

/-- The AUTOPARK record takes handle 7, and the CAB hold is HELD. -/
theorem afterRelease_records :
    afterRelease.table.records =
      [{ waitingRecord with state := .held }, ⟨7, .monitor, .park, .engaging, some .autopark, none, none, false⟩] := by
  decide +kernel

theorem afterRelease_applied : afterRelease.table.applied = overriddenInRun.table.applied := by decide +kernel

theorem afterRelease_dist : afterRelease.dist = overriddenInRun.dist := by decide +kernel

theorem afterRelease_unconfirmed : afterRelease.distConfirmed = false := by decide +kernel

/-- Refutes O43: its third part fails where one event makes two runs and the second ends where the first began. -/
theorem not_distributionKeepsItsLaw : ¬ Obligations.DistributionKeepsItsLaw := by
  rintro ⟨-, -, heard⟩
  have confirmed : afterRelease.distConfirmed = true :=
    heard (.releaseHold 3 7) overriddenInRun afterRelease overriddenInRun_holdsSound overriddenInRun_distSound rfl
      (by rw [afterRelease_records]; rfl) afterRelease_applied afterRelease_dist waitingRecord (by decide) rfl
      (by rw [afterRelease_records]; decide)
  exact Bool.noConfusion (confirmed.symm.trans afterRelease_unconfirmed)

end Sys2Proof.Proofs

/-! # What the shared operations make of the table, the forces and the monitor

The report, a run, a hold-set change, a retirement and an opening, block by block: each said once, so that the statements about
commands do not unfold them. -/

namespace Sys2Proof.Machine

/-! ## Records and classes -/

@[simp] theorem Record.hold_collected (r : Record) : r.hold.collected = r.collected := by
  unfold Record.hold; split <;> rfl

/-- Moving to HELD twice is moving once. -/
@[simp] theorem Record.hold_hold (r : Record) : r.hold.hold = r.hold := by
  unfold Record.hold; split <;> simp_all

theorem Record.hold_state (r : Record) : r.hold.state = if r.state = .engaging then .held else r.state := by
  unfold Record.hold; split <;> rfl

@[simp] theorem Record.hold_releasing (r : Record) : r.hold.state = .releasing ↔ r.state = .releasing := by
  rw [Record.hold_state]; split <;> simp_all

@[simp] theorem Record.hold_engaging (r : Record) : r.hold.state ≠ .engaging := by
  rw [Record.hold_state]; split <;> simp_all

@[simp] theorem Record.hold_isReleasing (r : Record) : r.hold.isReleasing = r.isReleasing := by
  rw [Bool.eq_iff_iff]; simp [Record.isReleasing]

@[simp] theorem Record.hold_isRollaway (r : Record) : r.hold.isRollaway = r.isRollaway := by simp [Record.isRollaway]

/-- The records after the report of confirmation has been made, or not. -/
def heardRecords (confirmed : Bool) (records : List Record) : List Record :=
  if confirmed then records.map Record.hold else records

@[simp] theorem heardRecords_false (records : List Record) : heardRecords false records = records := rfl

@[simp] theorem heardRecords_true (records : List Record) : heardRecords true records = records.map Record.hold := rfl

@[simp] theorem heardRecords_nil (b : Bool) : heardRecords b [] = [] := by cases b <;> rfl

@[simp] theorem heardRecords_eq_nil (b : Bool) (records : List Record) :
    heardRecords b records = [] ↔ records = [] := by cases b <;> simp [heardRecords]

@[simp] theorem heardRecords_length (b : Bool) (records : List Record) :
    (heardRecords b records).length = records.length := by cases b <;> simp [heardRecords]

/-- The report is heard again in vain, whatever the first one found. -/
@[simp] theorem heardRecords_twice (b : Bool) (records : List Record) :
    heardRecords b (heardRecords b records) = heardRecords b records := by
  cases b <;> simp [heardRecords, List.map_map, Function.comp_def]

/-- A figure of a record that its state does not show is the same after the report. -/
theorem heardRecords_map {α : Type} (f : Record → α) (hf : ∀ r, f r.hold = f r) (b : Bool) (records : List Record) :
    (heardRecords b records).map f = records.map f := by
  cases b <;> simp [heardRecords, List.map_map, Function.comp_def, hf]

@[simp] theorem heardRecords_holdSet (b : Bool) (records : List Record) :
    holdSet (heardRecords b records) = holdSet records := heardRecords_map _ (by simp) b records

/-- A record after the report is one from before it, moved to HELD or not. -/
theorem mem_heardRecords {b : Bool} {records : List Record} {r : Record} (h : r ∈ heardRecords b records) :
    ∃ x ∈ records, r = x ∨ r = x.hold := by
  cases b with
  | false => exact ⟨r, h, .inl rfl⟩
  | true =>
    obtain ⟨x, hx, rfl⟩ := List.mem_map.1 h
    exact ⟨x, hx, .inr rfl⟩

/-- A record that is not ENGAGING does not hear the report. -/
theorem heardRecords_keeps {b : Bool} {records : List Record} {r : Record} (h : r ∈ records) (hs : r.state ≠ .engaging) :
    r ∈ heardRecords b records := by
  cases b with
  | false => exact h
  | true => exact List.mem_map.2 ⟨r, h, by simp [Record.hold, hs]⟩

theorem holdSet_eq_nil (records : List Record) : holdSet records = [] ↔ records = [] := by simp [holdSet]

@[simp] theorem holdSet_append (xs ys : List Record) : holdSet (xs ++ ys) = holdSet xs ++ holdSet ys := by simp [holdSet]

@[simp] theorem holdSet_nil : holdSet [] = [] := rfl

/-- Whether a PARK hold is live can be told from the hold set. -/
theorem parkLive_of_holdSet {xs ys : List Record} (h : holdSet xs = holdSet ys) : parkLive xs = parkLive ys := by
  have hmap : ∀ zs : List Record, parkLive zs = (holdSet zs).any fun x => x.2 == .park := fun zs => by
    simp [parkLive, holdSet, List.any_map, Function.comp_def]
  rw [hmap, hmap, h]

/-- F_req can be told from the hold set. -/
theorem greatest_of_holdSet (req : HoldClass → Nat) : ∀ {xs ys : List Record}, holdSet xs = holdSet ys →
    greatest req xs = greatest req ys
  | [], ys, h => by rw [(holdSet_eq_nil ys).1 h.symm]
  | x :: xs, [], h => by simp [holdSet] at h
  | x :: xs, y :: ys, h => by
    simp only [holdSet, List.map_cons, List.cons.injEq, Prod.mk.injEq] at h
    obtain ⟨⟨-, hcls⟩, hrest⟩ := h
    simp only [greatest, hcls, greatest_of_holdSet req (xs := xs) (ys := ys) hrest]

@[simp] theorem parkLive_heardRecords (b : Bool) (records : List Record) :
    parkLive (heardRecords b records) = parkLive records := parkLive_of_holdSet (by simp)

/-- The greatest requirement is met by each live class's own. -/
theorem le_greatest (req : HoldClass → Nat) {records : List Record} {r : Record} (h : r ∈ records) :
    req r.cls ≤ greatest req records := by
  induction records with
  | nil => cases h
  | cons x xs ih =>
    simp only [greatest, le_max_iff]
    rcases List.mem_cons.1 h with rfl | h
    · exact .inl le_rfl
    · exact .inr (ih h)

/-- The greatest requirement is at most any bound on all. -/
theorem greatest_le (req : HoldClass → Nat) (records : List Record) (k : Nat) (h : ∀ c, req c ≤ k) :
    greatest req records ≤ k := by
  induction records with
  | nil => exact Nat.zero_le k
  | cons x xs ih => exact max_le (h x.cls) ih

/-! ## The Force Calculator -/

/-- A run reads the weight, the grade, the drum report, the vehicle items and the classes of the live holds (R46). -/
theorem State.calculate_congr {s t : State} (hm : s.meas = t.meas) (hv : s.store = t.store)
    (hr : holdSet s.table.records = holdSet t.table.records) : s.calculate = t.calculate := by
  simp only [State.calculate, State.vehicle, hm, hv, greatest_of_holdSet _ hr]

/-! ## The report of confirmation -/

/-- Whether the distribution is confirmed is read from the channels and the profile (R9). -/
theorem State.distConfirmed_congr {s t : State} (hc : s.chans = t.chans) (hp : s.store = t.store) :
    s.distConfirmed = t.distConfirmed := by
  have he : s.eligible = t.eligible := funext fun c => by simp only [State.eligible, State.items, hc, hp]
  simp only [State.distConfirmed, State.inE, he, hc]

@[simp] theorem State.reportConfirmed_distConfirmed (s : State) : s.reportConfirmed.distConfirmed = s.distConfirmed :=
  State.distConfirmed_congr (by simp) (by simp)

/-- The report changes the records alone in the table. -/
theorem State.reportConfirmed_table (s : State) :
    s.reportConfirmed.table = { s.table with records := heardRecords s.distConfirmed s.table.records } := by
  unfold State.reportConfirmed
  split
  · rename_i hc
    unfold State.engagingToHeld
    dsimp only
    split <;> simp [hc]
  · rename_i hc
    simp [hc]

/-- The part of the monitor that an event of the holds leaves alone: the motion, the driver, the autopark and pulse timers,
and what the pendant wants. -/
structure Monitor.Aside where
  motion : Motion
  moving : Option Nat
  standstill : Timer
  driverPresent : Bool
  seatTimer : Timer
  autopark : Timer
  pendantWant : PendantWant
  train : Timer

/-- The part of the monitor that an event of the holds leaves alone. -/
def Monitor.aside (m : Monitor) : Monitor.Aside where
  motion := m.motion
  moving := m.moving
  standstill := m.standstill
  driverPresent := m.driverPresent
  seatTimer := m.seatTimer
  autopark := m.autopark
  pendantWant := m.pendantWant
  train := m.train

@[simp] theorem Monitor.aside_zeroCounters (m : Monitor) : m.zeroCounters.aside = m.aside := rfl

@[simp] theorem Monitor.aside_secure (m : Monitor) : m.secure.aside = m.aside := rfl

@[simp] theorem Monitor.aside_setReference (m : Monitor) : m.setReference.aside = m.aside := rfl

@[simp] theorem Monitor.aside_dropReference (m : Monitor) : m.dropReference.aside = m.aside := rfl

@[simp] theorem Monitor.aside_beginWatch (m : Monitor) : m.beginWatch.aside = m.aside := rfl

@[simp] theorem Monitor.aside_emptied (m : Monitor) (b : Bool) : (m.emptied b).aside = m.aside := by cases b <;> rfl

@[simp] theorem Monitor.aside_retired (m : Monitor) (gone : List Record) : (m.retired gone).aside = m.aside := by
  unfold Monitor.retired; dsimp only; repeat' split
  all_goals rfl

/-- The report leaves the aside part, the reference, the inhibit and TRACTION_LOST of the monitor. -/
theorem State.reportConfirmed_mon (s : State) :
    s.reportConfirmed.mon = s.mon ∨ s.reportConfirmed.mon = s.mon.secure := by
  unfold State.reportConfirmed State.engagingToHeld
  dsimp only
  repeat' split
  · exact .inr rfl
  · exact .inl rfl
  · exact .inl rfl

@[simp] theorem State.reportConfirmed_aside (s : State) : s.reportConfirmed.mon.aside = s.mon.aside := by
  rcases s.reportConfirmed_mon with h | h <;> simp [h]

@[simp] theorem State.reportConfirmed_ref (s : State) : s.reportConfirmed.mon.ref = s.mon.ref := by
  rcases s.reportConfirmed_mon with h | h <;> rw [h]
  rfl

@[simp] theorem State.reportConfirmed_watchAfter (s : State) :
    s.reportConfirmed.mon.watchAfter = s.mon.watchAfter := by
  rcases s.reportConfirmed_mon with h | h <;> rw [h]
  rfl

@[simp] theorem State.reportConfirmed_inhibit (s : State) : s.reportConfirmed.mon.inhibit = s.mon.inhibit := by
  rcases s.reportConfirmed_mon with h | h <;> rw [h]
  rfl

/-- The report over an empty table leaves the monitor. -/
theorem State.reportConfirmed_mon_of_empty {s : State} (h : s.table.records = []) : s.reportConfirmed.mon = s.mon := by
  unfold State.reportConfirmed State.engagingToHeld
  simp [h]
  split <;> rfl

/-- The counters stay at 0 through the report. -/
theorem State.reportConfirmed_countersAtZero {s : State} (h : s.countersAtZero) : s.reportConfirmed.countersAtZero := by
  rcases s.reportConfirmed_mon with he | he
  · simpa [State.countersAtZero, he] using h
  · simp [State.countersAtZero, he, Monitor.secure, Monitor.zeroCounters]

/-! ## A run of the Distribution Unit -/

@[simp] theorem State.raiseShort_distConfirmed (s : State) (b : Option ShortKind) :
    (s.raiseShort b).distConfirmed = s.distConfirmed := State.distConfirmed_congr (by simp) (by simp)

/-- A run changes the records alone in the table, as its own report is heard. -/
theorem State.distributeWith_table (s : State) (loads : Six Nat) (fresh : Bool) :
    (s.distributeWith loads fresh).table =
      { s.table with records := heardRecords (s.distributeWith loads fresh).distConfirmed s.table.records } := by
  unfold State.distributeWith
  simp [State.reportConfirmed_table]

/-- A run leaves the monitor, or makes the passage of R131. -/
theorem State.distributeWith_mon (s : State) (loads : Six Nat) (fresh : Bool) :
    (s.distributeWith loads fresh).mon = s.mon ∨ (s.distributeWith loads fresh).mon = s.mon.secure := by
  unfold State.distributeWith
  have h := State.reportConfirmed_mon
    (((s.withChans (s.handOver (s.distribution loads) fresh)).withDist (s.distribution loads)).raiseShort s.dist.short)
  simpa using h

@[simp] theorem State.distributeWith_aside (s : State) (loads : Six Nat) (fresh : Bool) :
    (s.distributeWith loads fresh).mon.aside = s.mon.aside := by
  rcases s.distributeWith_mon loads fresh with h | h <;> simp [h]

@[simp] theorem State.distributeWith_ref (s : State) (loads : Six Nat) (fresh : Bool) :
    (s.distributeWith loads fresh).mon.ref = s.mon.ref := by
  rcases s.distributeWith_mon loads fresh with h | h <;> rw [h]
  rfl

@[simp] theorem State.distributeWith_watchAfter (s : State) (loads : Six Nat) (fresh : Bool) :
    (s.distributeWith loads fresh).mon.watchAfter = s.mon.watchAfter := by
  rcases s.distributeWith_mon loads fresh with h | h <;> rw [h]
  rfl

@[simp] theorem State.distributeWith_inhibit (s : State) (loads : Six Nat) (fresh : Bool) :
    (s.distributeWith loads fresh).mon.inhibit = s.mon.inhibit := by
  rcases s.distributeWith_mon loads fresh with h | h <;> rw [h]
  rfl

theorem State.distributeWith_mon_of_empty {s : State} (loads : Six Nat) (fresh : Bool) (h : s.table.records = []) :
    (s.distributeWith loads fresh).mon = s.mon := by
  unfold State.distributeWith
  rw [State.reportConfirmed_mon_of_empty] <;> simp [h]

theorem State.distributeWith_countersAtZero {s : State} (loads : Six Nat) (fresh : Bool) (h : s.countersAtZero) :
    (s.distributeWith loads fresh).countersAtZero := by
  unfold State.distributeWith
  exact State.reportConfirmed_countersAtZero (by simpa [State.countersAtZero] using h)

/-! ## A hold-set change -/

/-- A hold-set change is the run of the Force Calculator with A at its F_req, and a run of the Distribution Unit or none
(R28, R62). -/
theorem State.holdSetChange_cases (s : State) (parkBefore : Bool) :
    let u := (s.withForce s.calculate).withTable
      { s.table with applied := s.calculate.fReq, relief := .stopped }
    s.holdSetChange parkBefore = u ∧ s.calculate.fReq = s.table.applied ∧ parkLive s.table.records = parkBefore ∨
      s.holdSetChange parkBefore = u.distribute := by
  unfold State.holdSetChange State.runForce
  dsimp only
  split
  · rename_i h
    exact .inl ⟨rfl, h⟩
  · exact .inr rfl

/-- A hold-set change and the report after it: A at the F_req of its run, the relief timer stopped, the report heard. -/
theorem State.holdSetChange_reported_table (s : State) (parkBefore : Bool) :
    (s.holdSetChange parkBefore).reportConfirmed.table =
      { s.table with
        records := heardRecords (s.holdSetChange parkBefore).distConfirmed s.table.records
        applied := s.calculate.fReq
        relief := .stopped } := by
  rcases s.holdSetChange_cases parkBefore with ⟨h, -⟩ | h
  · simp [h, State.reportConfirmed_table]
  · simp [h, State.reportConfirmed_table, State.distribute, State.distributeWith_table]

/-- A hold-set change on its own: its run's report may have been heard. -/
theorem State.holdSetChange_table (s : State) (parkBefore : Bool) :
    ∃ b, (b = true → (s.holdSetChange parkBefore).distConfirmed = true) ∧
      (s.holdSetChange parkBefore).table =
        { s.table with
          records := heardRecords b s.table.records
          applied := s.calculate.fReq
          relief := .stopped } := by
  rcases s.holdSetChange_cases parkBefore with ⟨h, -⟩ | h
  · exact ⟨false, by simp, by simp [h]⟩
  · exact ⟨(s.holdSetChange parkBefore).distConfirmed, id, by
      simp [h, State.distribute, State.distributeWith_table]⟩

theorem State.holdSetChange_mon (s : State) (parkBefore : Bool) :
    (s.holdSetChange parkBefore).mon = s.mon ∨ (s.holdSetChange parkBefore).mon = s.mon.secure := by
  rcases s.holdSetChange_cases parkBefore with ⟨h, -⟩ | h
  · exact .inl (by simp [h])
  · rw [h]
    exact State.distributeWith_mon _ _ _

@[simp] theorem State.holdSetChange_aside (s : State) (parkBefore : Bool) :
    (s.holdSetChange parkBefore).mon.aside = s.mon.aside := by
  rcases s.holdSetChange_mon parkBefore with h | h <;> simp [h]

@[simp] theorem State.holdSetChange_ref (s : State) (parkBefore : Bool) :
    (s.holdSetChange parkBefore).mon.ref = s.mon.ref := by
  rcases s.holdSetChange_mon parkBefore with h | h <;> rw [h]
  rfl

@[simp] theorem State.holdSetChange_watchAfter (s : State) (parkBefore : Bool) :
    (s.holdSetChange parkBefore).mon.watchAfter = s.mon.watchAfter := by
  rcases s.holdSetChange_mon parkBefore with h | h <;> rw [h]
  rfl

@[simp] theorem State.holdSetChange_inhibit (s : State) (parkBefore : Bool) :
    (s.holdSetChange parkBefore).mon.inhibit = s.mon.inhibit := by
  rcases s.holdSetChange_mon parkBefore with h | h <;> rw [h]
  rfl

theorem State.holdSetChange_mon_of_empty {s : State} (parkBefore : Bool) (h : s.table.records = []) :
    (s.holdSetChange parkBefore).mon = s.mon := by
  rcases s.holdSetChange_cases parkBefore with ⟨he, -⟩ | he
  · simp [he]
  · rw [he]
    exact State.distributeWith_mon_of_empty _ _ (by simp [h])

theorem State.holdSetChange_countersAtZero {s : State} (parkBefore : Bool) (h : s.countersAtZero) :
    (s.holdSetChange parkBefore).countersAtZero := by
  rcases s.holdSetChange_cases parkBefore with ⟨he, -⟩ | he
  · simpa [he, State.countersAtZero] using h
  · rw [he]
    exact State.distributeWith_countersAtZero _ _ (by simpa [State.countersAtZero] using h)

/-- A state with the forces and A of a run of its own, whatever else of the table changed, is fresh. -/
theorem State.freshForce_of_holdSet {s t : State} (hf : t.force = s.calculate) (ha : t.table.applied = s.calculate.fReq)
    (hm : t.meas = s.meas) (hp : t.store = s.store) (hr : holdSet t.table.records = holdSet s.table.records) :
    t.freshForce := by
  have hc : t.calculate = s.calculate := State.calculate_congr hm hp hr
  exact ⟨hf.trans hc.symm, ha.trans (by rw [hf])⟩

/-- A hold-set change leaves the forces fresh (R28). -/
theorem State.holdSetChange_freshForce (s : State) (parkBefore : Bool) : (s.holdSetChange parkBefore).freshForce :=
  State.freshForce_of_holdSet (s := s) (by simp) (by simp) (by simp) (by simp) (by simp)

theorem State.reportConfirmed_freshForce {s : State} (h : s.freshForce) : s.reportConfirmed.freshForce := by
  obtain ⟨hf, ha⟩ := h
  exact State.freshForce_of_holdSet (s := s) (by simpa using hf) (by rw [← hf]; simpa using ha) (by simp) (by simp)
    (by simp)

/-- The forces stay fresh where the measurements, the profile, the forces, A and the hold set do. -/
theorem State.freshForce_congr {s t : State} (hf : t.force = s.force) (ha : t.table.applied = s.table.applied)
    (hm : t.meas = s.meas) (hp : t.store = s.store) (hr : holdSet t.table.records = holdSet s.table.records)
    (h : s.freshForce) : t.freshForce := by
  obtain ⟨hfs, has⟩ := h
  exact State.freshForce_of_holdSet (hf.trans hfs) (by rw [ha, has, hfs]) hm hp hr

/-! ## A retirement -/

/-- The records that stay when a handle's record is retired. -/
def othersThan (records : List Record) (h : Nat) : List Record := records.filter fun r => r.handle != h

theorem mem_othersThan {records : List Record} {h : Nat} {r : Record} :
    r ∈ othersThan records h ↔ r ∈ records ∧ r.handle ≠ h := by simp [othersThan]

@[simp] theorem heardRecords_othersThan (b : Bool) (records : List Record) (h : Nat) :
    othersThan (heardRecords b records) h = heardRecords b (othersThan records h) := by
  cases b
  · rfl
  · simp [heardRecords, othersThan, List.filter_map, Function.comp_def]

/-- The part from which a record has gone, before the hold-set change is taken (R12). -/
def State.parting (s : State) (h : Nat) : State :=
  (s.withTable { s.table with records := othersThan s.table.records h }).withMon
    (s.mon.retired (s.table.records.filter fun r => r.handle == h))

@[simp] theorem State.parting_table (s : State) (h : Nat) :
    (s.parting h).table = { s.table with records := othersThan s.table.records h } := rfl

@[simp] theorem State.parting_meas (s : State) (h : Nat) : (s.parting h).meas = s.meas := rfl

@[simp] theorem State.parting_store (s : State) (h : Nat) : (s.parting h).store = s.store := rfl

@[simp] theorem State.parting_mon (s : State) (h : Nat) :
    (s.parting h).mon = s.mon.retired (s.table.records.filter fun r => r.handle == h) := rfl

/-- A retirement is the hold-set change over the records that stay, and the reference told of an emptied table (R12, R126). -/
theorem State.retire_eq (s : State) (h : Nat) (driveOff : Bool) :
    s.retire h driveOff =
      if othersThan s.table.records h = [] then
        ((s.parting h).holdSetChange (parkLive s.table.records)).withMon
          (((s.parting h).holdSetChange (parkLive s.table.records)).mon.emptied driveOff)
      else (s.parting h).holdSetChange (parkLive s.table.records) := rfl

/-- A retirement is its hold-set change but for the monitor. -/
theorem State.retire_withMon (s : State) (h : Nat) (driveOff : Bool) :
    ∃ m, s.retire h driveOff = ((s.parting h).holdSetChange (parkLive s.table.records)).withMon m := by
  rw [State.retire_eq]
  split
  · exact ⟨_, rfl⟩
  · exact ⟨_, rfl⟩

/-- A retirement takes the handle's record out, with A at the F_req over the rest (R12, R28). -/
theorem State.retire_table (s : State) (h : Nat) (driveOff : Bool) :
    ∃ b, (b = true → (s.retire h driveOff).distConfirmed = true) ∧
      (s.retire h driveOff).table =
        { s.table with
          records := heardRecords b (othersThan s.table.records h)
          applied := (s.retire h driveOff).force.fReq
          relief := .stopped } := by
  obtain ⟨m, hm⟩ := s.retire_withMon h driveOff
  obtain ⟨b, hb, ht⟩ := (s.parting h).holdSetChange_table (parkLive s.table.records)
  rw [hm]
  exact ⟨b, fun hbt => (State.distConfirmed_congr rfl rfl).trans (hb hbt), by simp [ht]⟩

@[simp] theorem State.retire_aside (s : State) (h : Nat) (driveOff : Bool) :
    (s.retire h driveOff).mon.aside = s.mon.aside := by
  rw [State.retire_eq]
  split <;> simp

@[simp] theorem State.retire_nextHandle (s : State) (h : Nat) (driveOff : Bool) :
    (s.retire h driveOff).table.nextHandle = s.table.nextHandle := by
  obtain ⟨b, -, ht⟩ := s.retire_table h driveOff; rw [ht]

@[simp] theorem State.retire_beat (s : State) (h : Nat) (driveOff : Bool) :
    (s.retire h driveOff).table.beat = s.table.beat := by
  obtain ⟨b, -, ht⟩ := s.retire_table h driveOff; rw [ht]

@[simp] theorem State.retire_relief (s : State) (h : Nat) (driveOff : Bool) :
    (s.retire h driveOff).table.relief = .stopped := by
  obtain ⟨b, -, ht⟩ := s.retire_table h driveOff; rw [ht]

/-- The forces do not read the monitor. -/
theorem State.freshForce_withMon {s : State} (m : Monitor) (h : s.freshForce) : (s.withMon m).freshForce :=
  State.freshForce_congr rfl rfl rfl rfl rfl h

theorem State.retire_freshForce (s : State) (h : Nat) (driveOff : Bool) : (s.retire h driveOff).freshForce := by
  obtain ⟨m, hm⟩ := s.retire_withMon h driveOff
  rw [hm]
  exact State.freshForce_withMon m (State.holdSetChange_freshForce _ _)

/-- The inhibit after a retirement (R139). -/
theorem Monitor.retired_inhibit (m : Monitor) (gone : List Record) :
    (m.retired gone).inhibit = (m.inhibit || gone.any fun r => r.cause == some .autopark) := by
  unfold Monitor.retired
  dsimp only
  repeat' split
  all_goals simp_all [Monitor.zeroCounters]

@[simp] theorem Monitor.emptied_inhibit (m : Monitor) (b : Bool) : (m.emptied b).inhibit = m.inhibit := by
  cases b <;> rfl

/-- The inhibit after a retirement (R139): set by an AUTOPARK record, and else as it was. -/
theorem State.retire_inhibit (s : State) (h : Nat) (driveOff : Bool) :
    (s.retire h driveOff).mon.inhibit =
      (s.mon.inhibit || s.table.records.any fun r => r.handle == h && r.cause == some .autopark) := by
  rw [State.retire_eq]
  split <;> simp [Monitor.retired_inhibit, List.any_filter]

/-! ## An opening -/

/-- The records that an opening keeps: those that are not RELEASING (R118). -/
def notReleasing (records : List Record) : List Record := records.filter fun r => !r.isReleasing

theorem mem_notReleasing {records : List Record} {r : Record} :
    r ∈ notReleasing records ↔ r ∈ records ∧ r.state ≠ .releasing := by simp [notReleasing, Record.isReleasing]

theorem notReleasing_eq_self {records : List Record} (h : ∀ r ∈ records, r.state ≠ .releasing) :
    notReleasing records = records :=
  List.filter_eq_self.2 fun r hr => by simp [Record.isReleasing, h r hr]

/-- The part with a new record seated and every RELEASING one gone, before the hold-set change is taken (R14, R118). -/
def State.seating (s : State) (make : Nat → Record) : State :=
  ((s.withTable
      { s.table with
        records := notReleasing s.table.records ++ [make s.table.newHandle]
        nextHandle := nextAfter s.table.newHandle }).withMon
    (s.mon.retired (s.table.records.filter Record.isReleasing))).withGate
    (if s.table.records.filter Record.isReleasing = [] then s.gate else .idle)

@[simp] theorem State.seating_table (s : State) (make : Nat → Record) :
    (s.seating make).table =
      { s.table with
        records := notReleasing s.table.records ++ [make s.table.newHandle]
        nextHandle := nextAfter s.table.newHandle } := rfl

@[simp] theorem State.seating_meas (s : State) (make : Nat → Record) : (s.seating make).meas = s.meas := rfl

@[simp] theorem State.seating_store (s : State) (make : Nat → Record) : (s.seating make).store = s.store := rfl

@[simp] theorem State.seating_ctl (s : State) (make : Nat → Record) : (s.seating make).ctl = s.ctl := rfl

@[simp] theorem State.seating_mon (s : State) (make : Nat → Record) :
    (s.seating make).mon = s.mon.retired (s.table.records.filter Record.isReleasing) := rfl

@[simp] theorem State.seating_gate (s : State) (make : Nat → Record) :
    (s.seating make).gate = if s.table.records.filter Record.isReleasing = [] then s.gate else .idle := rfl

/-- The hold-set change of an opening, with the reference set where the table was empty (R126). -/
def State.opening (s : State) (make : Nat → Record) : State :=
  if s.table.records = [] then
    ((s.seating make).holdSetChange (parkLive s.table.records)).withMon
      ((s.seating make).holdSetChange (parkLive s.table.records)).mon.setReference
  else (s.seating make).holdSetChange (parkLive s.table.records)

/-- An opening is its hold-set change with the report after it (R9, R14). -/
theorem State.openRecord_eq (s : State) (make : Nat → Record) :
    s.openRecord make = (s.opening make).reportConfirmed := rfl

/-- The hold-set change of an opening but for the monitor. -/
theorem State.opening_withMon (s : State) (make : Nat → Record) :
    ∃ m, s.opening make = ((s.seating make).holdSetChange (parkLive s.table.records)).withMon m := by
  unfold State.opening
  split
  · exact ⟨_, rfl⟩
  · exact ⟨_, rfl⟩

/-- The table after an opening (R14, R28): the record at its end under the new handle, A at the F_req over it, the relief timer
stopped, the report heard. -/
theorem State.openRecord_table (s : State) (make : Nat → Record) :
    (s.openRecord make).table =
      { s.table with
        records :=
          heardRecords (s.openRecord make).distConfirmed (notReleasing s.table.records ++ [make s.table.newHandle])
        nextHandle := nextAfter s.table.newHandle
        applied := (s.openRecord make).force.fReq
        relief := .stopped } := by
  obtain ⟨m, hm⟩ := s.opening_withMon make
  obtain ⟨b, hb, ht⟩ := (s.seating make).holdSetChange_table (parkLive s.table.records)
  have hc : (s.opening make).distConfirmed =
      ((s.seating make).holdSetChange (parkLive s.table.records)).distConfirmed :=
    State.distConfirmed_congr (by rw [hm]; rfl) (by rw [hm]; rfl)
  rw [State.openRecord_eq, State.reportConfirmed_distConfirmed, State.reportConfirmed_table, hc, hm]
  cases b with
  | false => simp [ht]
  | true => simp [ht, hb rfl, List.map_map, Function.comp_def]

theorem State.openRecord_freshForce (s : State) (make : Nat → Record) : (s.openRecord make).freshForce := by
  obtain ⟨m, hm⟩ := s.opening_withMon make
  rw [State.openRecord_eq, hm]
  exact State.reportConfirmed_freshForce (State.freshForce_withMon m (State.holdSetChange_freshForce _ _))

/-- An opening leaves the gate, but for a release under way, which it ends (R118). -/
@[simp] theorem State.openRecord_gate (s : State) (make : Nat → Record) :
    (s.openRecord make).gate = if s.table.records.filter Record.isReleasing = [] then s.gate else .idle := by
  obtain ⟨m, hm⟩ := s.opening_withMon make
  rw [State.openRecord_eq, hm]
  simp

@[simp] theorem State.openRecord_aside (s : State) (make : Nat → Record) :
    (s.openRecord make).mon.aside = s.mon.aside := by
  rw [State.openRecord_eq]
  unfold State.opening
  split <;> simp

/-- An opening over an empty table sets the reference, and any other leaves it (R126). -/
theorem State.openRecord_ref (s : State) (make : Nat → Record) :
    (s.openRecord make).mon.ref = if s.table.records = [] then .holding else (s.seating make).mon.ref := by
  rw [State.openRecord_eq]
  unfold State.opening
  split <;> simp [Monitor.setReference]

theorem Monitor.retired_ref (m : Monitor) (gone : List Record) : (m.retired gone).ref = m.ref := by
  unfold Monitor.retired; dsimp only; repeat' split
  all_goals rfl

/-- The inhibit after an opening: set by an AUTOPARK record whose release it ends (R118, R139). -/
theorem State.openRecord_inhibit (s : State) (make : Nat → Record) :
    (s.openRecord make).mon.inhibit =
      (s.mon.inhibit || s.table.records.any fun r => r.isReleasing && r.cause == some .autopark) := by
  have hset : ∀ m : Monitor, m.setReference.inhibit = m.inhibit := fun _ => rfl
  rw [State.openRecord_eq]
  unfold State.opening
  split <;> simp [Monitor.retired_inhibit, List.any_filter, hset]

@[simp] theorem State.openRecord_nextHandle (s : State) (make : Nat → Record) :
    (s.openRecord make).table.nextHandle = nextAfter s.table.newHandle := by rw [State.openRecord_table]

@[simp] theorem State.openRecord_beat (s : State) (make : Nat → Record) :
    (s.openRecord make).table.beat = s.table.beat := by rw [State.openRecord_table]

@[simp] theorem State.openRecord_relief (s : State) (make : Nat → Record) :
    (s.openRecord make).table.relief = .stopped := by rw [State.openRecord_table]

theorem State.openRecord_records (s : State) (make : Nat → Record) :
    (s.openRecord make).table.records =
      heardRecords (s.openRecord make).distConfirmed (notReleasing s.table.records ++ [make s.table.newHandle]) := by
  rw [State.openRecord_table]

/-! ## A change of one record -/

/-- The part with a record changed in its place, before the hold-set change is taken. -/
def State.changing (s : State) (h : Nat) (f : Record → Record) : State :=
  s.withTable { s.table with records := updateRecord s.table.records h f }

/-- A record changed in its place, the hold-set change, and the report after it (R9, R10, R16, R23). -/
def State.changed (s : State) (h : Nat) (f : Record → Record) : State :=
  ((s.changing h f).holdSetChange (parkLive s.table.records)).reportConfirmed

/-- The table after a change of one record: A at the F_req over it, the relief timer stopped, the report heard. -/
theorem State.changed_table (s : State) (h : Nat) (f : Record → Record) :
    (s.changed h f).table =
      { s.table with
        records := heardRecords (s.changed h f).distConfirmed (updateRecord s.table.records h f)
        applied := (s.changed h f).force.fReq
        relief := .stopped } := by
  unfold State.changed
  rw [State.reportConfirmed_distConfirmed, State.holdSetChange_reported_table]
  simp [State.changing]

theorem State.changed_freshForce (s : State) (h : Nat) (f : Record → Record) : (s.changed h f).freshForce :=
  State.reportConfirmed_freshForce (State.holdSetChange_freshForce _ _)

@[simp] theorem State.changed_aside (s : State) (h : Nat) (f : Record → Record) :
    (s.changed h f).mon.aside = s.mon.aside := by
  simp [State.changed, State.changing]

/-- An expired record as it becomes PARK (R23). -/
def Record.parked (r : Record) : Record := { r with cls := .park, expiry := none, state := .engaging }

theorem State.convertToPark_eq (s : State) (h : Nat) :
    s.convertToPark h = (s.changed h Record.parked).raiseHolds h .none := rfl

theorem mem_updateRecord {records : List Record} {h : Nat} {f : Record → Record} {r : Record} (hr : r ∈ records)
    (hh : r.handle ≠ h) : r ∈ updateRecord records h f :=
  List.mem_map.2 ⟨r, hr, by simp [hh]⟩

theorem mem_updateRecord_self {records : List Record} {f : Record → Record} {r : Record} (hr : r ∈ records) :
    f r ∈ updateRecord records r.handle f :=
  List.mem_map.2 ⟨r, hr, by simp⟩

/-- A record has its last unit left, whatever the report makes of its state (R22). -/
@[simp] theorem Record.hold_lastUnit (r : Record) : r.hold.lastUnit = r.lastUnit := by
  have hc : r.hold.counts = r.counts := by
    rw [Bool.eq_iff_iff]; simp [Record.counts]
  simp [Record.lastUnit, hc]

@[simp] theorem State.changed_powered (s : State) (h : Nat) (f : Record → Record) : (s.changed h f).powered = s.powered := by
  simp [State.changed, State.changing]

@[simp] theorem State.changed_meas (s : State) (h : Nat) (f : Record → Record) : (s.changed h f).meas = s.meas := by
  simp [State.changed, State.changing]

@[simp] theorem State.changed_lines (s : State) (h : Nat) (f : Record → Record) : (s.changed h f).lines = s.lines := by
  simp [State.changed, State.changing]

@[simp] theorem State.changed_ctl (s : State) (h : Nat) (f : Record → Record) : (s.changed h f).ctl = s.ctl := by
  simp [State.changed, State.changing]

@[simp] theorem State.changed_store (s : State) (h : Nat) (f : Record → Record) : (s.changed h f).store = s.store := by
  simp [State.changed, State.changing]

@[simp] theorem State.changed_gate (s : State) (h : Nat) (f : Record → Record) : (s.changed h f).gate = s.gate := by
  simp [State.changed, State.changing]

/-- A record as an amend leaves it before the report (R16). -/
def Record.amended (cls : HoldClass) (act : ExpiryAction) (changed : Bool) (r : Record) : Record :=
  { r with cls := cls, expiry := act.apply r.expiry, state := if changed then .engaging else r.state }

/-- An amend is a change of one record where the class changes, and else its place in the table alone (R16). -/
theorem State.amend_eq (s : State) (r : Record) (cls : HoldClass) (act : ExpiryAction) :
    s.amend r cls act =
      if cls != r.cls then s.changed r.handle (Record.amended cls act true)
      else s.changing r.handle (Record.amended cls act false) := by
  unfold State.amend State.changed State.changing
  dsimp only
  cases h : cls != r.cls
  · rw [if_neg (by simp), if_neg (by simp)]
    rfl
  · rw [if_pos rfl, if_pos rfl]
    rfl

/-- What the return to HELD makes of the table (R11). -/
@[simp] theorem State.returnToHeld_table (s : State) :
    s.returnToHeld.table = { s.table with records := s.table.records.map Record.backToHeld } := by
  unfold State.returnToHeld
  dsimp only
  split <;> rfl

/-- The return to HELD leaves the monitor, or makes the passage of R131. -/
theorem State.returnToHeld_mon (s : State) : s.returnToHeld.mon = s.mon ∨ s.returnToHeld.mon = s.mon.secure := by
  unfold State.returnToHeld
  dsimp only
  split
  · exact .inr rfl
  · exact .inl rfl

@[simp] theorem State.returnToHeld_aside (s : State) : s.returnToHeld.mon.aside = s.mon.aside := by
  rcases s.returnToHeld_mon with h | h <;> simp [h]

/-! ## An offer without a hold-set change -/

/-- A set to a figure is that figure in the table, and the report of a run if it changes (R31). -/
theorem State.applyForce_table (s : State) (a : Nat) :
    ∃ b, (s.applyForce a).table = { s.table with records := heardRecords b s.table.records, applied := a } := by
  unfold State.applyForce
  dsimp only
  split
  · exact ⟨false, by simp⟩
  · exact ⟨_, by rw [State.distribute, State.distributeWith_table]; rfl⟩

/-- A run of the Force Calculator with its offer: A rises to F_req and otherwise stands, and the relief timer follows
(R29, R30). -/
theorem State.runAndOffer_table (s : State) :
    ∃ b, s.runAndOffer.table =
      { s.table with
        records := heardRecords b s.table.records
        applied := max s.calculate.fReq s.table.applied
        relief := reliefAfter s.table.relief s.calculate.fReq s.table.applied } := by
  unfold State.runAndOffer State.offer State.runForce
  dsimp only
  obtain ⟨b, hb⟩ := State.applyForce_table
    ((s.withForce s.calculate).withTable
      { s.table with relief := reliefAfter s.table.relief s.calculate.fReq s.table.applied })
    (max s.calculate.fReq s.table.applied)
  exact ⟨b, hb⟩

/-- A run of the Force Calculator with its offer leaves the monitor, or makes the passage of R131. -/
theorem State.applyForce_mon (s : State) (a : Nat) : (s.applyForce a).mon = s.mon ∨ (s.applyForce a).mon = s.mon.secure := by
  unfold State.applyForce
  dsimp only
  split
  · exact .inl rfl
  · exact State.distributeWith_mon _ _ _

theorem State.runAndOffer_mon (s : State) : s.runAndOffer.mon = s.mon ∨ s.runAndOffer.mon = s.mon.secure :=
  State.applyForce_mon _ _

@[simp] theorem State.applyForce_aside (s : State) (a : Nat) : (s.applyForce a).mon.aside = s.mon.aside := by
  rcases s.applyForce_mon a with h | h <;> simp [h]

@[simp] theorem State.runAndOffer_aside (s : State) : s.runAndOffer.mon.aside = s.mon.aside := by
  rcases s.runAndOffer_mon with h | h <;> simp [h]


end Sys2Proof.Machine

/-! # What a command is made of

Every command but a reset is a chain of a few moves, ended by `State.conclude`. A law of the device is kept by every command as
soon as each move keeps it, so the case analysis over the commands is made once, here. -/

namespace Sys2Proof.Machine

/-! ## The moves -/

/-- What a chain of moves is allowed, beyond what every command may do: `dozes`, to start in SLEEP what SLEEP stops; `wants`,
to change what the pendant wants or what its line asks; `lowers`, to lower A or to amend a hold; `stops`, to retire a hold in
SLEEP; `sleeps` and `wakes`, to enter and to leave SLEEP; and what it can build on: `sound`, that the holds were sound when the
command began, and `counter`, what the handle counter shows whenever a hold is released, retired or converted: these come
before the command's openings. -/
structure Licence where
  dozes : Prop
  wants : Prop
  lowers : Prop
  stops : Prop
  sleeps : Prop
  wakes : Prop
  sound : Prop
  counter : Nat → Prop

/-- Two modes are alike to the gate and to SLEEP: RUN, SAFE and SLEEP are each alike to themselves alone. -/
def Mode.alike (a b : Mode) : Prop :=
  (a = .run ↔ b = .run) ∧ (a = .safe ↔ b = .safe) ∧ (a = .sleep ↔ b = .sleep)

theorem Mode.alike_refl (a : Mode) : a.alike a := ⟨.rfl, .rfl, .rfl⟩

/-- The measurements change within their ranges, and the sample timer goes on as it was (R32, R37, R40, R44). -/
def State.measuresTo (s : State) (m : Measure) : Prop :=
  (s.meas.gradeSound → m.gradeSound) ∧
    (m.weight = s.meas.weight ∨ m.weight ≤ 65000 ∨ m.weight = s.vehicle.grossWeight.toNat) ∧
    (m.cRep = s.meas.cRep ∨ m.cRep.getD 0 ≤ 40000) ∧
    m.sampleTimer.isRunning = s.meas.sampleTimer.isRunning

/-- The timers of the monitor that SLEEP stops stand (R163). -/
def Monitor.dozesAs (m old : Monitor) : Prop := m.seatTimer = old.seatTimer ∧ m.train = old.train

/-- The lines at rest stay at rest (R163). -/
def Lines.restsAs (l old : Lines) : Prop :=
  (old.seat.atRest → l.seat.atRest) ∧ (old.door.atRest → l.door.atRest) ∧ (old.lift1.atRest → l.lift1.atRest) ∧
    (old.lift2.atRest → l.lift2.atRest) ∧ (old.pairDebounce = .stopped → l.pairDebounce = .stopped)

/-- The opening of a record is allowed (R13, R25, R26). -/
def State.mayOpen (s : State) (make : Nat → Record) : Prop :=
  (∃ c, make = monitorRecord c ∧ s.hasCause c = false) ∨
    (make = pendantRecord ∧ s.pendantFree = true ∧ nonMonitorCount s.table.records < 12) ∨
    ∃ o k tag e, make = openedRecord o k tag e ∧ o ≠ .monitor ∧ o ≠ .pendant ∧ e ≠ some 0 ∧
      s.openHoldRefusal (some o) (some k) e = none

/-- The amend of a record is allowed (R15). -/
def State.mayAmend (s : State) (r : Record) (cls : HoldClass) (act : ExpiryAction) : Prop :=
  r ∈ s.table.records ∧ r.owner ≠ .monitor ∧ r.owner ≠ .pendant ∧ r.state ≠ .releasing ∧ act.badValue = false ∧
    (cls = .park → act.apply r.expiry = none)

/-- A value may be written to an item (R199). -/
def State.mayWrite (s : State) (item : Item) (value : Word16) : Prop :=
  item.inRange value = true ∧ (s.store.working.write item value).constraints = true ∧ s.ctl.mode ≠ .sleep

/-- The state with an item of the working profile written. -/
def State.written (s : State) (item : Item) (value : Word16) : State :=
  s.withStore { s.store with working := s.store.working.write item value }

/-- A change of this item makes the Force Calculator run (R58). -/
def Item.refigures : Item → Bool
  | .vehicle i => forceItem i
  | _ => false

/-- The part as a wake begins it: its mode and link started afresh, its lines as they read (R164). -/
def State.roused (s : State) : State :=
  let t := (s.withCtl
    { s.ctl with
      mode := .start
      timer := .start
      token := 0
      phase := .first
      window := none
      clock := .measuring 0 }).raise .mode
  (t.place .idle).withLines t.lines.settle

/-- The wake then with its sensors unread and its channels as they are found (R101, R164). -/
def State.rewired (s : State) : State :=
  let t := s.withMeas (s.meas.wake s.vehicle.minSupply.toNat)
  t.withChans (Six.ofFn fun c => (t.chans.get c).wake (t.items c).line (t.liftLevel c) c)

/-- The part as a wake leaves it, up to what the pendant pair then asks (R164). -/
def State.waking (s : State) : State :=
  let t := s.roused.rewired.deriveWeight
  let u := t.distributeWith t.meas.loads true
  u.withMon { u.mon with driverPresent := u.lines.seat.level, seatTimer := .stopped }

theorem State.wakeUp_eq (s : State) : s.wakeUp = s.waking.pendantAsRead := rfl

theorem State.waking_ctl (s : State) :
    s.waking.ctl =
      { s.ctl with mode := .start, timer := .start, token := 0, phase := .first, window := none, clock := .measuring 0 } := by
  simp [State.waking, State.rewired, State.roused]

@[simp] theorem State.waking_gate (s : State) : s.waking.gate = s.gate := by
  simp [State.waking, State.rewired, State.roused]

@[simp] theorem State.waking_store (s : State) : s.waking.store = s.store := by
  simp [State.waking, State.rewired, State.roused]

/-- A wake leaves the table, but for the report that its run is heard with (R164). -/
theorem State.waking_table (s : State) :
    ∃ b, s.waking.table = { s.table with records := heardRecords b s.table.records } := by
  have ht : s.roused.rewired.deriveWeight.table = s.table := by simp [State.rewired, State.roused]
  unfold State.waking
  dsimp only
  rw [State.withMon_table, State.distributeWith_table, ht]
  exact ⟨_, rfl⟩

/-- The measurements that a wake leaves: those of its start, the loads and the weight derived over them (R164). -/
theorem State.waking_meas (s : State) :
    ∃ loads, ∃ t : State, t.store = s.store ∧
      s.waking.meas =
        { s.meas.wake s.vehicle.minSupply.toNat with loads := loads, weight := t.weightOf loads } := by
  have hm : s.roused.rewired.meas = s.meas.wake s.vehicle.minSupply.toNat := by
    simp [State.rewired, State.roused, State.vehicle]
  refine ⟨s.roused.rewired.deriveLoads.meas.loads, s.roused.rewired.deriveLoads, ?_, ?_⟩
  · simp [State.rewired, State.roused]
  · rw [← hm, State.waking, State.withMon_meas, State.distributeWith_meas]
    rfl

/-- The state with a record RELEASING and the gate armed over it, before the gate decides and judges (R107). -/
def State.armed (s : State) (h : Nat) : State :=
  (s.withTable { s.table with records := updateRecord s.table.records h fun x => { x with state := .releasing } }).withGate
    ⟨true, h, some (Config.ms s.vehicle.releaseTimeout.toNat), false, s.ctl.mode != .run⟩

/-- One move of a command. -/
inductive Move (L : Licence) (s : State) : State → Prop
  | link (x : Link) : Move L s (s.withLink x)
  | mon (m : Monitor) (hw : m.pendantWant = s.mon.pendantWant)
      (hz : s.ctl.mode = .sleep → L.dozes ∨ m.dozesAs s.mon) : Move L s (s.withMon m)
  | want (w : PendantWant) (h : L.wants) : Move L s (s.want w)
  | lines (l : Lines) (hp : l.pair = s.lines.pair ∨ L.wants)
      (hz : s.ctl.mode = .sleep → L.dozes ∨ l.restsAs s.lines) : Move L s (s.withLines l)
  | ctl (k : Control) (hm : k.mode.alike s.ctl.mode)
      (hz : s.ctl.mode = .sleep → L.dozes ∨ k.clock = s.ctl.clock) : Move L s (s.withCtl k)
  | cancel (k : Control) (x : Link) (hr : k.mode ≠ .run) (hk : k.mode ≠ .sleep)
      (hz : s.ctl.mode = .sleep → L.dozes) : Move L s ((s.withCtl k).withLink x).gateCancel
  | toRun (k : Control) (x : Link) (hk : k.mode = .run) (hz : s.ctl.mode = .sleep → L.dozes) :
      Move L s (((s.withCtl k).withLink x).withGate
        (if s.gate.armed then { s.gate with modeCause := false } else s.gate))
  | meas (m : Measure) (hm : s.measuresTo m) : Move L s (s.withMeas m)
  | store (p : Store) (hp : p.working = s.store.working) : Move L s (s.withStore p)
  | rewrite (item : Item) (value : Word16) (hw : s.mayWrite item value) (hi : item.refigures = false) :
      Move L s (s.written item value)
  | refigure (item : Item) (value : Word16) (hw : s.mayWrite item value) : Move L s (s.written item value).runAndOffer
  | chans (x : Six Channel) : Move L s (s.withChans x)
  | power (b : Bool) : Move L s { s with powered := b }
  | frees (n : Nat) : Move L s { s with freeCount := n }
  | dist (d : Distribution) (ht : d.total = s.dist.total) (hs : d.short = s.dist.short) : Move L s (s.withDist d)
  | run (loads : Six Nat) (fresh : Bool) : Move L s (s.distributeWith loads fresh)
  | report : Move L s s.reportConfirmed
  | offer (hz : s.ctl.mode ≠ .sleep) : Move L s s.runAndOffer
  | relief (hl : L.lowers) (hz : s.ctl.mode = .sleep → L.dozes) :
      Move L s ((s.withTable { s.table with relief := .start }).applyForce s.force.fReq)
  | opens (make : Nat → Record) (hm : s.mayOpen make) : Move L s (s.openRecord make)
  | retire (h : Nat) (hr : L.sound → ∃ r ∈ s.table.records, r.handle = h ∧ r.state ≠ .releasing)
      (hn : L.counter s.table.nextHandle) (hz : s.ctl.mode = .sleep → L.stops) : Move L s (s.retire h false)
  | convert (h : Nat) (hr : L.sound → ∃ r ∈ s.table.records, r.handle = h ∧ r.lastUnit = true)
      (hn : L.counter s.table.nextHandle) : Move L s (s.convertToPark h)
  | amend (r : Record) (cls : HoldClass) (act : ExpiryAction) (hl : L.lowers) (hm : s.mayAmend r cls act) :
      Move L s (s.amend r cls act)
  | arm (r : Record) (hr : r ∈ s.table.records) (hs : r.state ≠ .releasing)
      (ho : ∀ x ∈ s.table.records, x.handle ≠ r.handle → x.state = .releasing) (hm : s.ctl.mode ≠ .safe)
      (hz : s.ctl.mode = .sleep → L.dozes) (hn : L.counter s.table.nextHandle) : Move L s (s.armed r.handle)
  | supply (b : Bool) (ha : s.gate.armed = true) : Move L s (s.withGate { s.gate with supplyCause := b })
  | driveOff (ha : s.gate.armed = true) : Move L s s.driveOff
  | fails (reason : Reason) (ha : s.gate.armed = true) : Move L s (s.releaseFails reason)
  | count : Move L s (s.withTable { s.table with beat := 0, records := s.table.records.map Record.countDown })
  | mark (b : Bool) : Move L s (s.markCollected b)
  | sleep (hc : s.sleepConditions = true) (hl : L.sleeps) : Move L s s.enterSleep
  | wake (hm : s.ctl.mode = .sleep) (hw : L.wants) : Move L s s.waking

/-- A chain of moves. -/
abbrev Moves (L : Licence) : State → State → Prop := Relation.ReflTransGen (Move L)

variable {L : Licence} {s t u : State}

theorem Move.chain (h : Move L s t) : Moves L s t := .single h

/-- A law that every move keeps is kept by a chain. -/
theorem Moves.keep {P : State → Prop} (hstep : ∀ {s t}, P s → Move L s t → P t) (h : Moves L s t) (hs : P s) : P t := by
  induction h with
  | refl => exact hs
  | tail _ hm ih => exact hstep ih hm

/-- A chain made under a condition is a chain. -/
theorem moves_if {c : Prop} [Decidable c] (h : c → Moves L s t) : Moves L s (if c then t else s) := by
  split
  · rename_i hc
    exact h hc
  · exact .refl

/-! ## Moves of the link, the measurements and the outputs -/

theorem moves_place (a : Answer) : Moves L s (s.place a) := (Move.link _).chain

theorem moves_done (code : Byte) (bytes : List Byte) : Moves L s (s.done code bytes) := (Move.link _).chain

theorem moves_refuse (code : Byte) (reason : Reason) : Moves L s (s.refuse code reason) := (Move.link _).chain

theorem moves_raise (src : Source) : Moves L s (s.raise src) := (Move.link _).chain

theorem moves_raiseHolds (h : Nat) (reason : Reason) : Moves L s (s.raiseHolds h reason) := (Move.link _).chain

theorem moves_raiseIf (b : Bool) (src : Source) : Moves L s (s.raiseIf b src) := by
  cases b
  · exact .refl
  · exact moves_raise src

theorem moves_stopDeadline (src : CriticalSource) : Moves L s (s.stopDeadline src) := by
  cases src <;> exact (Move.link _).chain

theorem moves_withChan (c : Chan) (x : Channel) : Moves L s (s.withChan c x) := (Move.chans _).chain

theorem moves_refreshWarn : Moves L s s.refreshWarn := (Move.mon { s.mon with warn := s.warnNext } rfl fun _ => .inr ⟨rfl, rfl⟩).chain

theorem moves_distribute : Moves L s s.distribute := (Move.run _ _).chain

theorem measuresTo_loads (loads : Six Nat) : s.measuresTo { s.meas with loads := loads } :=
  ⟨id, .inl rfl, .inl rfl, rfl⟩

/-- The weight over a set of loads is at most 65000, or gross_weight (R40). -/
theorem State.weightOf_range (s : State) (loads : Six Nat) :
    s.weightOf loads ≤ 65000 ∨ s.weightOf loads = s.vehicle.grossWeight.toNat := by
  unfold State.weightOf
  dsimp only
  split
  · exact .inl (min_le_right _ _)
  · exact .inr rfl

theorem moves_deriveLoads : Moves L s s.deriveLoads := (Move.meas _ (measuresTo_loads _)).chain

theorem moves_deriveWeight : Moves L s s.deriveWeight :=
  moves_deriveLoads.trans
    (Move.meas { s.deriveLoads.meas with weight := s.deriveLoads.weightOf s.deriveLoads.meas.loads }
      ⟨id, .inr (State.weightOf_range _ _), .inl rfl, rfl⟩).chain

/-! ## Moves of the holds and the gate -/

theorem moves_gateEvaluate : Moves L s s.gateEvaluate :=
  moves_if fun h => (Move.driveOff (by simp_all)).chain

theorem moves_gateDecide : Moves L s s.gateDecide := by
  unfold State.gateDecide
  split
  · rename_i ha
    dsimp only
    split
    · exact .refl
    · have ht : Moves L s ((s.withGate { s.gate with supplyCause := s.supplyCauseHolds }).raise .supply) :=
        (Move.supply _ ha).chain.trans (moves_raise _)
      split
      · exact ht
      · exact ht.trans moves_gateEvaluate
  · exact .refl

theorem moves_eligibilityChanged : Moves L s s.eligibilityChanged :=
  moves_deriveWeight.trans (moves_distribute.trans moves_gateDecide)

theorem moves_faultChannel (c : Chan) (cause : FaultCause) : Moves L s (s.faultChannel c cause) :=
  (moves_withChan _ _).trans ((moves_raise _).trans (moves_distribute.trans moves_gateDecide))

theorem moves_monitorOpening (c : Cause) : Moves L s (s.monitorOpening c) := by
  unfold State.monitorOpening
  split
  · exact .refl
  · rename_i h
    exact (Move.opens _ (.inl ⟨c, rfl, by simpa using h⟩)).chain.trans (moves_raiseHolds _ _)

theorem moves_autoparkEvaluate : Moves L s s.autoparkEvaluate := moves_if fun _ => moves_monitorOpening _

/-- A release is nothing, a retirement, or an armed gate that decides and judges (R19). -/
theorem moves_release {r : Record} (hr : r ∈ s.table.records) (hm : s.ctl.mode ≠ .safe)
    (hz : s.ctl.mode = .sleep → L.dozes ∧ L.stops) (hn : L.counter s.table.nextHandle) : Moves L s (s.release r) := by
  unfold State.release
  split
  · exact .refl
  · rename_i hrel
    have hs : r.state ≠ .releasing := by simpa [Record.isReleasing] using hrel
    split
    · exact (Move.retire _ (fun _ => ⟨r, hr, rfl, hs⟩) hn fun h => (hz h).2).chain
    · rename_i ho
      have ho' : ∀ x ∈ s.table.records, x.handle ≠ r.handle → x.state = .releasing := by
        simpa [Record.isReleasing] using ho
      exact (Move.arm r hr hs ho' hm (fun h => (hz h).1) hn).chain.trans (moves_gateDecide.trans moves_gateEvaluate)

/-! ## Moves of the pendant -/

theorem moves_pendantTry (hw : L.wants) (hf : s.pendantFree = true) (told : Bool) : Moves L s (s.pendantTry told) := by
  unfold State.pendantTry
  split
  · rename_i hn
    exact (Move.opens _ (.inr (.inl ⟨rfl, hf, hn⟩))).chain.trans (Move.want _ hw).chain
  · cases told
    · exact (moves_raiseHolds _ _).trans (Move.want _ hw).chain
    · exact (Move.want _ hw).chain

theorem moves_pendantOpen (hw : L.wants) (told : Bool) : Moves L s (s.pendantOpen told) := by
  unfold State.pendantOpen
  split
  · rename_i hf
    split
    · exact (Move.want _ hw).chain
    · exact moves_pendantTry hw hf told
  · exact (Move.want _ hw).chain

theorem moves_pendantStop (hw : L.wants) (hz : s.ctl.mode = .sleep → L.dozes ∧ L.stops)
    (hn : L.counter s.table.nextHandle) : Moves L s s.pendantStop := by
  unfold State.pendantStop
  dsimp only
  have hwant : Moves L s (s.want .none) := (Move.want _ hw).chain
  split
  · rename_i r hr
    split
    · exact hwant
    · rename_i hm
      exact hwant.trans (moves_release (List.mem_of_find?_eq_some hr) (by simpa using hm) (by simpa using hz) (by simpa using hn))
  · exact hwant

theorem moves_pendantRetry (hw : L.wants) : Moves L s s.pendantRetry := moves_if fun _ => moves_pendantOpen hw true

theorem moves_pendantAsRead (hw : L.wants) (hz : s.ctl.mode = .sleep → L.dozes ∧ L.stops)
    (hn : L.counter s.table.nextHandle) : Moves L s s.pendantAsRead := by
  unfold State.pendantAsRead
  split
  · split
    · exact (moves_raise _).trans (moves_pendantOpen hw _)
    · exact moves_pendantOpen hw _
  · exact moves_pendantStop hw hz hn

/-- What an event ends with is a chain of moves (R138, R26, R144). -/
theorem moves_conclude (hw : L.wants) (before : State) : Moves L s (State.conclude before s) := by
  unfold State.conclude
  exact (moves_if fun _ => moves_autoparkEvaluate).trans
    ((moves_if fun _ => moves_pendantRetry hw).trans moves_refreshWarn)

/-! ## Moves of the modes -/

theorem moves_overrideChannel (c : Chan) (o : Override) : Moves L s (s.overrideChannel c o) := by
  unfold State.overrideChannel
  dsimp only
  repeat' split
  all_goals first | exact .refl | exact moves_withChan _ _

theorem moves_firstStandstillInSafe : Moves L s s.firstStandstillInSafe := by
  refine (moves_monitorOpening .failsafe).trans (.trans (Move.ctl _ ?_ ?_).chain (Move.chans _).chain)
  · exact Mode.alike_refl _
  · exact fun _ => .inr rfl

/-- A fold of chains over the channels is a chain. -/
theorem moves_foldl {α : Type} {f : State → α → State} (hf : ∀ s a, Moves L s (f s a)) (as : List α) :
    Moves L s (as.foldl f s) := by
  induction as generalizing s with
  | nil => exact .refl
  | cons a as ih => exact (hf s a).trans ih

theorem moves_safeOverrides : Moves L s s.safeOverrides := by
  unfold State.safeOverrides
  split
  · exact moves_firstStandstillInSafe
  · exact moves_foldl (fun _ c => moves_overrideChannel c _) _

theorem moves_enterSafe (hz : s.ctl.mode = .sleep → L.dozes) : Moves L s s.enterSafe :=
  (Move.cancel { s.ctl with mode := .safe, timer := .stopped, phase := .none, window := none, sleepPending := false } _
    (by simp) (by simp) hz).chain.trans moves_safeOverrides

theorem moves_enterDegraded (hz : s.ctl.mode = .sleep → L.dozes) : Moves L s s.enterDegraded :=
  (Move.cancel
    { s.ctl with mode := .degraded, timer := .start, phase := .awaitResync, window := none, sleepPending := false } _
    (by simp) (by simp) hz).chain.trans moves_autoparkEvaluate

theorem moves_supervisionFault (hm : s.ctl.mode ≠ .sleep) : Moves L s s.supervisionFault := by
  unfold State.supervisionFault
  have hc : Moves L s (s.withCtl { s.ctl with degradations := s.ctl.degradations + 1 }) :=
    (Move.ctl { s.ctl with degradations := s.ctl.degradations + 1 } (Mode.alike_refl _) fun _ => .inr rfl).chain
  dsimp only
  split
  · exact hc.trans (moves_enterSafe fun h => absurd h hm)
  · exact hc.trans (moves_enterDegraded fun h => absurd h hm)

/-- The control of a part that has entered RUN, its window due (R155). -/
def State.runControl (s : State) : Control :=
  { s.ctl with timer := .stopped, mode := .run, phase := .wait, window := some s.nextWindow }

/-- Entry into RUN is the new control and notices, then the gate and autopark (R155). -/
theorem State.enterRun_eq (s : State) :
    ∃ x, s.enterRun = ((s.withCtl s.runControl).withLink x).gateEnterRun.autoparkEvaluate := ⟨_, rfl⟩

/-- Entry into RUN at the gate (R113, R115): its mode cause ends, and the gate judges where that suspended it. -/
theorem moves_gateEnterRun (k : Control) (x : Link) (hk : k.mode = .run) (hz : s.ctl.mode = .sleep → L.dozes) :
    Moves L s ((s.withCtl k).withLink x).gateEnterRun := by
  have hrun := (Move.toRun (L := L) (s := s) k x hk hz).chain
  have hself : ∀ g, g = s.gate → ((s.withCtl k).withLink x).withGate g = (s.withCtl k).withLink x := by
    rintro _ rfl; rfl
  unfold State.gateEnterRun
  cases ha : s.gate.armed with
  | false =>
    rw [hself _ (by simp [ha])] at hrun
    simpa [ha] using hrun
  | true =>
    cases hc : s.gate.modeCause with
    | false =>
      rw [hself _ (by rw [ha, if_pos rfl, ← hc])] at hrun
      simpa [ha, hc] using hrun
    | true =>
      rw [ha, if_pos rfl] at hrun
      simpa [ha, hc] using hrun.trans moves_gateEvaluate

theorem moves_enterRun (hm : s.ctl.mode ≠ .sleep) : Moves L s s.enterRun := by
  obtain ⟨x, hx⟩ := s.enterRun_eq
  rw [hx]
  exact (moves_gateEnterRun _ _ rfl fun h => absurd h hm).trans moves_autoparkEvaluate

theorem moves_clockFailure (hz : s.ctl.mode = .sleep → L.dozes) : Moves L s s.clockFailure := by
  unfold State.clockFailure
  dsimp only
  have hc : Moves L s ((s.withCtl { s.ctl with clock := .failed }).withChans
      (Six.ofFn fun c => { (s.withCtl { s.ctl with clock := .failed }).chans.get c with mismatch := .stopped })) :=
    (Move.ctl { s.ctl with clock := .failed } (Mode.alike_refl _) fun h => .inl (hz h)).chain.trans (Move.chans _).chain
  split
  · exact hc.trans (moves_raise _)
  · exact hc.trans (moves_enterSafe hz)

theorem moves_wakeUp (hw : L.wants ∧ L.counter s.table.nextHandle) (hm : s.ctl.mode = .sleep) : Moves L s s.wakeUp := by
  rw [State.wakeUp_eq]
  obtain ⟨b, hb⟩ := s.waking_table
  refine (Move.wake hm hw.1).chain.trans (moves_pendantAsRead hw.1 (fun h => ?_) (by rw [hb]; exact hw.2))
  exact absurd h (by simp [State.waking_ctl])

/-- A limit pulse: the rollaway is caught, or caught a second time (R129, R132). -/
theorem moves_limitPulse : Moves L s s.limitPulse := by
  unfold State.limitPulse
  split
  · refine .trans (Move.mon { s.mon with stage := .caught } rfl fun _ => .inr ⟨rfl, rfl⟩).chain ?_
    exact (moves_monitorOpening _).trans (moves_raise _)
  · exact .refl
  · unfold State.secondRollaway
    refine .trans (Move.mon { s.mon with tractionLost := true } rfl fun _ => .inr ⟨rfl, rfl⟩).chain ?_
    refine (moves_raise _).trans (.trans (Move.mark false).chain (Move.mon _ ?_ ?_).chain)
    · rfl
    · exact fun _ => .inr ⟨rfl, rfl⟩
  · exact .refl

end Sys2Proof.Machine

/-! # Every command as a chain of moves

`exec_acts`: each command but a reset is a chain of moves, each part of it ended by `State.conclude` or leaving the records as
they are. The reset sequence is spoken of on its own. -/

namespace Sys2Proof.Machine

/-! ## Parts of a command -/

/-- A part of a command: a chain of moves that leaves the owners of the records, one that an event's end follows, the entry
into SLEEP, or the wake, which a limit pulse may follow (R123, R162, R164). -/
inductive Act (L : Licence) (s : State) : State → Prop
  | plain {t : State} (h : Moves L s t)
      (hr : t.table.records.map Record.owner = s.table.records.map Record.owner) : Act L s t
  | ended {t : State} (h : Moves L s t) : Act L s (State.conclude s t)
  | slept (hc : s.sleepConditions = true) : Act L s (State.conclude s s.enterSleep)
  | woken {x : State} (limit : Bool) (h : Moves L s x) (hm : x.ctl.mode = .sleep)
      (hw : L.wakes ∧ L.counter x.table.nextHandle) :
      Act L s (State.conclude s (if limit then x.wakeUp.limitPulse else x.wakeUp))

/-- The parts of a command, one after the other. -/
abbrev Acts (L : Licence) : State → State → Prop := Relation.ReflTransGen (Act L)

variable {L : Licence} {s t u : State}

theorem Act.chain (h : Act L s t) : Acts L s t := .single h

/-- A law that every move keeps is kept by the parts of a command. -/
theorem Acts.keep {P : State → Prop} (hw : L.wants) (hl : L.sleeps) (hstep : ∀ {s t}, P s → Move L s t → P t) (h : Acts L s t) (hs : P s) :
    P t := by
  induction h with
  | refl => exact hs
  | tail _ ha ih =>
    cases ha with
    | plain hm => exact hm.keep hstep ih
    | ended hm => exact Moves.keep hstep (hm.trans (moves_conclude hw _)) ih
    | slept hc => exact Moves.keep hstep ((Move.sleep hc hl).chain.trans (moves_conclude hw _)) ih
    | woken limit hx hm hwake =>
      refine Moves.keep hstep (hx.trans (.trans ?_ (moves_conclude hw _))) ih
      have hup := moves_wakeUp ⟨hw, hwake.2⟩ hm
      split
      · exact hup.trans moves_limitPulse
      · exact hup

/-- A licence that allows no less. -/
def Licence.within (L L' : Licence) : Prop :=
  (L.dozes → L'.dozes) ∧ (L.wants → L'.wants) ∧ (L.lowers → L'.lowers) ∧ (L.stops → L'.stops) ∧ (L.sleeps → L'.sleeps) ∧
    (L.wakes → L'.wakes) ∧ (L'.sound → L.sound) ∧ ∀ n, L.counter n → L'.counter n

theorem Move.mono {L' : Licence} (hL : L.within L') (h : Move L s t) : Move L' s t := by
  obtain ⟨hd, hw, hl, hst, hsl, -, hs, hc⟩ := hL
  cases h with
  | link x => exact .link x
  | mon m hwant hz => exact .mon m hwant fun h => (hz h).imp_left hd
  | want w h => exact .want w (hw h)
  | lines l hp hz => exact .lines l (hp.imp_right hw) fun h => (hz h).imp_left hd
  | ctl k hm hz => exact .ctl k hm fun h => (hz h).imp_left hd
  | cancel k x hr hk hz => exact .cancel k x hr hk fun h => hd (hz h)
  | toRun k x hk hz => exact .toRun k x hk fun h => hd (hz h)
  | meas m hm => exact .meas m hm
  | store p hp => exact .store p hp
  | rewrite item value hwr hi => exact .rewrite item value hwr hi
  | refigure item value hwr => exact .refigure item value hwr
  | chans x => exact .chans x
  | power b => exact .power b
  | frees n => exact .frees n
  | dist d ht hsh => exact .dist d ht hsh
  | run loads fresh => exact .run loads fresh
  | report => exact .report
  | offer hz => exact .offer hz
  | relief hlo hz => exact .relief (hl hlo) fun h => hd (hz h)
  | opens make hm => exact .opens make hm
  | retire h hr hn hz => exact .retire h (fun hso => hr (hs hso)) (hc _ hn) fun h => hst (hz h)
  | convert h hr hn => exact .convert h (fun hso => hr (hs hso)) (hc _ hn)
  | amend r cls act hlo hm => exact .amend r cls act (hl hlo) hm
  | arm r hr hrel ho hm hz hn => exact .arm r hr hrel ho hm (fun h => hd (hz h)) (hc _ hn)
  | supply b ha => exact .supply b ha
  | driveOff ha => exact .driveOff ha
  | fails reason ha => exact .fails reason ha
  | count => exact .count
  | mark b => exact .mark b
  | sleep hc hl => exact .sleep hc (hsl hl)
  | wake hm hwant => exact .wake hm (hw hwant)

theorem Moves.mono {L' : Licence} (hL : L.within L') (h : Moves L s t) : Moves L' s t :=
  Relation.ReflTransGen.mono (fun _ _ hm => Move.mono hL hm) _ _ h

theorem Act.mono {L' : Licence} (hL : L.within L') (h : Act L s t) : Act L' s t := by
  cases h with
  | plain hm hr => exact .plain (hm.mono hL) hr
  | ended hm => exact .ended (hm.mono hL)
  | slept hc => exact .slept hc
  | woken limit hx hm hwake =>
    obtain ⟨-, -, -, -, -, hw, -, hc⟩ := id hL
    exact .woken limit (hx.mono hL) hm ⟨hw hwake.1, hc _ hwake.2⟩

theorem Acts.mono {L' : Licence} (hL : L.within L') (h : Acts L s t) : Acts L' s t :=
  Relation.ReflTransGen.mono (fun _ _ ha => Act.mono hL ha) _ _ h

/-- Nothing, as a part of a command. -/
theorem acts_refl : Acts L s s := .refl

theorem acts_plain (h : Moves L s t) (hr : t.table.records.map Record.owner = s.table.records.map Record.owner) : Acts L s t := (Act.plain h hr).chain

theorem acts_ended (h : Moves L s t) : Acts L s (State.conclude s t) := (Act.ended h).chain

/-- An event is a part of its own. -/
theorem acts_event {f : State → State} (h : s.powered = true → Moves L s (f s)) : Acts L s (s.event f) := by
  unfold State.event
  split
  · rename_i hp
    exact acts_ended (h hp)
  · exact acts_refl

theorem acts_wakeUp (hm : s.ctl.mode = .sleep) (hw : L.wakes ∧ L.counter s.table.nextHandle) : Acts L s (State.conclude s s.wakeUp) :=
  (Act.woken false .refl hm hw).chain

/-- An exchange wakes the part, enters SLEEP, or is taken by a part that is awake. -/
theorem acts_exchange {take : State → State} (hw : s.ctl.mode = .sleep → L.wakes ∧ L.counter s.table.nextHandle)
    (h : ∀ u : State, u.ctl.mode ≠ .sleep → (u = s ∨ u = s.withCtl { s.ctl with sleepPending := false }) →
      Acts L u (take u)) :
    Acts L s (s.exchange take) := by
  unfold State.exchange
  split
  · exact acts_refl
  · split
    · rename_i hm
      exact acts_wakeUp hm (hw hm)
    · rename_i hm
      split
      · split
        · rename_i hc
          exact (Act.slept hc).chain
        · exact (acts_plain (Move.ctl { s.ctl with sleepPending := false } (Mode.alike_refl _) fun _ => .inr rfl).chain
            rfl).trans (h _ hm (.inr rfl))
      · exact h _ hm (.inl rfl)

/-- A request is an exchange whose rule is taken in a mode that admits it. -/
theorem acts_request {r : Request} {own : State → State} (hw : s.ctl.mode = .sleep → L.wakes ∧ L.counter s.table.nextHandle)
    (h : ∀ u : State, u.ctl.mode ≠ .sleep → r.admitted u.ctl.mode = true →
      (u = s ∨ u = s.withCtl { s.ctl with sleepPending := false }) → Acts L u (own u)) :
    Acts L s (s.request r own) := by
  refine acts_exchange hw fun u hm hu => ?_
  split
  · rename_i ha
    exact h u hm ha hu
  · exact acts_plain (moves_refuse _ _) rfl

theorem acts_done (code : Byte) (bytes : List Byte) : Acts L s (s.done code bytes) := acts_plain (moves_done _ _) rfl

theorem acts_refuse (code : Byte) (reason : Reason) : Acts L s (s.refuse code reason) :=
  acts_plain (moves_refuse _ _) rfl

/-! ## What holds in SLEEP -/

/-- What runs in SLEEP where SLEEP stops it makes the part unsound. -/
theorem State.dozes_of_line {l : Line} (hm : s.ctl.mode = .sleep)
    (hl : l = s.lines.seat ∨ l = s.lines.door ∨ l = s.lines.lift1 ∨ l = s.lines.lift2)
    (hd : l.debounce.isRunning = true) : ¬s.sleepSound := by
  rintro ⟨-, h⟩
  obtain ⟨h1, h2, h3, h4, -⟩ := h hm
  simp only [Line.atRest] at h1 h2 h3 h4
  rcases hl with rfl | rfl | rfl | rfl <;> simp_all [Timer.isRunning]

theorem State.dozes_of_pair (hm : s.ctl.mode = .sleep) (hd : s.pairDue = true) : ¬s.sleepSound := by
  rintro ⟨-, h⟩
  obtain ⟨-, -, -, -, hp, -⟩ := h hm
  simp [State.pairDue, hp] at hd

theorem State.dozes_of_relief (hm : s.ctl.mode = .sleep) (hd : s.reliefDue = true) : ¬s.sleepSound := by
  rintro ⟨-, h⟩
  obtain ⟨-, -, -, -, -, hr, -⟩ := h hm
  simp [State.reliefDue, hr] at hd

theorem State.dozes_of_seatTimer (hm : s.ctl.mode = .sleep) (hd : s.seatDue = true) : ¬s.sleepSound := by
  rintro ⟨-, h⟩
  obtain ⟨-, -, -, -, -, -, ht, -⟩ := h hm
  simp [State.seatDue, ht] at hd

theorem State.dozes_of_train (hm : s.ctl.mode = .sleep) (hd : s.trainDue = true) : ¬s.sleepSound := by
  rintro ⟨-, h⟩
  obtain ⟨-, -, -, -, -, -, -, ht, -⟩ := h hm
  simp [State.trainDue, ht] at hd

theorem State.dozes_of_clock {n : Nat} (hm : s.ctl.mode = .sleep) (hd : s.ctl.clock = .measuring n) :
    ¬s.sleepSound := by
  rintro ⟨-, h⟩
  obtain ⟨-, -, -, -, -, -, -, -, hc⟩ := h hm
  simp [hd] at hc

/-! ## The grade (R35 to R37) -/

theorem joinWindow_length (window : List Int) (reading : Int) (h : window.length ≤ 16) :
    (joinWindow window reading).length ≤ 16 := by
  unfold joinWindow
  dsimp only
  split
  · rename_i h16
    simp only [List.length_append, List.length_singleton, List.length_drop] at h16 ⊢
    omega
  · omega

theorem mem_joinWindow {window : List Int} {reading x : Int} (h : x ∈ joinWindow window reading) :
    x ∈ window ∨ x = reading := by
  unfold joinWindow at h
  dsimp only at h
  split at h
  · simpa using List.mem_of_mem_drop h
  · simpa using h

/-- A sum of entries of at most 600 each. -/
theorem natAbs_sum_le {window : List Int} (h : ∀ x ∈ window, x.natAbs ≤ 600) :
    window.sum.natAbs ≤ 600 * window.length := by
  induction window with
  | nil => simp
  | cons x xs ih =>
    have hx := h x (by simp)
    have hxs := ih fun y hy => h y (by simp [hy])
    simp only [List.sum_cons, List.length_cons]
    omega

/-- The mean of sixteen entries of at most 600 is at most 600 (R36, R38). -/
theorem meanOf_le {window : List Int} (h : ∀ x ∈ window, x.natAbs ≤ 600) (hl : window.length = 16) :
    (meanOf window).natAbs ≤ 600 := by
  have hsum := natAbs_sum_le h
  have hc : ceilDiv window.sum.natAbs 16 ≤ 600 := (ceilDiv_le_iff (by omega)).2 (by omega)
  unfold meanOf
  rw [Int.natAbs_mul]
  rcases Int.sign_trichotomy window.sum with hs | hs | hs <;> simp [hs, hc]

theorem worstOf_le {best : Int} {window : List Int} (hb : best.natAbs ≤ 600) (h : ∀ x ∈ window, x.natAbs ≤ 600) :
    (worstOf best window).natAbs ≤ 600 := by
  induction window generalizing best with
  | nil => exact hb
  | cons x xs ih =>
    refine ih ?_ fun y hy => h y (by simp [hy])
    split
    · exact h x (by simp)
    · exact hb

theorem gradeOf_le {frozen : Int} {window : List Int} (hf : frozen.natAbs ≤ 600) (h : ∀ x ∈ window, x.natAbs ≤ 600) :
    (gradeOf frozen window).natAbs ≤ 600 := by
  unfold gradeOf
  split
  · exact meanOf_le h (by assumption)
  · split
    · exact hf
    · exact worstOf_le (by simp) h

/-- A reading keeps the law of the grade (R35 to R38). -/
theorem Measure.takeGrade_sound {m : Measure} (h : m.gradeSound) (reading : Int) : (m.takeGrade reading).gradeSound := by
  obtain ⟨hg, hl, hw, hf, hi⟩ := h
  unfold Measure.takeGrade
  split
  · rename_i hp
    have hw' : ∀ x ∈ joinWindow m.window reading, x.natAbs ≤ 600 := by
      intro x hx
      rcases mem_joinWindow hx with h | rfl
      · exact hw x h
      · simpa [plausible] using hp
    have hl' := joinWindow_length m.window reading hl
    dsimp only
    split
    · split
      · rename_i h16
        exact ⟨meanOf_le hw' h16, hl', hw', by simp, by simp⟩
      · exact ⟨by simp, hl', hw', fun _ => ⟨rfl, rfl, by dsimp only; omega⟩, by simp⟩
    · rename_i hff
      exact ⟨gradeOf_le hg hw', hl', hw', fun hc => absurd hc hff, by simp⟩
  · split
    · rename_i hff
      exact ⟨by simp, by simp, by simp, fun _ => ⟨rfl, (hf hff).2.1, by simp⟩, hi⟩
    · rename_i hff
      split
      · exact ⟨gradeOf_le hg hw, hl, hw, fun hc => absurd hc hff, by assumption⟩
      · exact ⟨by simp, by simp, by simp, by simp, by simp⟩

theorem Measure.endStandstill_sound {m : Measure} (h : m.gradeSound) : m.endStandstill.gradeSound := by
  obtain ⟨hg, -, -, hf, -⟩ := h
  exact ⟨hg, by simp [Measure.endStandstill], by simp [Measure.endStandstill],
    fun hff => ⟨(hf hff).1, rfl, by simp [Measure.endStandstill]⟩, by simp [Measure.endStandstill]⟩

@[simp] theorem Measure.takeGrade_weight (m : Measure) (x : Int) : (m.takeGrade x).weight = m.weight := by
  unfold Measure.takeGrade; dsimp only; repeat' split
  all_goals rfl

@[simp] theorem Measure.takeGrade_cRep (m : Measure) (x : Int) : (m.takeGrade x).cRep = m.cRep := by
  unfold Measure.takeGrade; dsimp only; repeat' split
  all_goals rfl

@[simp] theorem Measure.takeGrade_sampleTimer (m : Measure) (x : Int) : (m.takeGrade x).sampleTimer = m.sampleTimer := by
  unfold Measure.takeGrade; dsimp only; repeat' split
  all_goals rfl

/-! ## The link's own requests -/

/-- A change of the records that leaves each one's owner leaves the owners. -/
theorem owners_map {f : Record → Record} (hf : ∀ r, (f r).owner = r.owner) (records : List Record) :
    (records.map f).map Record.owner = records.map Record.owner := by simp [Function.comp_def, hf]

theorem acts_status : Acts L s ((s.done 0x02 s.statusPayload).collect) := by
  refine acts_plain (.trans (moves_done 0x02 s.statusPayload) ?_) ?_
  · exact (moves_if fun _ => (Move.mark true).chain).trans (Move.link _).chain
  · unfold State.collect
    dsimp only
    split
    · exact owners_map (fun r => by split <;> rfl) _
    · rfl

/-! ## The hold requests -/

theorem requestOwner_asks {b : Byte} {o : Owner} (h : requestOwner b = some o) : o ≠ .monitor ∧ o ≠ .pendant := by
  unfold requestOwner at h
  split at h <;> simp_all <;> subst h <;> simp

theorem expiryOf_ne_zero (w : Word16) : expiryOf w ≠ some 0 := by
  unfold expiryOf
  split <;> simp_all

theorem acts_openHold {b : Byte} {k : Option HoldClass} {tag : Option Byte} {w : Word16} :
    Acts L s (s.openHoldRule (requestOwner b) k tag (expiryOf w)) := by
  unfold State.openHoldRule
  split
  · exact acts_refuse _ _
  · rename_i hn
    refine acts_ended (.trans (Move.opens _ (.inr (.inr ?_))).chain (moves_done _ _))
    cases ho : requestOwner b with
    | none =>
      rw [ho] at hn
      unfold State.openHoldRefusal at hn
      split at hn <;> simp_all
    | some o =>
      cases k with
      | none =>
        rw [ho] at hn
        unfold State.openHoldRefusal at hn
        split at hn <;> simp_all
      | some k =>
        obtain ⟨hmon, hpen⟩ := requestOwner_asks ho
        exact ⟨o, k, tag, expiryOf w, rfl, hmon, hpen, expiryOf_ne_zero w, by rw [← hn, ho]⟩

/-- What the checks of AMEND HOLD have found where they let it pass (R15). -/
theorem State.amendHoldCheck_inr {b : Byte} {h : Nat} {k : Option HoldClass} {a : Option ExpiryAction} {r : Record}
    {cls : HoldClass} {act : ExpiryAction}
    (hc : s.amendHoldCheck (requestOwner b) h k a = .inr (r, cls, act)) :
    s.record h = some r ∧ s.mayAmend r cls act := by
  unfold State.amendHoldCheck at hc
  split at hc
  · cases hc
  · split at hc
    · split at hc
      · cases hc
      · split at hc
        · cases hc
        · rename_i hbad _ r' hr
          split at hc
          · cases hc
          · split at hc
            · cases hc
            · split at hc
              · cases hc
              · split at hc
                · cases hc
                · rename_i _ ho hrel hpark
                  simp only [Sum.inr.injEq, Prod.mk.injEq] at hc
                  obtain ⟨rfl, rfl, rfl⟩ := hc
                  obtain ⟨hmon, hpen⟩ := requestOwner_asks (by simpa using ho : requestOwner b = some r'.owner)
                  refine ⟨hr, List.mem_of_find?_eq_some hr, hmon, hpen, by simpa [Record.isReleasing] using hrel,
                    by simpa using hbad, ?_⟩
                  simpa using hpark
    · cases hc

theorem acts_amendHold {b : Byte} {h : Nat} {k : Option HoldClass} {a : Option ExpiryAction} (hl : L.lowers) :
    Acts L s (s.amendHoldRule (requestOwner b) h k a) := by
  unfold State.amendHoldRule
  split
  · exact acts_refuse _ _
  · rename_i r cls act hc
    exact acts_ended ((Move.amend r cls act hl (State.amendHoldCheck_inr hc).2).chain.trans (moves_done _ _))

/-- What the checks of RELEASE HOLD have found where they let it pass (R17). -/
theorem State.releaseHoldCheck_inr {o : Option Owner} {h : Nat} {r : Record}
    (hc : s.releaseHoldCheck o h = .inr r) : s.record h = some r ∧ s.ctl.mode = .run := by
  unfold State.releaseHoldCheck at hc
  split at hc
  · cases hc
  · rename_i hm
    split at hc
    · cases hc
    · split at hc
      · cases hc
      · rename_i r' hr
        split at hc
        · cases hc
        · split at hc
          · cases hc
          · cases hc
            exact ⟨hr, by simpa using hm⟩

theorem acts_releaseHold {o : Option Owner} {h : Nat} (hn : L.counter s.table.nextHandle) : Acts L s (s.releaseHoldRule o h) := by
  unfold State.releaseHoldRule
  split
  · exact acts_refuse _ _
  · rename_i r hc
    obtain ⟨hr, hm⟩ := State.releaseHoldCheck_inr hc
    have hmem : r ∈ s.table.records := List.mem_of_find?_eq_some hr
    split
    · exact acts_plain (moves_place _) rfl
    · dsimp only
      split
      · exact acts_ended ((moves_done _ _).trans (moves_release hmem (by simp [hm]) (by simp [hm]) (by exact hn)))
      · exact acts_ended ((moves_place _).trans (moves_release hmem (by simp [hm]) (by simp [hm]) (by exact hn)))

/-! ## The reports and the samples -/

theorem moves_takeDrive (hm : s.ctl.mode ≠ .sleep) (force : Int) (gear : Gear) : Moves L s (s.takeDrive force gear) := by
  unfold State.takeDrive
  refine .trans (Move.meas { s.meas with driveForce := clampForce force, gear := gear, driveAge := .start }
    ⟨id, .inl rfl, .inl rfl, rfl⟩).chain (.trans (Move.offer (by exact hm)).chain (moves_gateEvaluate.trans ?_))
  refine moves_if fun _ => (Move.mon _ ?_ ?_).chain
  · rfl
  · exact fun _ => .inr ⟨rfl, rfl⟩

theorem moves_drum (hm : s.ctl.mode ≠ .sleep) (d : DrumMode) (c : Option Nat) (hc : c.getD 0 ≤ 40000) :
    Moves L s (s.withMeas { s.meas with drum := d, cRep := c }).runAndOffer :=
  (Move.meas { s.meas with drum := d, cRep := c } ⟨id, .inl rfl, .inr hc, rfl⟩).chain.trans
    (Move.offer (by exact hm)).chain

/-- The readings of a sample set on the sensors, the circuits and, at standstill, the grade (R33, R35, R41). -/
def State.taken (s : State) (r : SampleSet) : Measure :=
  let m : Measure :=
    { s.meas with
      psv := takeSensors s.meas.psv r.psv
      psu := takeSensors s.meas.psu r.psu
      supplyA := Supply.derive (s.meas.supplyA.sensor.take r.pra) s.vehicle.minSupply.toNat
      supplyB := Supply.derive (s.meas.supplyB.sensor.take r.prb) s.vehicle.minSupply.toNat }
  if s.atStandstill then m.takeGrade r.acx else m

/-- The Measurement Unit on a sample: the readings, the loads and the weight, the notices (R32). -/
theorem State.measure_eq (s : State) (r : SampleSet) :
    ∃ b c, s.measure r = ((s.withMeas (s.taken r)).deriveWeight.raiseIf b .sensor).raiseIf c .supply := ⟨_, _, rfl⟩

theorem State.taken_measures (s : State) (r : SampleSet) : s.measuresTo (s.taken r) := by
  unfold State.taken
  dsimp only
  split
  · exact ⟨fun h => Measure.takeGrade_sound (by exact h) _, by simp, by simp, by simp⟩
  · exact ⟨id, .inl rfl, .inl rfl, rfl⟩

theorem moves_measure (r : SampleSet) : Moves L s (s.measure r) := by
  obtain ⟨b, c, h⟩ := s.measure_eq r
  rw [h]
  exact (Move.meas _ (s.taken_measures r)).chain.trans
    (moves_deriveWeight.trans ((moves_raiseIf _ _).trans (moves_raiseIf _ _)))

theorem moves_sensorFaults (before : Six Sensor) : Moves L s (s.sensorFaults before) :=
  moves_foldl (fun _ _ => moves_if fun _ => moves_faultChannel _ _) _

theorem moves_supplyOnSample (lowChanged first : Bool) : Moves L s (s.supplyOnSample lowChanged first) := by
  unfold State.supplyOnSample
  split
  · exact (Move.run _ _).chain
  · exact moves_if fun _ => moves_distribute

theorem moves_channelsOnSample (before : Six Sensor) : Moves L s (s.channelsOnSample before) :=
  (moves_sensorFaults before).trans ((Move.chans _).chain.trans Move.report.chain)

/-- The part right after the Measurement Unit on a sample, the 10 ms started again (R32). -/
def State.measured (s : State) (r : SampleSet) : State :=
  (s.measure r).withMeas { (s.measure r).meas with awaitsFirstSample := false, sampleTimer := .start }

/-- The Force Calculator on a sample: it runs at standstill or over holds (R47). -/
def State.offered (s : State) (r : SampleSet) : State :=
  if (s.measured r).atStandstill ∨ (s.measured r).table.records ≠ [] then (s.measured r).runAndOffer else s.measured r

/-- A sample in its parts (R32): measured, offered, the channels, the Distribution Unit, the gate. -/
theorem State.sample_eq (s : State) (r : SampleSet) :
    s.sample r =
      (((s.offered r).channelsOnSample s.meas.psv).supplyOnSample
        (s.meas.supplyA.low != (s.measure r).meas.supplyA.low || s.meas.supplyB.low != (s.measure r).meas.supplyB.low)
        s.meas.awaitsFirstSample).gateDecide.gateEvaluate := rfl

theorem moves_sample (hd : s.sampleDue = true) (r : SampleSet) : Moves L s (s.sample r) := by
  obtain ⟨hm, ht⟩ : s.ctl.mode ≠ .sleep ∧ s.meas.sampleTimer.due 10 = true := by
    simpa [State.sampleDue, State.awake] using hd
  have hrun : (s.measure r).meas.sampleTimer.isRunning = true := by
    obtain ⟨b, c, h⟩ := s.measure_eq r
    rw [h]
    simpa [State.deriveWeight, State.deriveLoads, Timer.isRunning_of_due ht] using (s.taken_measures r).2.2.2
  have hmeasured : Moves L s (s.measured r) :=
    (moves_measure r).trans
      (Move.meas { (s.measure r).meas with awaitsFirstSample := false, sampleTimer := .start }
        ⟨id, .inl rfl, .inl rfl, hrun.symm⟩).chain
  have hoffered : Moves L s (s.offered r) :=
    hmeasured.trans (moves_if fun _ => (Move.offer (by simpa [State.measured] using hm)).chain)
  rw [State.sample_eq]
  exact hoffered.trans ((moves_channelsOnSample _).trans
    ((moves_supplyOnSample _ _).trans (moves_gateDecide.trans moves_gateEvaluate)))

/-! ## The channels and the lift lines -/

theorem moves_restore (c : Chan) : Moves L s (s.restore c) := by
  unfold State.restore
  dsimp only
  split
  · exact (moves_withChan _ _).trans moves_eligibilityChanged
  · split
    · exact (moves_withChan _ _).trans (moves_faultChannel _ _)
    · exact (moves_withChan _ _).trans moves_eligibilityChanged

theorem moves_pwmStart (c : Chan) : Moves L s (s.pwmStart c) := by
  unfold State.pwmStart
  dsimp only
  split
  · exact (moves_withChan _ _).trans ((moves_overrideChannel _ _).trans Move.report.chain)
  · split
    · exact (moves_withChan _ _).trans Move.report.chain
    · exact moves_withChan _ _

theorem moves_liftOne (raised : Bool) (c : Chan) : Moves L s (s.liftOne raised c) := by
  unfold State.liftOne
  have hu : ∀ t : State, Moves L t (if !raised && s.lowersIntoFault c then t.raise .channel else t) :=
    fun t => moves_if fun _ => moves_raise _
  dsimp only
  split
  · exact (moves_withChan _ _).trans (hu _)
  · exact (moves_withChan _ _).trans ((hu _).trans moves_eligibilityChanged)

/-- A fold of parts is parts. -/
theorem acts_foldl {α : Type} {f : State → α → State} (hf : ∀ s a, Acts L s (f s a)) (as : List α) :
    Acts L s (as.foldl f s) := by
  induction as generalizing s with
  | nil => exact .refl
  | cons a as ih => exact (hf s a).trans ih

theorem Lines.setLift_rests (l : Lines) (line : LiftLine) (raised : Bool) : (l.setLift line raised).restsAs l := by
  cases line <;> simp [Lines.setLift, Lines.restsAs, Line.atRest]

theorem acts_liftChange (line : LiftLine) (raised : Bool) : Acts L s (s.liftChange line raised) := by
  obtain ⟨cs, k, -, h⟩ := s.liftChange_inTurn line raised
  rw [h]
  refine (acts_event fun _ => ?_).trans (acts_foldl (fun _ _ => acts_event fun _ => moves_liftOne _ _) _)
  exact (Move.lines _ (.inl (by cases line <;> rfl)) fun _ => .inr (Lines.setLift_rests _ line raised)).chain.trans
    (Move.frees k).chain

/-! ## The digital lines -/

theorem Lines.read_pair (l : Lines) (r : LineReading) : (l.read r).pair = l.pair := by
  have hp : ∀ a b, (l.readPair a b).pair = l.pair := fun a b => by unfold Lines.readPair; split <;> rfl
  rcases r with _ | _ | _ | _ | _ | ⟨line, b⟩
  case lift => cases line <;> rfl
  all_goals first | rfl | exact hp _ _

theorem Lines.readRaw_pair (l : Lines) (r : LineReading) : (l.readRaw r).pair = l.pair := by
  rcases r with _ | _ | _ | _ | _ | ⟨line, b⟩
  case lift => cases line <;> rfl
  all_goals rfl

theorem Lines.readRaw_rests (l : Lines) (r : LineReading) : (l.readRaw r).restsAs l := by
  rcases r with _ | _ | _ | _ | _ | ⟨line, b⟩
  case lift => cases line <;> exact ⟨id, id, id, id, id⟩
  all_goals exact ⟨id, id, id, id, id⟩

/-- A reading of the lines, debounced or not; in SLEEP it may wake the part. -/
theorem acts_lineChange (r : LineReading) (hw : s.ctl.mode = .sleep → L.wakes ∧ L.counter s.table.nextHandle) : Acts L s (s.lineChange r) := by
  unfold State.lineChange
  split
  · rename_i h
    have hm : s.ctl.mode ≠ .sleep := by simpa [State.awake] using h.2
    exact acts_plain (Move.lines _ (.inl (Lines.read_pair _ _)) fun hs => absurd hs hm).chain rfl
  · rename_i h
    have hraw : Moves L s (s.withLines (s.lines.readRaw r)) :=
      (Move.lines _ (.inl (Lines.readRaw_pair _ _)) fun _ => .inr (Lines.readRaw_rests _ _)).chain
    dsimp only
    split
    · rename_i hwake
      have hm : s.ctl.mode = .sleep := by
        have hp : s.powered = true := by simp_all
        simpa [State.awake, hp] using h
      exact (Act.woken false hraw hm (hw hm)).chain
    · exact acts_plain hraw rfl

theorem moves_currentChange (c : Chan) (present : Bool) : Moves L s (s.currentChange c present) :=
  (moves_withChan _ _).trans Move.report.chain

/-! ## Motion -/

theorem moves_pulseMotion (n : Chan) : Moves L s (s.pulseMotion n) := by
  unfold State.pulseMotion
  dsimp only
  refine .trans (Move.mon _ ?_ ?_).chain (moves_if fun _ => (Move.meas _ ?_).chain)
  · rfl
  · exact fun _ => .inr ⟨rfl, rfl⟩
  · exact ⟨Measure.endStandstill_sound, .inl rfl, .inl rfl, rfl⟩

theorem Monitor.count_rest (m : Monitor) (n : Chan) (limit : Nat) :
    (m.count n limit).pendantWant = m.pendantWant ∧ (m.count n limit).dozesAs m := by
  unfold Monitor.count
  split <;> exact ⟨rfl, rfl, rfl⟩

/-- A pulse (R123): its motion, its count, and a limit pulse's rollaway, for which a part in SLEEP wakes. -/
theorem acts_pulse (n : Chan) (hw : s.ctl.mode = .sleep → L.wakes ∧ L.counter s.table.nextHandle) :
    Acts L s (State.conclude s (s.pulse n)) := by
  unfold State.pulse
  have hc := (s.pulseMotion n).mon.count_rest n (s.pulseMotion n).vehicle.creepLimit.toNat
  have hcounted := (moves_pulseMotion n).trans
    (Move.mon (L := L) _ hc.1 fun _ => .inr hc.2).chain
  dsimp only
  split
  · split
    · exact acts_ended (hcounted.trans moves_limitPulse)
    · rename_i ha
      have hm : s.ctl.mode = .sleep := by simpa [State.awake] using ha
      exact (Act.woken true hcounted (by simpa using hm) (by simpa using hw hm)).chain
  · exact acts_ended hcounted

theorem acts_pulseEvent (n : Chan) (hw : s.ctl.mode = .sleep → L.wakes ∧ L.counter s.table.nextHandle) :
    Acts L s (s.event fun t => t.pulse n) := by
  unfold State.event
  split
  · exact acts_pulse n hw
  · exact acts_refl

theorem moves_stopMoving (hw : L.wants) : Moves L s s.stopMoving := by
  unfold State.stopMoving
  have ht : Moves L s (s.withMon { s.mon with moving := none, motion := .creeping }) :=
    (Move.mon { s.mon with moving := none, motion := .creeping } rfl fun _ => .inr ⟨rfl, rfl⟩).chain
  dsimp only
  split
  · exact ht.trans (moves_if fun _ => (Move.want _ hw).chain.trans (moves_pendantOpen hw _))
  · exact ht

theorem moves_beginStandstill : Moves L s s.beginStandstill := by
  unfold State.beginStandstill
  refine .trans (Move.mon { s.mon with standstill := .ranOut, motion := .standstill, autopark := .start } rfl
    fun _ => .inr ⟨rfl, rfl⟩).chain ?_
  exact moves_if fun _ => moves_firstStandstillInSafe

/-! ## The driver and the pendant pair -/

theorem moves_driverLeaves (hz : s.ctl.mode = .sleep → L.dozes) : Moves L s s.driverLeaves :=
  (Move.mon { s.mon with driverPresent := false, seatTimer := .stopped } rfl fun h => .inl (hz h)).chain.trans
    moves_autoparkEvaluate

theorem moves_seatChanged (hz : s.ctl.mode = .sleep → L.dozes) : Moves L s s.seatChanged := by
  have hseat : ∀ x, Moves L s (s.withMon { s.mon with seatTimer := x }) := fun x =>
    (Move.mon { s.mon with seatTimer := x } rfl fun h => .inl (hz h)).chain
  unfold State.seatChanged
  split
  · split
    · exact hseat _
    · exact (Move.mon { s.mon with driverPresent := true, inhibit := false } rfl fun h => .inl (hz h)).chain
  · split
    · exact .refl
    · split
      · exact moves_driverLeaves hz
      · exact hseat _

theorem moves_doorChanged (hz : s.ctl.mode = .sleep → L.dozes) : Moves L s s.doorChanged := by
  unfold State.doorChanged
  split
  · exact moves_driverLeaves hz
  · exact .refl

theorem moves_driverLineSettles (line : DriverLine) (hz : s.ctl.mode = .sleep → L.dozes) :
    Moves L s (s.driverLineSettles line) := by
  cases line with
  | seat =>
    exact (Move.lines { s.lines with seat := s.lines.seat.settle } (.inl rfl) fun h => .inl (hz h)).chain.trans
      (moves_seatChanged (by exact hz))
  | door =>
    exact (Move.lines { s.lines with door := s.lines.door.settle } (.inl rfl) fun h => .inl (hz h)).chain.trans
      (moves_doorChanged (by exact hz))

/-- The part with the pair's reading debounced, and SENSOR raised where a LINE_FAULT begins (R140). -/
def State.pairTaken (s : State) : State :=
  (s.withLines { s.lines with pair := pairOf s.lines.pa s.lines.pb, pairDebounce := .stopped }).withLink
    (if pairOf s.lines.pa s.lines.pb = .lineFault ∧ s.lines.pair ≠ .lineFault then (s.raise .sensor).link else s.link)

/-- The debounced pair opens, releases, or does neither (R141, R142). -/
theorem State.pairSettles_eq (s : State) :
    s.pairSettles =
      if s.lines.pair.asks = false ∧ (pairOf s.lines.pa s.lines.pb).asks then s.pairTaken.pendantOpen false
      else if s.lines.pair.asks ∧ (pairOf s.lines.pa s.lines.pb).asks = false then s.pairTaken.pendantStop
      else s.pairTaken := by
  have hu : (if pairOf s.lines.pa s.lines.pb = .lineFault ∧ s.lines.pair ≠ .lineFault then
        (s.withLines { s.lines with pair := pairOf s.lines.pa s.lines.pb, pairDebounce := .stopped }).raise .sensor
      else s.withLines { s.lines with pair := pairOf s.lines.pa s.lines.pb, pairDebounce := .stopped }) = s.pairTaken := by
    unfold State.pairTaken
    split <;> rfl
  have hthen : ∀ u : State, u = s.pairTaken →
      (if s.lines.pair.asks = false ∧ u.lines.pair.asks then u.pendantOpen false
        else if s.lines.pair.asks ∧ u.lines.pair.asks = false then u.pendantStop else u) =
      if s.lines.pair.asks = false ∧ (pairOf s.lines.pa s.lines.pb).asks then s.pairTaken.pendantOpen false
      else if s.lines.pair.asks ∧ (pairOf s.lines.pa s.lines.pb).asks = false then s.pairTaken.pendantStop
      else s.pairTaken := by
    rintro _ rfl; rfl
  exact hthen _ hu

theorem moves_pairSettles (hw : L.wants) (hz : s.ctl.mode = .sleep → L.dozes ∧ L.stops)
    (hn : L.counter s.table.nextHandle) : Moves L s s.pairSettles := by
  have ht : Moves L s s.pairTaken :=
    (Move.lines { s.lines with pair := pairOf s.lines.pa s.lines.pb, pairDebounce := .stopped } (.inr hw)
      fun h => .inl (hz h).1).chain.trans (Move.link _).chain
  rw [State.pairSettles_eq]
  split
  · exact ht.trans (moves_pendantOpen hw _)
  · split
    · exact ht.trans (moves_pendantStop hw hz hn)
    · exact ht

/-! ## The profile -/

theorem moves_rebuildChannel (c : Chan) : Moves L s (s.rebuildChannel c) := by
  unfold State.rebuildChannel
  dsimp only
  refine (moves_withChan _ _).trans (.trans (Move.dist _ ?_ ?_).chain moves_eligibilityChanged)
  · rfl
  · rfl

/-- A write is a figure's run, or the value's place and what it is handed on to (R200). -/
theorem moves_writeItem {item : Item} {value : Word16} (hw : s.mayWrite item value) :
    Moves L s (s.writeItem item value) := by
  unfold State.writeItem
  dsimp only
  split
  · exact .refl
  · by_cases hi : item.refigures = true
    · have := (Move.refigure (L := L) item value hw).chain
      cases item with
      | vehicle i => simpa [State.handOn, show forceItem i = true from hi, State.written] using this
      | channel c i => cases hi
      | commitCount => cases hi
    · refine (Move.rewrite item value hw (by simpa using hi)).chain.trans ?_
      cases item with
      | vehicle i =>
        have hf : forceItem i = false := by simpa [Item.refigures] using hi
        simp only [State.handOn, hf]
        exact moves_if fun _ => moves_distribute
      | channel c i =>
        simp only [State.handOn]
        split
        · exact moves_rebuildChannel c
        · split
          · exact moves_distribute
          · exact moves_if fun _ => moves_deriveLoads.trans moves_distribute
      | commitCount => exact .refl

theorem State.profileWriteCheck_inr {item : Option Item} {value : Word16} {i : Item}
    (hc : s.profileWriteCheck item value = .inr i) : s.mayWrite i value := by
  unfold State.profileWriteCheck at hc
  split at hc
  · cases hc
  · rename_i hu
    split at hc
    · cases hc
    · cases hc
    · split at hc
      · cases hc
      · split at hc
        · cases hc
        · rename_i hr
          cases hc
          have hm : s.ctl.mode = .run := by simp_all [State.unlocked]
          simp only [Bool.or_eq_true, Bool.not_eq_true', not_or, Bool.not_eq_false] at hr
          exact ⟨hr.1, hr.2, by simp [hm]⟩

/-! ## Supervision -/

theorem acts_keepalive (hm : s.ctl.mode ≠ .sleep) (answer : Byte) : Acts L s (s.keepaliveRule answer) := by
  have haccept : Moves L s s.acceptKeepalive :=
    (Move.ctl { s.ctl with token := s.ctl.token + 37 } (Mode.alike_refl _) fun _ => .inr rfl).chain.trans (moves_done _ _)
  have hctl : ∀ (t : State) (k : Control), k.mode = t.ctl.mode → k.clock = t.ctl.clock → Moves L t (t.withCtl k) :=
    fun t k hk hc => (Move.ctl k (by rw [hk]; exact Mode.alike_refl _) fun _ => .inr hc).chain
  have hrun : Acts L s (State.conclude s s.acceptKeepalive.enterRun) :=
    acts_ended (haccept.trans (moves_enterRun (by exact hm)))
  have hfirst : Acts L s (s.keepaliveFirst answer) := by
    unfold State.keepaliveFirst
    split
    · exact hrun
    · exact acts_refuse _ _
  unfold State.keepaliveRule
  split
  · exact hfirst
  · exact hfirst
  · unfold State.keepaliveRun
    split
    · exact acts_ended ((moves_refuse _ _).trans (moves_supervisionFault (by exact hm)))
    · split
      · exact acts_ended ((moves_refuse _ _).trans (moves_supervisionFault (by exact hm)))
      · exact acts_plain (haccept.trans (hctl _ _ rfl rfl)) rfl
  · unfold State.keepaliveDegraded
    split
    · split
      · exact acts_plain ((moves_refuse _ _).trans (hctl _ _ rfl rfl)) rfl
      · split
        · exact acts_plain ((moves_refuse _ _).trans (hctl _ _ rfl rfl)) rfl
        · split
          · exact hrun
          · exact acts_plain (haccept.trans (hctl _ _ rfl rfl)) rfl
    · exact acts_refuse _ _
  · exact acts_refuse _ _
  · exact acts_refuse _ _

/-! ## The expiries -/

theorem moves_expire (h : Nat) (hr : L.sound → ∃ r ∈ s.table.records, r.handle = h ∧ r.lastUnit = true)
    (hm : s.ctl.mode ≠ .sleep) (hn : L.counter s.table.nextHandle) : Moves L s (s.expire h) := by
  unfold State.expire
  split
  · unfold State.retireExpired
    dsimp only
    refine .trans (Move.retire h (fun hs => ?_) hn fun hs => absurd hs hm).chain ((moves_raiseHolds _ _).trans (Move.mon _ ?_ ?_).chain)
    · obtain ⟨r, hmem, hh, hl⟩ := hr hs
      refine ⟨r, hmem, hh, ?_⟩
      simp only [Record.lastUnit, Record.counts, Bool.and_eq_true, bne_iff_ne] at hl
      exact hl.1
    · rfl
    · exact fun hs => absurd hs (by simpa using hm)
  · exact (Move.convert h hr hn).chain

/-- The expiry of one record leaves the last units of the others. -/
theorem State.expire_keeps {h : Nat} {r : Record} (hr : r ∈ s.table.records) (hh : r.handle ≠ h)
    (hl : r.lastUnit = true) :
    ∃ x ∈ (s.expire h).table.records, x.handle = r.handle ∧ x.lastUnit = true := by
  have hheard : ∀ (b : Bool) (records : List Record), r ∈ records →
      ∃ x ∈ heardRecords b records, x.handle = r.handle ∧ x.lastUnit = true := fun b records hmem => by
    cases b
    · exact ⟨r, hmem, rfl, hl⟩
    · exact ⟨r.hold, List.mem_map_of_mem hmem, by simp, by simpa using hl⟩
  unfold State.expire
  split
  · obtain ⟨b, -, ht⟩ := s.retire_table h false
    simpa [State.retireExpired, ht] using hheard b _ (mem_othersThan.2 ⟨hr, hh⟩)
  · simpa [State.convertToPark_eq, State.changed_table] using hheard _ _ (mem_updateRecord hr hh)

@[simp] theorem State.expire_nextHandle (s : State) (h : Nat) : (s.expire h).table.nextHandle = s.table.nextHandle := by
  unfold State.expire
  split
  · simp [State.retireExpired]
  · simp [State.convertToPark_eq, State.changed_table]

theorem moves_foldl_expire (handles : List Nat) (hn : L.sound → handles.Nodup)
    (hr : L.sound → ∀ h ∈ handles, ∃ r ∈ s.table.records, r.handle = h ∧ r.lastUnit = true)
    (hm : s.ctl.mode ≠ .sleep) (hc : L.counter s.table.nextHandle) : Moves L s (handles.foldl State.expire s) := by
  induction handles generalizing s with
  | nil => exact .refl
  | cons h hs ih =>
    refine (moves_expire h (fun hso => hr hso h (by simp)) hm hc).trans
      (ih (fun hso => (hn hso).of_cons) (fun hso k hk => ?_) ?_ (by simpa using hc))
    · obtain ⟨r, hmem, hh, hl⟩ := hr hso k (by simp [hk])
      have hne : r.handle ≠ h := fun he => (List.nodup_cons.1 (hn hso)).1 (by rw [← he, hh]; exact hk)
      obtain ⟨x, hx, hxh, hxl⟩ := State.expire_keeps hmem hne hl
      exact ⟨x, hx, hxh.trans hh, hxl⟩
    · simpa using hm

/-- A last unit is left to the expiry (R22). -/
theorem Record.countDown_lastUnit {r : Record} (h : r.lastUnit = true) : r.countDown = r := by
  simp [Record.countDown, h]

theorem State.mem_lastUnits {h : Nat} : h ∈ s.lastUnits ↔ ∃ r ∈ s.table.records, r.handle = h ∧ r.lastUnit = true := by
  simp only [State.lastUnits, List.mem_map, List.mem_filter]
  exact exists_congr fun r => by tauto

theorem State.lastUnits_nodup (hn : (s.table.records.map Record.handle).Nodup) : s.lastUnits.Nodup :=
  hn.sublist (List.filter_sublist.map _)

/-- The counts after one beat, the last units left to the expiries (R22). -/
def State.beaten (s : State) : State :=
  s.withTable { s.table with beat := 0, records := s.table.records.map Record.countDown }

/-- The beat is the counts' fall, the expiries in some order, and the free values' count. -/
theorem State.countExpiries_eq (s : State) :
    s.countExpiries =
      if 1 < s.lastUnits.length then
        { (arrange s.freeCount s.lastUnits).foldl State.expire s.beaten with
          freeCount := ((arrange s.freeCount s.lastUnits).foldl State.expire s.beaten).freeCount + 1 }
      else (arrange s.freeCount s.lastUnits).foldl State.expire s.beaten := rfl

/-- A record with its last unit left has it after the beat's counts. -/
theorem State.mem_beaten {r : Record} (hr : r ∈ s.table.records) (hl : r.lastUnit = true) : r ∈ s.beaten.table.records :=
  List.mem_map.2 ⟨r, hr, Record.countDown_lastUnit hl⟩

/-- The beat (R22): every count falls, and the last units expire. -/
theorem moves_countExpiries (hn : L.sound → (s.table.records.map Record.handle).Nodup) (hm : s.ctl.mode ≠ .sleep)
    (hc : L.counter s.table.nextHandle) :
    Moves L s s.countExpiries := by
  have hp := arrange_perm s.freeCount s.lastUnits
  have hfold : Moves L s.beaten ((arrange s.freeCount s.lastUnits).foldl State.expire s.beaten) := by
    refine moves_foldl_expire _ (fun hs => hp.nodup_iff.2 (State.lastUnits_nodup (hn hs))) (fun _ h hh => ?_) hm hc
    obtain ⟨r, hr, hrh, hl⟩ := State.mem_lastUnits.1 (hp.mem_iff.1 hh)
    exact ⟨r, State.mem_beaten hr hl, hrh, hl⟩
  have hall : Moves L s ((arrange s.freeCount s.lastUnits).foldl State.expire s.beaten) := Move.count.chain.trans hfold
  rw [State.countExpiries_eq]
  split
  · exact hall.trans (Move.frees _).chain
  · exact hall

/-! ## Every command -/

/-- The commands that change what the pendant wants, beside a retry and a wake: its own, and the end of the moving timer that it
waits for. -/
def wantsBy (i : Instr) : Prop := i = .movingTimerExpiry ∨ i = .pendantPairDebounced

/-- What a command is allowed in a state. -/
def State.licence (s : State) (i : Instr) : Licence where
  dozes := ¬s.sleepSound
  wants := wantsBy i
  lowers := i = .reliefTimerExpiry ∨ ∃ owner handle cls action value, i = .amendHold owner handle cls action value
  stops := i = .pendantPairDebounced
  sleeps := False
  wakes := s.ctl.mode = .sleep
  sound := s.holdsSound
  counter n := n = s.table.nextHandle

/-- A command is a reset that the part takes: it ends in the reset sequence. -/
def State.resetTo (s : State) (i : Instr) (t : State) : Prop :=
  (i = .reset ∨ i = .powerOnReset) ∧ ∃ u : State, Moves (s.licence i) s u ∧ t = u.resetSequence

/-- A loss of power is the flag, and the image and the free values' count where a commit was in flight (R204). -/
theorem moves_losePower : Moves L s s.losePower := by
  have hoff : Moves L s { s with powered := false } := (Move.power false).chain
  have hstore : ∀ t : State, Moves L t (t.withStore
      { t.store with commit := none, image := .ofValues fun i => Config.tornItem s.freeCount i }) :=
    fun t => (Move.store { t.store with commit := none, image := .ofValues fun i => Config.tornItem s.freeCount i }
      rfl).chain
  unfold State.losePower
  dsimp only
  split
  · exact (hoff.trans (hstore _)).trans (Move.frees (s.freeCount + 1)).chain
  · exact hoff

/-- A control with the mode and the clock monitor as they were is one move. -/
theorem moves_ctl (k : Control) (hm : k.mode = s.ctl.mode) (hc : k.clock = s.ctl.clock) : Moves L s (s.withCtl k) :=
  (Move.ctl k (by rw [hm]; exact Mode.alike_refl _) fun _ => .inr hc).chain

/-- Every command but a reset is a chain of parts (Chapter 1 to 10). -/
theorem exec_acts {i : Instr} (hi : i ≠ .reset) (hp : i ≠ .powerOnReset) (h : exec i s = .next t) :
    Acts (s.licence i) s t := by
  have hw : s.ctl.mode = .sleep → (s.licence i).wakes ∧ (s.licence i).counter s.table.nextHandle :=
    fun hm => ⟨hm, rfl⟩
  cases i with
  | powerOnReset => exact absurd rfl hp
  | reset => exact absurd rfl hi
  | powerLoss =>
    cases h
    split
    · exact acts_plain moves_losePower (by simp)
    · exact acts_refl
  | idleRequest => cases h; exact acts_exchange hw fun u _ _ => acts_plain (moves_place _) rfl
  | badframe echo => cases h; exact acts_exchange hw fun u _ _ => acts_refuse _ _
  | shortExchange received => cases h; exact acts_exchange hw fun u _ _ => acts_refuse _ _
  | unknownRequest code => cases h; exact acts_exchange hw fun u _ _ => acts_refuse _ _
  | ident => cases h; exact acts_request hw fun u _ _ _ => acts_done _ _
  | status => cases h; exact acts_request hw fun u _ _ _ => acts_status
  | noticeMask enables =>
    cases h
    exact acts_request hw fun u _ _ _ => acts_plain ((Move.link _).chain.trans (moves_done _ _)) rfl
  | keepalive answer => cases h; exact acts_request hw fun u hm _ _ => acts_keepalive hm answer
  | resync =>
    cases h
    refine acts_request hw fun u _ _ _ => acts_plain
      (.trans (moves_ctl
        { u.ctl with
          token := 0
          phase := .resync 0 true
          window := some ⟨u.now, u.now + Config.ms u.period⟩ } rfl rfl) (moves_done _ _)) rfl
  | sleep =>
    cases h
    refine acts_request hw fun u _ _ _ => ?_
    split
    · exact acts_plain
        ((Move.ctl { u.ctl with sleepPending := true } (Mode.alike_refl _) fun _ => .inr rfl).chain.trans (moves_done _ _)) rfl
    · exact acts_refuse _ _
  | openHold owner cls tagFlag tag expiry => cases h; exact acts_request hw fun u _ _ _ => acts_openHold
  | amendHold owner handle cls action value =>
    cases h
    exact acts_request hw fun u _ _ _ => acts_amendHold (.inr ⟨_, _, _, _, _, rfl⟩)
  | releaseHold owner handle => 
    cases h
    refine acts_request hw fun u _ _ hu => acts_releaseHold ?_
    rcases hu with rfl | rfl <;> exact rfl
  | readHold handle =>
    cases h
    refine acts_request hw fun u _ _ _ => ?_
    repeat' split
    all_goals first | exact acts_refuse _ _ | exact acts_done _ _
  | listHolds start =>
    cases h
    refine acts_request hw fun u _ _ _ => ?_
    split
    · exact acts_refuse _ _
    · exact acts_done _ _
  | driveState force gear =>
    cases h
    refine acts_request hw fun u hm _ _ => ?_
    split
    · exact acts_ended ((moves_done _ _).trans (moves_takeDrive (by exact hm) _ _))
    · exact acts_refuse _ _
  | drumState mode weightFlag weight =>
    cases h
    refine acts_request hw fun u hm _ _ => ?_
    split
    · split
      · exact acts_refuse _ _
      · rename_i hc
        refine acts_ended ((moves_done _ _).trans (moves_drum (by exact hm) _ _ ?_))
        split
        · simp
        · rename_i hflag
          simpa using Nat.not_lt.1 fun h => hc ⟨hflag, h⟩
    · exact acts_refuse _ _
  | readMeasure page =>
    cases h
    refine acts_request hw fun u _ _ _ => ?_
    split
    · exact acts_done _ _
    · exact acts_refuse _ _
  | readChannel channel page =>
    cases h
    refine acts_request hw fun u _ _ _ => ?_
    split
    · exact acts_done _ _
    · exact acts_refuse _ _
  | channelRestore channel =>
    cases h
    refine acts_request hw fun u _ _ _ => ?_
    repeat' split
    all_goals first | exact acts_refuse _ _ | exact acts_ended ((moves_done _ _).trans (moves_restore _))
  | profileRead item channel selector =>
    cases h
    refine acts_request hw fun u _ _ _ => ?_
    repeat' split
    all_goals first | exact acts_refuse _ _ | exact acts_done _ _
  | profileWrite item channel value =>
    cases h
    refine acts_request hw fun u _ _ _ => ?_
    split
    · exact acts_refuse _ _
    · rename_i hc
      exact acts_ended ((moves_done _ _).trans (moves_writeItem (by exact State.profileWriteCheck_inr hc)))
  | profileCommit =>
    cases h
    refine acts_request hw fun u _ _ _ => ?_
    have hstore : ∀ t : State, t.store = u.store → Moves (s.licence .profileCommit) t (t.withStore u.store.beginCommit) :=
      fun t ht => (Move.store _ (by rw [ht]; rfl)).chain
    repeat' split
    all_goals first
      | exact acts_refuse _ _
      | exact acts_plain ((moves_place _).trans (hstore _ rfl)) rfl
  | commitEnd =>
    cases h
    refine acts_event fun _ => ?_
    split
    · rename_i k _
      exact moves_if fun _ => (Move.store (s.store.endCommit k.contents) rfl).chain.trans (moves_raise _)
    · exact .refl
  | sampleArrival readings =>
    cases h
    refine .trans (acts_plain (Move.meas { s.meas with inputs := readings } ⟨id, .inl rfl, .inl rfl, rfl⟩).chain rfl) ?_
    exact acts_event fun _ => moves_if fun hd => moves_sample hd _
  | reliefTimerExpiry =>
    cases h
    have hl : (s.licence .reliefTimerExpiry).lowers := .inl rfl
    exact acts_event fun _ => moves_if fun hd => (Move.relief hl fun hm => State.dozes_of_relief hm hd).chain
  | pwmPeriodStart channel => cases h; exact acts_event fun _ => moves_if fun _ => moves_pwmStart _
  | confirmationWindowExpiry channel =>
    cases h
    refine acts_event fun _ => moves_if fun _ => ?_
    split
    · exact moves_faultChannel _ _
    · exact moves_withChan _ _
  | driftTimerExpiry channel =>
    cases h
    refine acts_event fun _ => moves_if fun _ => ?_
    split
    · exact moves_faultChannel _ _
    · exact moves_withChan _ _
  | springTimerExpiry channel =>
    cases h
    exact acts_event fun _ => moves_if fun _ => (moves_withChan _ _).trans Move.report.chain
  | springCurrentChange channel present =>
    cases h
    split
    · exact acts_refl
    · split
      · exact acts_ended (moves_currentChange _ _)
      · exact acts_plain (moves_withChan _ _) rfl
  | currentMismatchExpiry channel => cases h; exact acts_event fun _ => moves_if fun _ => moves_faultChannel _ _
  | rawLineChange reading => cases h; exact acts_lineChange reading hw
  | liftRaised line =>
    cases h
    split
    · exact acts_liftChange _ _
    · exact acts_event fun _ => .refl
  | liftLowered line =>
    cases h
    split
    · exact acts_liftChange _ _
    · exact acts_event fun _ => .refl
  | wheelPulse input => cases h; exact acts_pulseEvent _ hw
  | movingTimerExpiry => cases h; exact acts_event fun _ => moves_if fun _ => moves_stopMoving (.inl rfl)
  | standstillTimerExpiry => cases h; exact acts_event fun _ => moves_if fun _ => moves_beginStandstill
  | watchAfterExpiry =>
    cases h
    exact acts_event fun _ => moves_if fun _ => (Move.mon s.mon.dropReference rfl fun _ => .inr ⟨rfl, rfl⟩).chain
  | driverLineDebounced line =>
    cases h
    refine acts_event fun _ => moves_if fun hd => moves_driverLineSettles line fun hm => ?_
    refine State.dozes_of_line (l := s.lines.driver line) hm ?_ (Timer.isRunning_of_due hd)
    cases line <;> simp [Lines.driver]
  | seatTimerExpiry =>
    cases h
    exact acts_event fun _ => moves_if fun hd => moves_driverLeaves fun hm => State.dozes_of_seatTimer hm hd
  | autoparkTimerExpiry =>
    cases h
    exact acts_event fun _ => moves_if fun _ =>
      (Move.mon { s.mon with autopark := .ranOut } rfl fun _ => .inr ⟨rfl, rfl⟩).chain.trans moves_autoparkEvaluate
  | pendantPairDebounced =>
    cases h
    exact acts_event fun _ => moves_if fun hd =>
      moves_pairSettles (.inr rfl) (fun hm => ⟨State.dozes_of_pair hm hd, rfl⟩) rfl
  | holdExpiry handle =>
    cases h
    refine acts_event fun _ => moves_if fun hd => ?_
    obtain ⟨⟨ha, -⟩, hr⟩ : (s.awake = true ∧ Config.ms 100 ≤ s.table.beat) ∧ (s.record handle).any Record.lastUnit = true := by
      simpa [State.expiryDue, State.beatDue] using hd
    obtain ⟨r, hf, hl⟩ : ∃ r, s.record handle = some r ∧ r.lastUnit = true := by
      cases hf : s.record handle with
      | none => simp [hf] at hr
      | some r => exact ⟨r, rfl, by simpa [hf] using hr⟩
    refine moves_expire _ (fun _ => ⟨r, List.mem_of_find?_eq_some hf, ?_, hl⟩) (by simpa [State.awake] using ha) rfl
    simpa using List.find?_some hf
  | expiryTrainEnd =>
    cases h
    exact acts_event fun _ => moves_if fun hd =>
      (Move.mon { s.mon with train := .stopped } rfl fun hm => .inl (State.dozes_of_train hm hd)).chain
  | releaseTimerExpiry =>
    cases h
    refine acts_event fun _ => moves_if fun hd => (Move.fails _ ?_).chain
    simp only [State.releaseDue, Bool.and_eq_true] at hd
    exact hd.1.1
  | driveReportStale =>
    cases h
    exact acts_event fun _ => moves_if fun _ =>
      (Move.meas { s.meas with driveAge := .stopped } ⟨id, .inl rfl, .inl rfl, rfl⟩).chain.trans moves_gateEvaluate
  | keepaliveWindowOpens =>
    cases h
    refine acts_event fun _ => moves_if fun _ => (Move.ctl _ ?_ ?_).chain
    · exact Mode.alike_refl _
    · exact fun _ => .inr rfl
  | keepaliveWindowCloses =>
    cases h
    refine acts_event fun _ => moves_if fun _ => ?_
    split
    · rename_i hm
      exact moves_supervisionFault (by simp [hm])
    · exact (Move.ctl { s.ctl with phase := .awaitResync, window := none } (Mode.alike_refl _) fun _ => .inr rfl).chain
  | criticalDeadlineExpiry source =>
    cases h
    refine acts_event fun _ => moves_if fun _ => (moves_stopDeadline source).trans (moves_if fun hm => ?_)
    exact moves_supervisionFault fun hs => by rw [hm] at hs; cases hs
  | startTimerExpiry =>
    cases h
    refine acts_event fun _ => moves_if fun hd =>
      (Move.ctl { s.ctl with mode := .retry, timer := .start } ?_ ?_).chain.trans (moves_raise _)
    · have hm : s.ctl.mode = .start := by simp_all [State.modeTimerDue]
      simp [Mode.alike, hm]
    · exact fun _ => .inr rfl
  | retryTimerExpiry =>
    cases h
    refine acts_event fun _ => moves_if fun hd => moves_enterSafe fun hm => ?_
    simp [State.modeTimerDue, hm] at hd
  | degradedTimerExpiry =>
    cases h
    refine acts_event fun _ => moves_if fun hd => moves_enterSafe fun hm => ?_
    simp [State.modeTimerDue, hm] at hd
  | clkrefIntervalEnd =>
    cases h
    refine acts_event fun _ => ?_
    split
    · rename_i n hc
      have hz : s.ctl.mode = .sleep → (s.licence .clkrefIntervalEnd).dozes := fun hm => State.dozes_of_clock hm hc
      split
      · exact (Move.ctl { s.ctl with clock := .measuring 0 } (Mode.alike_refl _) fun hm => .inl (hz hm)).chain
      · exact moves_clockFailure hz
    · exact .refl
  | clockMonitorTimeout =>
    cases h
    refine acts_event fun _ => moves_if fun hd => moves_clockFailure fun hm => ?_
    unfold State.clockTimeoutDue at hd
    split at hd
    · rename_i hc
      exact State.dozes_of_clock hm hc
    · cases hd
  | sleepEntry =>
    cases h
    split
    · split
      · rename_i hc
        exact (Act.slept hc).chain
      · exact acts_plain (Move.ctl { s.ctl with sleepPending := false } (Mode.alike_refl _) fun _ => .inr rfl).chain rfl
    · exact acts_refl
  | wake cause =>
    cases h
    cases cause with
    | chipSelect =>
      dsimp only
      split
      · rename_i hc
        exact acts_wakeUp hc.2 (hw hc.2)
      · exact acts_refl
    | line reading => exact acts_lineChange reading hw
    | pulse input => exact acts_pulseEvent _ hw
  | expiryCountdown =>
    cases h
    refine acts_event fun _ => moves_if fun hd => moves_countExpiries (fun hs => hs.1.2.1) ?_ rfl
    have ha : s.awake = true := by simp_all [State.beatDue]
    simpa [State.awake] using ha

/-! ## Resets -/

/-- A command is a chain of parts, or a reset that the part takes. -/
theorem exec_cases {i : Instr} (h : exec i s = .next t) : Acts (s.licence i) s t ∨ s.resetTo i t := by
  by_cases hi : i = .reset
  · subst hi
    have hw : s.ctl.mode = .sleep → (s.licence .reset).wakes ∧ (s.licence .reset).counter s.table.nextHandle :=
      fun hm => ⟨hm, rfl⟩
    have hctl : Moves (s.licence .reset) s (s.withCtl { s.ctl with sleepPending := false }) := moves_ctl _ rfl rfl
    have htake : ∀ u : State, Moves (s.licence .reset) s u → u.table = s.table →
        t = (if Request.reset.admitted u.ctl.mode then
          (if u.store.commit.isSome then u.refuse 0x13 .busy else u.softReset) else u.refuse Request.reset.code .mode) →
        Acts (s.licence .reset) s t ∨ s.resetTo .reset t := fun u hu hr ht => by
      subst ht
      split
      · split
        · exact .inl (acts_plain (hu.trans (moves_refuse _ _)) (by simp [hr]))
        · exact .inr ⟨.inl rfl, u, hu, rfl⟩
      · exact .inl (acts_plain (hu.trans (moves_refuse _ _)) (by simp [hr]))
    have ht : t = s.request .reset fun t => if t.store.commit.isSome then t.refuse 0x13 .busy else t.softReset := by
      cases h; rfl
    rw [State.request, State.exchange] at ht
    split at ht
    · exact .inl (ht ▸ acts_refl)
    · split at ht
      · rename_i hm
        exact .inl (ht ▸ acts_wakeUp hm (hw hm))
      · split at ht
        · split at ht
          · rename_i hc
            exact .inl (ht ▸ (Act.slept hc).chain)
          · exact htake _ hctl rfl ht
        · exact htake s .refl rfl ht
  · by_cases hp : i = .powerOnReset
    · subst hp
      cases h
      refine .inr ⟨.inr rfl, { (if s.store.commit.isSome then s.losePower else s) with powered := true }, ?_, rfl⟩
      refine (moves_if fun _ => moves_losePower).trans (Move.power true).chain
    · exact .inl (exec_acts hi hp h)

/-- The part in a reset with its profile loaded, its lines read, and its mode and link at their reset values (R166). -/
def State.reloaded (s : State) : State :=
  (((s.withStore s.store.load).withLines s.lines.settle).withCtl .reset).withLink .reset

/-- The reset then with its channels rebuilt (R83, R101). -/
def State.rebuilt (s : State) : State :=
  s.withChans (Six.ofFn fun c => Channel.rebuilt (s.items c) (s.liftLevel c) (s.chans.get c).current c)

/-- The reset then with its measurements at their reset values, and the loads and the weight over them (R34). -/
def State.remeasured (s : State) : State := (s.withMeas (s.meas.reset s.vehicle.minSupply.toNat)).deriveWeight

/-- The reset then with nothing distributed, the gate and the monitor at their reset values and the table empty. -/
def State.emptied (s : State) : State :=
  (((s.withDist .empty).withGate .idle).withMon (.reset s.lines.seat.level)).withTable .reset

/-- The part in a reset right before the START opening (R166). -/
def State.blank (s : State) : State := s.reloaded.rebuilt.remeasured.emptied

theorem State.resetSequence_eq (s : State) :
    s.resetSequence = (s.blank.startOpening.pendantAsRead).refreshWarn := rfl

@[simp] theorem State.blank_powered (s : State) : s.blank.powered = s.powered := by
  simp [State.blank, State.reloaded, State.rebuilt, State.remeasured, State.emptied]

@[simp] theorem State.blank_link (s : State) : s.blank.link = .reset := by
  simp [State.blank, State.reloaded, State.rebuilt, State.remeasured, State.emptied]

@[simp] theorem State.blank_table (s : State) : s.blank.table = .reset := by
  simp [State.blank, State.emptied]

@[simp] theorem State.blank_force (s : State) : s.blank.force = s.force := by
  simp [State.blank, State.reloaded, State.rebuilt, State.remeasured, State.emptied]

@[simp] theorem State.blank_dist (s : State) : s.blank.dist = .empty := by
  simp [State.blank, State.emptied]

@[simp] theorem State.blank_gate (s : State) : s.blank.gate = .idle := by
  simp [State.blank, State.emptied]

@[simp] theorem State.blank_mon (s : State) : s.blank.mon = .reset s.lines.settle.seat.level := by
  simp [State.blank, State.reloaded, State.rebuilt, State.remeasured, State.emptied]

@[simp] theorem State.blank_lines (s : State) : s.blank.lines = s.lines.settle := by
  simp [State.blank, State.reloaded, State.rebuilt, State.remeasured, State.emptied]

@[simp] theorem State.blank_ctl (s : State) : s.blank.ctl = .reset := by
  simp [State.blank, State.reloaded, State.rebuilt, State.remeasured, State.emptied]

@[simp] theorem State.blank_store (s : State) : s.blank.store = s.store.load := by
  simp [State.blank, State.reloaded, State.rebuilt, State.remeasured, State.emptied]

/-- The measurements in a reset: the reset values, the loads and the weight derived over them (R34, R38, R39, R40). -/
theorem State.blank_meas (s : State) :
    ∃ loads weight, s.blank.meas =
      { s.meas.reset s.blank.vehicle.minSupply.toNat with loads := loads, weight := weight } ∧
      (weight ≤ 65000 ∨ weight = s.blank.vehicle.grossWeight.toNat) := by
  have hv : s.blank.vehicle = s.reloaded.rebuilt.vehicle := by
    simp [State.blank, State.vehicle, State.remeasured, State.emptied]
  let t := s.reloaded.rebuilt.withMeas (s.reloaded.rebuilt.meas.reset s.reloaded.rebuilt.vehicle.minSupply.toNat)
  refine ⟨t.deriveLoads.meas.loads, t.deriveLoads.weightOf t.deriveLoads.meas.loads, ?_, ?_⟩
  · rw [hv]; rfl
  · rw [hv]
    exact State.weightOf_range t.deriveLoads t.deriveLoads.meas.loads

/-- The part after the START opening of a reset (R6). -/
theorem blank_mayOpen (s : State) : s.blank.mayOpen (monitorRecord .start) :=
  .inl ⟨.start, rfl, by simp [State.hasCause, HoldTable.reset]⟩

/-- A reset is its START opening and moves after it. -/
theorem moves_resetSequence (hw : L.wants) (hn : L.counter s.blank.startOpening.table.nextHandle) :
    Moves L s.blank.startOpening s.resetSequence := by
  have hm : s.blank.startOpening.ctl.mode ≠ .sleep := by simp [Control.reset]
  rw [State.resetSequence_eq]
  exact (moves_pendantAsRead hw (fun h => absurd h hm) hn).trans moves_refreshWarn

/-! ## Steps -/

/-- The licence of the laws that any command keeps: what the pendant wants and A may change. -/
def Licence.law (dozes sound : Prop) : Licence := ⟨dozes, True, True, True, True, True, sound, fun _ => True⟩

theorem State.licence_within {dozes sound : Prop} (i : Instr) (hd : ¬s.sleepSound → dozes) (hs : sound → s.holdsSound) :
    (s.licence i).within (.law dozes sound) :=
  ⟨hd, fun _ => trivial, fun _ => trivial, fun _ => trivial, fun _ => trivial, fun _ => trivial, hs, fun _ _ => trivial⟩

/-- A law that every move keeps, and that a reset's START opening restores, is kept by every command. -/
theorem exec_keeps {P : State → Prop} {i : Instr} {dozes sound : Prop} (hd : ¬s.sleepSound → dozes)
    (hso : sound → s.holdsSound) (hmove : ∀ {s t}, P s → Move (.law dozes sound) s t → P t)
    (hreset : ∀ u : State, P u → P u.blank.startOpening) (hs : P s) (h : exec i s = .next t) : P t := by
  have hw := s.licence_within i hd hso
  rcases exec_cases h with ha | ⟨-, u, hu, rfl⟩
  · exact (ha.mono hw).keep trivial trivial hmove hs
  · exact (moves_resetSequence (L := .law dozes sound) trivial trivial).keep hmove (hreset u ((hu.mono hw).keep hmove hs))

/-- The queue and the free values' count filled in. -/
def State.queued (s : State) (q : List Instr) (n : Nat) : State := { s with pending := q, freeCount := n }

/-- A step without a command queues events, is one tick, or does nothing (log entry 1). -/
theorem State.idle_cases (s : State) : (∃ q n, s.idle = s.queued q n) ∨ s.idle = s.advance := by
  unfold State.idle
  split
  · exact .inl ⟨s.pending, s.freeCount, rfl⟩
  · split
    · exact .inr rfl
    · exact .inl ⟨_, _, rfl⟩

/-- A step is the queue's filling, one tick, or the command at the queue's front. -/
theorem step_cases (h : step s = .next t) :
    (∃ q n, t = s.queued q n) ∨ t = s.advance ∨ ∃ i q, exec i (s.withPending q) = .next t := by
  unfold step at h
  split at h
  · cases h
    exact s.idle_cases.imp_right .inl
  · exact .inr (.inr ⟨_, _, h⟩)

end Sys2Proof.Machine

/-! # O33: SLEEP, the table and the gate keep their laws -/

namespace Sys2Proof.Machine

variable {L : Licence} {s t u : State}

/-! ## SLEEP -/

/-- A state that runs in SLEEP no more than another: awake or asleep as it, sampling as it, and at rest where it is. -/
def State.dozesAs (t s : State) : Prop :=
  (t.ctl.mode = .sleep ↔ s.ctl.mode = .sleep) ∧ t.meas.sampleTimer.isRunning = s.meas.sampleTimer.isRunning ∧
    (s.ctl.mode = .sleep →
      t.lines.restsAs s.lines ∧ (s.table.relief = .stopped → t.table.relief = .stopped) ∧ t.mon.dozesAs s.mon ∧
        t.ctl.clock = s.ctl.clock)

theorem Lines.restsAs_refl (l : Lines) : l.restsAs l := ⟨id, id, id, id, id⟩

theorem State.sleepSound_of_dozesAs (hs : s.sleepSound) (h : t.dozesAs s) : t.sleepSound := by
  obtain ⟨hm, hr, hz⟩ := h
  obtain ⟨hrun, hrest⟩ := hs
  refine ⟨by rw [hr, hrun, ne_eq, ne_eq, not_congr hm], fun ht => ?_⟩
  obtain ⟨⟨l1, l2, l3, l4, lp⟩, hrel, ⟨hseat, htrain⟩, hclock⟩ := hz (hm.1 ht)
  obtain ⟨h1, h2, h3, h4, hp, hre, hse, htr, hcl⟩ := hrest (hm.1 ht)
  exact ⟨l1 h1, l2 h2, l3 h3, l4 h4, lp hp, hrel hre, hseat.trans hse, htrain.trans htr, hclock.trans hcl⟩

/-- The blocks that SLEEP's law reads, unchanged. -/
theorem State.dozesAs_of_eq (hc : t.ctl = s.ctl) (hm : t.meas = s.meas) (hl : t.lines = s.lines)
    (hr : s.table.relief = .stopped → t.table.relief = .stopped) (ha : t.mon.aside = s.mon.aside) : t.dozesAs s := by
  have hseat : t.mon.seatTimer = s.mon.seatTimer := congrArg Monitor.Aside.seatTimer ha
  have htrain : t.mon.train = s.mon.train := congrArg Monitor.Aside.train ha
  exact ⟨by rw [hc], by rw [hm], fun _ => ⟨hl ▸ Lines.restsAs_refl _, hr, ⟨hseat, htrain⟩, by rw [hc]⟩⟩

/-- A part that is awake and samples keeps SLEEP's law. -/
theorem State.sleepSound_of_awake (hm : t.ctl.mode ≠ .sleep) (hr : t.meas.sampleTimer.isRunning = true) : t.sleepSound :=
  ⟨⟨fun _ => hm, fun _ => hr⟩, fun h => absurd h hm⟩

/-- Awake before and after, sampling on. -/
theorem State.sleepSound_awake (h : s.sleepSound) (hs : s.ctl.mode ≠ .sleep) (ht : t.ctl.mode ≠ .sleep)
    (hr : t.meas.sampleTimer = s.meas.sampleTimer) : t.sleepSound :=
  State.sleepSound_of_awake ht (by rw [hr]; exact h.1.2 hs)

@[simp] theorem Lines.sleep_rests (l : Lines) :
    l.sleep.seat.atRest ∧ l.sleep.door.atRest ∧ l.sleep.lift1.atRest ∧ l.sleep.lift2.atRest ∧
      l.sleep.pairDebounce = .stopped := ⟨rfl, rfl, rfl, rfl, rfl⟩

theorem State.enterSleep_sleepSound (s : State) : s.enterSleep.sleepSound := by
  unfold State.enterSleep
  refine ⟨by simp [Timer.isRunning], fun _ => ?_⟩
  obtain ⟨h1, h2, h3, h4, h5⟩ := s.lines.sleep_rests
  exact ⟨h1, h2, h3, h4, h5, rfl, rfl, rfl, rfl⟩

theorem State.waking_sleepSound (s : State) : s.waking.sleepSound := by
  obtain ⟨loads, t, -, hm⟩ := s.waking_meas
  exact State.sleepSound_of_awake (by simp [State.waking_ctl]) (by simp [hm, Measure.wake, Timer.isRunning])

/-- Each move keeps SLEEP's law. -/
theorem Move.keeps_sleepSound (hd : ¬L.dozes) (hs : s.sleepSound) (h : Move L s t) : t.sleepSound := by
  have same {t : State} (hc : t.ctl = s.ctl) (hm : t.meas = s.meas) (hl : t.lines = s.lines)
      (hr : s.table.relief = .stopped → t.table.relief = .stopped) (ha : t.mon.aside = s.mon.aside) : t.sleepSound :=
    State.sleepSound_of_dozesAs hs (State.dozesAs_of_eq hc hm hl hr ha)
  have awake : (s.ctl.mode = .sleep → L.dozes) → s.ctl.mode ≠ .sleep := fun hz hm => hd (hz hm)
  cases h with
  | mon m hw hz =>
    exact State.sleepSound_of_dozesAs hs
      ⟨.rfl, rfl, fun hm => ⟨Lines.restsAs_refl _, id, (hz hm).resolve_left hd, rfl⟩⟩
  | lines l hp hz =>
    exact State.sleepSound_of_dozesAs hs ⟨.rfl, rfl, fun hm => ⟨(hz hm).resolve_left hd, id, ⟨rfl, rfl⟩, rfl⟩⟩
  | ctl k hm hz =>
    exact State.sleepSound_of_dozesAs hs
      ⟨hm.2.2, rfl, fun hm => ⟨Lines.restsAs_refl _, id, ⟨rfl, rfl⟩, (hz hm).resolve_left hd⟩⟩
  | cancel k x hr hk hz =>
    exact State.sleepSound_awake hs (awake hz) (by simpa using hk) (by simp)
  | toRun k x hk hz => exact State.sleepSound_awake hs (awake hz) (by simp [hk]) rfl
  | meas m hm =>
    exact State.sleepSound_of_dozesAs hs ⟨.rfl, hm.2.2.2, fun _ => ⟨Lines.restsAs_refl _, id, ⟨rfl, rfl⟩, rfl⟩⟩
  | refigure item value hw =>
    exact State.sleepSound_awake hs hw.2.2 (by simpa [State.written] using hw.2.2) (by simp [State.written])
  | offer hz => exact State.sleepSound_awake hs hz (by simpa using hz) (by simp)
  | relief hl hz => exact State.sleepSound_awake hs (awake hz) (by simpa using awake hz) (by simp)
  | sleep hc hl => exact s.enterSleep_sleepSound
  | wake hm hw => exact s.waking_sleepSound
  | amend r cls act hl hm =>
    rw [State.amend_eq]
    split
    · exact same (by simp) (by simp) (by simp) (by simp [State.changed_table]) (by simp)
    · exact same rfl rfl rfl id rfl
  | retire h hr hn hz => exact same (by simp) (by simp) (by simp) (by simp) (by simp)
  | driveOff ha => exact same (by simp) (by simp) (by simp) (by simp [State.driveOff]) (by simp [State.driveOff])
  | fails reason ha =>
    exact same (by simp) (by simp) (by simp) (by simp [State.releaseFails]) (by simp [State.releaseFails])
  | convert h hr hn =>
    exact same (by simp) (by simp) (by simp) (by simp [State.convertToPark_eq, State.changed_table])
      (by simp [State.convertToPark_eq])
  | opens make hm => exact same (by simp) (by simp) (by simp) (by simp) (by simp)
  | want w h => exact State.sleepSound_of_dozesAs hs ⟨.rfl, rfl, fun _ => ⟨Lines.restsAs_refl _, id, ⟨rfl, rfl⟩, rfl⟩⟩
  | run loads fresh => exact same (by simp) (by simp) (by simp) (by simp [State.distributeWith_table]) (by simp)
  | report => exact same (by simp) (by simp) (by simp) (by simp [State.reportConfirmed_table]) (by simp)
  | _ => exact same rfl rfl rfl id rfl

theorem State.startOpening_sleepSound (s : State) : s.blank.startOpening.sleepSound := by
  obtain ⟨loads, weight, hm, -⟩ := s.blank_meas
  exact State.sleepSound_of_awake (by simp [Control.reset])
    (by simp [hm, Measure.reset, Measure.wake, Timer.start, Timer.isRunning])

theorem exec_keeps_sleepSound {i : Instr} (hs : s.sleepSound) (h : exec i s = .next t) : t.sleepSound :=
  exec_keeps (P := State.sleepSound) (dozes := False) (sound := False) (fun hn => hn hs) False.elim
    (fun hs hm => hm.keeps_sleepSound id hs) (fun u _ => u.startOpening_sleepSound) hs h

/-- A timer that stands is not moved by a tick. -/
theorem Timer.tick_of_stopped {x : Timer} (h : x = .stopped) : x.tick = .stopped := by rw [h]; rfl

theorem State.advance_sleepSound (hs : s.sleepSound) : s.advance.sleepSound := by
  obtain ⟨hrun, hrest⟩ := hs
  refine ⟨by simpa [State.advance] using hrun, fun hm => ?_⟩
  obtain ⟨h1, h2, h3, h4, hp, hre, hse, htr, hcl⟩ := hrest hm
  exact ⟨Timer.tick_of_stopped h1, Timer.tick_of_stopped h2, Timer.tick_of_stopped h3, Timer.tick_of_stopped h4,
    Timer.tick_of_stopped hp, Timer.tick_of_stopped hre, Timer.tick_of_stopped hse, Timer.tick_of_stopped htr,
    by simp [State.advance, hcl, Clock.tick]⟩

/-- The law of SLEEP holds after every step (R32, R135, R143, R163). -/
theorem step_keeps_sleepSound (hs : s.sleepSound) (h : step s = .next t) : t.sleepSound := by
  rcases step_cases h with ⟨q, n, rfl⟩ | rfl | ⟨i, q, h⟩
  · exact hs
  · exact State.advance_sleepSound hs
  · exact exec_keeps_sleepSound (s := s.withPending q) hs h

end Sys2Proof.Machine

/-! # The laws of the table -/

namespace Sys2Proof.Machine

variable {L : Licence} {s t u : State}

/-! ## The next handle (R5) -/

/-- The handle that the counter shows after a number of steps, 255 followed by 1 (R5). -/
def handleAt (start k : Nat) : Nat := (start - 1 + k) % 255 + 1

theorem handleAt_zero {start : Nat} (h : 1 ≤ start ∧ start ≤ 255) : handleAt start 0 = start := by
  unfold handleAt; omega

theorem handleAt_range (start k : Nat) : 1 ≤ handleAt start k ∧ handleAt start k ≤ 255 := by
  unfold handleAt; omega

theorem nextAfter_range {h : Nat} (hr : 1 ≤ h ∧ h ≤ 255) : 1 ≤ nextAfter h ∧ nextAfter h ≤ 255 := by
  unfold nextAfter; split <;> omega

theorem handleAt_next {start : Nat} (h : 1 ≤ start ∧ start ≤ 255) (k : Nat) :
    handleAt (nextAfter start) k = handleAt start (k + 1) := by
  unfold handleAt nextAfter; split <;> omega

/-- One turn of the counter shows each handle once. -/
theorem handleAt_inj {start i j : Nat} (hi : i < 255) (hj : j < 255) (h : handleAt start i = handleAt start j) : i = j := by
  unfold handleAt at h; omega

/-- The search for a handle stops at the first free one, or at the end of its tries. -/
theorem freeHandle_spec (records : List Record) (tries : Nat) {start : Nat} (hr : 1 ≤ start ∧ start ≤ 255) :
    ∃ k ≤ tries, freeHandle records tries start = handleAt start k ∧
      (∀ j < k, handleUsed records (handleAt start j) = true) ∧
      (k < tries → handleUsed records (handleAt start k) = false) := by
  induction tries generalizing start with
  | zero => exact ⟨0, le_rfl, (handleAt_zero hr).symm, by simp, by simp⟩
  | succ n ih =>
    unfold freeHandle
    split
    · rename_i hu
      obtain ⟨k, hk, he, hused, hfree⟩ := ih (nextAfter_range hr)
      refine ⟨k + 1, by omega, by rw [he, handleAt_next hr], fun j hj => ?_, fun hlt => ?_⟩
      · cases j with
        | zero => rw [handleAt_zero hr]; exact hu
        | succ j => rw [← handleAt_next hr]; exact hused j (by omega)
      · rw [← handleAt_next hr]; exact hfree (by omega)
    · rename_i hu
      exact ⟨0, by omega, (handleAt_zero hr).symm, by simp, fun _ => by rw [handleAt_zero hr]; simpa using hu⟩

/-- A turn of used handles needs as many records. -/
theorem used_le_length {records : List Record} {start k : Nat} (hk : k ≤ 255)
    (h : ∀ j < k, handleUsed records (handleAt start j) = true) : k ≤ records.length := by
  have hsub : (Finset.range k).image (handleAt start) ⊆ (records.map Record.handle).toFinset := by
    intro x hx
    obtain ⟨j, hj, rfl⟩ := Finset.mem_image.1 hx
    have := h j (Finset.mem_range.1 hj)
    simpa [handleUsed] using this
  have hcard : ((Finset.range k).image (handleAt start)).card = k := by
    rw [Finset.card_image_of_injOn, Finset.card_range]
    intro i hi j hj hij
    simp only [Finset.coe_range, Set.mem_Iio] at hi hj
    exact handleAt_inj (by omega) (by omega) hij
  calc k = _ := hcard.symm
    _ ≤ (records.map Record.handle).toFinset.card := Finset.card_le_card hsub
    _ ≤ (records.map Record.handle).length := List.toFinset_card_le _
    _ = records.length := List.length_map _

/-- The new handle is the first from the counter on that no record has, while there are fewer records than handles (R5). -/
theorem HoldTable.newHandle_spec {t : HoldTable} (hr : 1 ≤ t.nextHandle ∧ t.nextHandle ≤ 255)
    (hl : t.records.length < 255) :
    ∃ k ≤ t.records.length, t.newHandle = handleAt t.nextHandle k ∧
      (∀ j < k, handleUsed t.records (handleAt t.nextHandle j) = true) ∧
      handleUsed t.records (handleAt t.nextHandle k) = false := by
  obtain ⟨k, hk, he, hused, hfree⟩ := freeHandle_spec t.records 255 hr
  have hle : k ≤ t.records.length := used_le_length hk hused
  exact ⟨k, hle, he, hused, hfree (by omega)⟩

theorem HoldTable.newHandle_range {t : HoldTable} (hr : 1 ≤ t.nextHandle ∧ t.nextHandle ≤ 255)
    (hl : t.records.length < 255) : 1 ≤ t.newHandle ∧ t.newHandle ≤ 255 := by
  obtain ⟨k, -, he, -⟩ := HoldTable.newHandle_spec hr hl
  rw [he]
  exact handleAt_range _ _

theorem HoldTable.newHandle_fresh {t : HoldTable} (hr : 1 ≤ t.nextHandle ∧ t.nextHandle ≤ 255)
    (hl : t.records.length < 255) : ∀ r ∈ t.records, r.handle ≠ t.newHandle := by
  obtain ⟨k, -, he, -, hfree⟩ := HoldTable.newHandle_spec hr hl
  simpa [he, handleUsed] using hfree

/-! ## The limits (R4) -/

/-- What the limits read of a record. -/
def Record.share (r : Record) : Owner × Option Cause := (r.owner, r.cause)

/-- The limits can be told from the owners and the causes. -/
theorem withinLimits_of_shares {xs ys : List Record} (h : ys.map Record.share = xs.map Record.share)
    (hx : withinLimits xs) : withinLimits ys := by
  have hcount : ∀ p : Owner × Option Cause → Bool,
      (ys.filter fun r => p r.share).length = (xs.filter fun r => p r.share).length := fun p => by
    have hp := congrArg (List.countP p) h
    rw [List.countP_map, List.countP_map] at hp
    rw [← List.countP_eq_length_filter, ← List.countP_eq_length_filter]
    exact hp
  have hlen : ys.length = xs.length := by simpa using congrArg List.length h
  obtain ⟨hl, hn, hc, hd, hs, hp, ho⟩ := hx
  refine ⟨hlen ▸ hl, (hcount fun q => q.1 != .monitor).trans_le hn, (hcount fun q => q.1 == .cab).trans_le hc,
    (hcount fun q => q.1 == .drum).trans_le hd, (hcount fun q => q.1 == .service).trans_le hs,
    (hcount fun q => q.1 == .pendant).trans_le hp, fun c hc' => ?_⟩
  exact (hcount fun q => q.2 == some c).trans_le (ho c hc')

theorem withinLimits_sublist {xs ys : List Record} (h : ys.Sublist xs) (hx : withinLimits xs) : withinLimits ys := by
  have hcount : ∀ p : Record → Bool, (ys.filter p).length ≤ (xs.filter p).length := fun p => (h.filter p).length_le
  obtain ⟨hl, hn, hc, hd, hs, hp, ho⟩ := hx
  exact ⟨h.length_le.trans hl, (hcount _).trans hn, (hcount _).trans hc, (hcount _).trans hd, (hcount _).trans hs,
    (hcount _).trans hp, fun c hc' => (hcount _).trans (ho c hc')⟩

/-- The records of one cause. -/
def causedBy (records : List Record) (c : Cause) : Nat := (records.filter fun r => r.cause == some c).length

/-- A sound record is one of an asker's, or one of a cause. -/
theorem length_le_shares {records : List Record} (h : ∀ r ∈ records, r.sound) :
    records.length ≤ nonMonitorCount records + causedBy records .start + causedBy records .autopark +
      causedBy records .rollaway + causedBy records .failsafe := by
  induction records with
  | nil => simp
  | cons r rs ih =>
    have ih := ih fun x hx => h x (by simp [hx])
    obtain ⟨-, ho, -⟩ := h r (by simp)
    simp only [nonMonitorCount, causedBy, List.filter_cons, List.length_cons] at ih ⊢
    by_cases hm : r.owner = .monitor
    · obtain ⟨c, hc⟩ := Option.isSome_iff_exists.1 (ho.1 hm)
      cases c <;> simp [hm, hc] <;> omega
    · simp [hm]
      grind

/-- What an opening may add to a table (R13, R25, R26): a record of a cause without one, or of an asker with a place left. -/
def State.placeFor (s : State) (r : Record) : Prop :=
  (r.owner = .monitor → ∃ c, r.cause = some c ∧ s.hasCause c = false) ∧
    (r.owner ≠ .monitor → r.cause = none ∧ nonMonitorCount s.table.records < 12 ∧
      (r.owner = .pendant → s.pendantFree = true) ∧
      (r.owner ≠ .pendant → ownedBy s.table.records r.owner < r.owner.limit))

/-- The record that an allowed opening makes is sound under any handle, and has its place. -/
theorem State.mayOpen_place {make : Nat → Record} (hm : s.mayOpen make) (h : Nat) :
    (make h).handle = h ∧ (make h).state = .engaging ∧ s.placeFor (make h) := by
  rcases hm with ⟨c, rfl, hc⟩ | ⟨rfl, hf, hn⟩ | ⟨o, k, tag, e, rfl, hmon, hpen, hz, hr⟩
  · exact ⟨rfl, rfl, fun _ => ⟨c, rfl, hc⟩, fun h => absurd rfl h⟩
  · exact ⟨rfl, rfl, nofun, fun _ => ⟨rfl, hn, fun _ => hf, fun h => absurd rfl h⟩⟩
  · refine ⟨rfl, rfl, fun h => absurd h hmon, fun _ => ⟨rfl, ?_, fun h => absurd h hpen, fun _ => ?_⟩⟩ <;>
      simp only [State.openHoldRefusal, openedRecord] at hr ⊢ <;> grind

theorem State.mayOpen_sound {make : Nat → Record} (hm : s.mayOpen make) {h : Nat} (hh : 1 ≤ h ∧ h ≤ 255) :
    (make h).sound := by
  rcases hm with ⟨c, rfl, -⟩ | ⟨rfl, -, -⟩ | ⟨o, k, tag, e, rfl, hmon, hpen, hz, hr⟩
  · exact ⟨hh, by simp [monitorRecord], fun _ => rfl, by simp [monitorRecord], fun _ => rfl, fun _ => rfl,
      by simp [monitorRecord]⟩
  · exact ⟨hh, by simp [pendantRecord], by simp [pendantRecord], fun _ => rfl, fun _ => rfl, fun _ => rfl,
      by simp [pendantRecord]⟩
  · have he : ¬((k = .park ∧ e.isSome) ∨ 600 < e.getD 0) := by
      intro he
      simp only [State.openHoldRefusal, he, if_true] at hr
      split at hr <;> simp at hr
    refine ⟨hh, by simp [openedRecord, hmon], by simp [openedRecord, hmon], by simp [openedRecord, hpen],
      by simp [openedRecord, hmon, hpen], ?_, by simpa [openedRecord] using hz, ?_⟩
    · simp only [openedRecord]
      rintro (hk | hp)
      · cases e with
        | none => rfl
        | some n => exact absurd (.inl ⟨hk, rfl⟩) he
      · exact absurd hp hpen
    · cases e with
      | none => simp [openedRecord]
      | some n =>
        have : ¬600 < n := fun h => he (.inr h)
        simp only [openedRecord, Option.getD_some]
        omega


/-- A pendant that is free has no record that stays through an opening (R26, R118). -/
theorem State.pendantFree_notReleasing (hf : s.pendantFree = true) (hl : ownedBy s.table.records .pendant ≤ 1) :
    ownedBy (notReleasing s.table.records) .pendant = 0 := by
  unfold ownedBy at hl ⊢
  rw [List.length_eq_zero_iff, List.filter_eq_nil_iff]
  intro r hr hp
  obtain ⟨hmem, hrel⟩ := mem_notReleasing.1 hr
  have hfilter : s.table.records.filter (fun r => r.owner == .pendant) = [r] := by
    have hin : r ∈ s.table.records.filter fun r => r.owner == .pendant := List.mem_filter.2 ⟨hmem, hp⟩
    obtain ⟨x, hx⟩ := List.length_eq_one_iff.1 (le_antisymm hl (List.length_pos_of_mem hin))
    rw [hx] at hin ⊢
    simp_all
  have hlive : s.pendantLive = some r := by
    rw [State.pendantLive, ← List.head?_filter, hfilter]
    rfl
  simp only [State.pendantFree, hlive, Option.all_some, Record.isReleasing, beq_iff_eq] at hf
  exact hrel hf

theorem ownedBy_append (xs : List Record) (r : Record) (o : Owner) :
    ownedBy (xs ++ [r]) o = ownedBy xs o + if r.owner = o then 1 else 0 := by
  unfold ownedBy
  rw [List.filter_append, List.length_append]
  by_cases h : r.owner = o <;> simp [h]

theorem nonMonitorCount_append (xs : List Record) (r : Record) :
    nonMonitorCount (xs ++ [r]) = nonMonitorCount xs + if r.owner = .monitor then 0 else 1 := by
  unfold nonMonitorCount
  rw [List.filter_append, List.length_append]
  by_cases h : r.owner = .monitor <;> simp [h]

theorem causedBy_append (xs : List Record) (r : Record) (c : Cause) :
    causedBy (xs ++ [r]) c = causedBy xs c + if r.cause = some c then 1 else 0 := by
  unfold causedBy
  rw [List.filter_append, List.length_append]
  by_cases h : r.cause = some c <;> simp [h]

theorem notReleasing_sublist (records : List Record) : (notReleasing records).Sublist records := List.filter_sublist

/-- The limits hold with a record added that has its place (R4, R13). -/
theorem withinLimits_open {r : Record} (hx : withinLimits s.table.records) (hs : ∀ x ∈ s.table.records, x.sound)
    (hr : r.sound) (hp : s.placeFor r) : withinLimits (notReleasing s.table.records ++ [r]) := by
  have hsub := notReleasing_sublist s.table.records
  have hkept := withinLimits_sublist hsub hx
  obtain ⟨-, hn, hc, hd, hse, hpe, ho⟩ := hkept
  have hown : ∀ o, ownedBy (notReleasing s.table.records) o ≤ ownedBy s.table.records o := fun o =>
    (hsub.filter _).length_le
  have hnon : nonMonitorCount (notReleasing s.table.records) ≤ nonMonitorCount s.table.records :=
    (hsub.filter _).length_le
  have hcaused : ∀ c, causedBy (notReleasing s.table.records) c ≤ 1 := fun c => ho c (by cases c <;> simp)
  have hnone : ∀ c, s.hasCause c = false → causedBy (notReleasing s.table.records) c = 0 := fun c hc => by
    have : causedBy s.table.records c = 0 := by simpa [causedBy, State.hasCause] using hc
    have hle : causedBy (notReleasing s.table.records) c ≤ causedBy s.table.records c := (hsub.filter _).length_le
    omega
  obtain ⟨hmon, hask⟩ := hp
  have hcauses : ∀ c, causedBy (notReleasing s.table.records ++ [r]) c ≤ 1 := by
    intro c
    rw [causedBy_append]
    split
    · rename_i hrc
      by_cases hm : r.owner = .monitor
      · obtain ⟨c', hc', hfree⟩ := hmon hm
        obtain rfl : c' = c := by simpa [hc'] using hrc
        rw [hnone _ hfree]
      · simp [(hask hm).1] at hrc
    · exact hcaused c
  have hcount : nonMonitorCount (notReleasing s.table.records ++ [r]) ≤ 12 := by
    rw [nonMonitorCount_append]
    split
    · exact hn
    · rename_i hm
      have := (hask hm).2.1
      omega
  have howner : ∀ o, o ≠ .monitor → ownedBy (notReleasing s.table.records) o ≤ o.limit →
      ownedBy (notReleasing s.table.records ++ [r]) o ≤ o.limit := by
    intro o hom hle
    rw [ownedBy_append]
    split
    · rename_i hro
      subst hro
      obtain ⟨-, -, hpend, hother⟩ := hask hom
      by_cases hpo : r.owner = .pendant
      · rw [hpo, State.pendantFree_notReleasing (hpend hpo) hx.2.2.2.2.2.1]
        simp [Owner.limit]
      · have := hother hpo
        have := hown r.owner
        omega
    · exact hle
  have hsound : ∀ x ∈ notReleasing s.table.records ++ [r], x.sound := by
    intro x hx
    rcases List.mem_append.1 hx with h | h
    · exact hs x (hsub.mem h)
    · rw [List.mem_singleton.1 h]; exact hr
  have hlen := length_le_shares hsound
  have h1 := hcauses .start
  have h2 := hcauses .autopark
  have h3 := hcauses .rollaway
  have h4 := hcauses .failsafe
  exact ⟨by omega, hcount, howner .cab (by simp) hc, howner .drum (by simp) hd, howner .service (by simp) hse,
    howner .pendant (by simp) hpe, fun c _ => hcauses c⟩

/-! ## The table -/

/-- The table stays sound where its records are changed one by one into sound ones of the same handles and shares. -/
theorem HoldTable.sound_map {x y : HoldTable} {f : Record → Record} (hx : x.sound) (hy : y.records = x.records.map f)
    (hn : y.nextHandle = x.nextHandle) (hh : ∀ r, (f r).handle = r.handle) (hf : ∀ r, (f r).share = r.share)
    (hr : ∀ r ∈ x.records, r.sound → (f r).sound) : y.sound := by
  obtain ⟨hs, hd, hc, hl⟩ := hx
  refine ⟨?_, ?_, hn ▸ hc, ?_⟩
  · intro r h
    rw [hy] at h
    obtain ⟨z, hz, rfl⟩ := List.mem_map.1 h
    exact hr z hz (hs z hz)
  · rw [hy, List.map_map, show Record.handle ∘ f = Record.handle from funext hh]
    exact hd
  · refine withinLimits_of_shares ?_ hl
    rw [hy, List.map_map, show Record.share ∘ f = Record.share from funext hf]

/-- The table stays sound where records leave it. -/
theorem HoldTable.sound_sublist {x y : HoldTable} (hx : x.sound) (hy : y.records.Sublist x.records)
    (hn : y.nextHandle = x.nextHandle) : y.sound := by
  obtain ⟨hs, hd, hc, hl⟩ := hx
  exact ⟨fun r h => hs r (hy.mem h), hd.sublist (hy.map _), hn ▸ hc, withinLimits_sublist hy hl⟩

theorem Record.hold_sound {r : Record} (h : r.sound) : r.hold.sound := by simpa [Record.sound] using h

theorem Record.hold_share (r : Record) : r.hold.share = r.share := by simp [Record.share]

/-- The report of confirmation leaves a table sound. -/
theorem HoldTable.sound_heard {x y : HoldTable} {b : Bool} (hx : x.sound) (hy : y.records = heardRecords b x.records)
    (hn : y.nextHandle = x.nextHandle) : y.sound := by
  cases b with
  | false => exact HoldTable.sound_sublist hx (by rw [hy]; exact List.Sublist.refl _) hn
  | true => exact HoldTable.sound_map hx hy hn (by simp) Record.hold_share fun _ _ => Record.hold_sound

/-- The new handle of a sound table is in its range, and none of its records has it. -/
theorem HoldTable.sound_newHandle {x : HoldTable} (hx : x.sound) :
    (1 ≤ x.newHandle ∧ x.newHandle ≤ 255) ∧ ∀ r ∈ x.records, r.handle ≠ x.newHandle := by
  obtain ⟨-, -, hc, hl, -⟩ := hx
  exact ⟨HoldTable.newHandle_range hc (by omega), HoldTable.newHandle_fresh hc (by omega)⟩

/-- A table with an allowed opening is sound (R4, R5). -/
theorem HoldTable.sound_open {make : Nat → Record} (hx : s.table.sound) (hm : s.mayOpen make) {y : HoldTable}
    (hy : y.records = notReleasing s.table.records ++ [make s.table.newHandle])
    (hn : y.nextHandle = nextAfter s.table.newHandle) : y.sound := by
  obtain ⟨hr, hfresh⟩ := HoldTable.sound_newHandle hx
  obtain ⟨hh, -, hp⟩ := State.mayOpen_place hm s.table.newHandle
  have hsound := State.mayOpen_sound hm hr
  obtain ⟨hs, hd, hc, hl⟩ := hx
  have hsub := notReleasing_sublist s.table.records
  refine ⟨?_, ?_, hn ▸ nextAfter_range hr, hy ▸ withinLimits_open hl hs hsound hp⟩
  · intro r h
    rw [hy] at h
    rcases List.mem_append.1 h with h | h
    · exact hs r (hsub.mem h)
    · rw [List.mem_singleton.1 h]; exact hsound
  · rw [hy, List.map_append, List.map_singleton, hh]
    refine List.Nodup.append (hd.sublist (hsub.map _)) (by simp) ?_
    simp only [List.disjoint_singleton, List.mem_map, not_exists, not_and]
    exact fun r h => hfresh r (hsub.mem h)


end Sys2Proof.Machine

/-! # O33: the table and the gate keep their laws -/

namespace Sys2Proof.Machine

variable {L : Licence} {s t u : State} {z : Prop}

/-! ## The laws, with what they say of SLEEP or without -/

/-- The gate's law, where `z` is whether it says that no gate is armed in SLEEP. -/
def State.gateSoundIf (z : Prop) (s : State) : Prop :=
  if s.gate.armed then
    (∀ r ∈ s.table.records, r.state = .releasing ∧ r.handle = s.gate.handle) ∧
      s.table.records.length = 1 ∧
      s.gate.remaining.isSome ∧
      (s.gate.modeCause = true ↔ s.ctl.mode ≠ .run) ∧
      s.ctl.mode ≠ .safe ∧ (z → s.ctl.mode ≠ .sleep)
  else s.gate = .idle ∧ ∀ r ∈ s.table.records, r.state ≠ .releasing

/-- The laws of the holds, where `z` is whether they say that no gate is armed in SLEEP. -/
def State.holdsSoundIf (z : Prop) (s : State) : Prop := s.table.sound ∧ s.gateSoundIf z

theorem State.holdsSoundIf_true : s.holdsSoundIf True ↔ s.holdsSound := by
  unfold State.holdsSoundIf State.gateSoundIf State.holdsSound State.gateSound
  simp

/-- The laws with what they say of SLEEP are the laws without it, and more. -/
theorem State.holdsSound_if (h : s.holdsSound) : s.holdsSoundIf z := by
  obtain ⟨ht, hg⟩ := h
  refine ⟨ht, ?_⟩
  unfold State.gateSound at hg
  unfold State.gateSoundIf
  split at hg
  · rename_i ha
    obtain ⟨hrec, hlen, hrem, hcause, hns, hnz⟩ := hg
    rw [if_pos ha]
    exact ⟨hrec, hlen, hrem, hcause, hns, fun _ => hnz⟩
  · rename_i ha
    rwa [if_neg ha]

/-! ## The gate -/

theorem State.gateSoundIf_armed (h : s.gateSoundIf z) (ha : s.gate.armed = true) :
    (∀ r ∈ s.table.records, r.state = .releasing ∧ r.handle = s.gate.handle) ∧ s.table.records.length = 1 ∧
      s.gate.remaining.isSome ∧ (s.gate.modeCause = true ↔ s.ctl.mode ≠ .run) ∧ s.ctl.mode ≠ .safe ∧
      (z → s.ctl.mode ≠ .sleep) := by
  rwa [State.gateSoundIf, if_pos ha] at h

theorem State.gateSoundIf_idle (h : s.gateSoundIf z) (ha : s.gate.armed = false) :
    s.gate = .idle ∧ ∀ r ∈ s.table.records, r.state ≠ .releasing := by
  rwa [State.gateSoundIf, if_neg (by simp [ha])] at h

/-- A gate over a record that is not RELEASING is idle. -/
theorem State.gateSoundIf_over (h : s.gateSoundIf z) {r : Record} (hr : r ∈ s.table.records) (hs : r.state ≠ .releasing) :
    s.gate = .idle ∧ ∀ r ∈ s.table.records, r.state ≠ .releasing := by
  cases ha : s.gate.armed with
  | false => exact State.gateSoundIf_idle h ha
  | true => exact absurd ((State.gateSoundIf_armed h ha).1 r hr).1 hs

/-- An idle gate over no record that is RELEASING is sound. -/
theorem State.gateSoundIf_of_idle (hg : s.gate = .idle) (hr : ∀ r ∈ s.table.records, r.state ≠ .releasing) :
    s.gateSoundIf z := by
  rw [State.gateSoundIf, if_neg (by simp [hg, Gate.idle])]
  exact ⟨hg, hr⟩

/-- The gate stays sound where it stands, in a mode alike, and its records keep their handles and what is RELEASING. -/
theorem State.gateSoundIf_map {f : Record → Record} (hs : s.gateSoundIf z) (hg : t.gate = s.gate)
    (hm : t.ctl.mode.alike s.ctl.mode) (hr : t.table.records = s.table.records.map f)
    (hh : ∀ r, (f r).handle = r.handle) (hf : ∀ r, (f r).state = .releasing ↔ r.state = .releasing) : t.gateSoundIf z := by
  obtain ⟨hrun, hsafe, hsleep⟩ := hm
  cases ha : s.gate.armed with
  | true =>
    obtain ⟨hrec, hlen, hrem, hcause, hns, hnz⟩ := State.gateSoundIf_armed hs ha
    rw [State.gateSoundIf, if_pos (by rw [hg, ha]), hg, hr]
    refine ⟨fun r h => ?_, by simpa using hlen, hrem, by rw [hcause, ne_eq, ne_eq, hrun], by rwa [ne_eq, hsafe], by rwa [ne_eq, hsleep]⟩
    obtain ⟨x, hx, rfl⟩ := List.mem_map.1 h
    exact ⟨(hf x).2 (hrec x hx).1, (hh x).trans (hrec x hx).2⟩
  | false =>
    obtain ⟨hidle, hrec⟩ := State.gateSoundIf_idle hs ha
    refine State.gateSoundIf_of_idle (hg.trans hidle) fun r h => ?_
    rw [hr] at h
    obtain ⟨x, hx, rfl⟩ := List.mem_map.1 h
    exact fun h => hrec x hx ((hf x).1 h)

/-! ## Table and gate together -/

/-- The laws of the holds stay where the records are changed one by one under a gate that stands. -/
theorem State.holdsSoundIf_map {f : Record → Record} (hs : s.holdsSoundIf z) (hg : t.gate = s.gate)
    (hm : t.ctl.mode.alike s.ctl.mode) (hr : t.table.records = s.table.records.map f)
    (hn : t.table.nextHandle = s.table.nextHandle)
    (hh : ∀ r, (f r).handle = r.handle) (hsh : ∀ r, (f r).share = r.share)
    (hf : ∀ r, (f r).state = .releasing ↔ r.state = .releasing) (hrs : ∀ r ∈ s.table.records, r.sound → (f r).sound) : t.holdsSoundIf z :=
  ⟨HoldTable.sound_map hs.1 hr hn hh hsh hrs, State.gateSoundIf_map hs.2 hg hm hr hh hf⟩

/-- The laws of the holds stay where the report alone is heard, or nothing changes. -/
theorem State.holdsSoundIf_heard {b : Bool} (hs : s.holdsSoundIf z) (hg : t.gate = s.gate)
    (hm : t.ctl.mode.alike s.ctl.mode) (hr : t.table.records = heardRecords b s.table.records)
    (hn : t.table.nextHandle = s.table.nextHandle) : t.holdsSoundIf z := by
  cases b with
  | false => exact State.holdsSoundIf_map (f := id) hs hg hm (by simpa using hr) hn (by simp) (by simp) (by simp) (by simp)
  | true =>
    exact State.holdsSoundIf_map hs hg hm hr hn (by simp) Record.hold_share Record.hold_releasing
      fun _ _ => Record.hold_sound

/-- Nothing that heard records show is RELEASING, where no record was. -/
theorem heardRecords_releasing {b : Bool} {records : List Record} (h : ∀ r ∈ records, r.state ≠ .releasing) :
    ∀ r ∈ heardRecords b records, r.state ≠ .releasing := by
  intro r hr
  obtain ⟨x, hx, rfl | rfl⟩ := mem_heardRecords hr
  · exact h r hx
  · simpa using h x hx

/-- An opening leaves the gate idle and nothing RELEASING (R118). -/
theorem State.openRecord_gateSoundIf {make : Nat → Record} (hs : s.gateSoundIf z) (hm : s.mayOpen make) :
    (s.openRecord make).gate = .idle ∧ ∀ r ∈ (s.openRecord make).table.records, r.state ≠ .releasing := by
  constructor
  · rw [State.openRecord_gate]
    split
    · rename_i hnone
      cases ha : s.gate.armed with
      | false => exact (State.gateSoundIf_idle hs ha).1
      | true =>
        obtain ⟨hrec, hlen, -⟩ := State.gateSoundIf_armed hs ha
        obtain ⟨r, hr⟩ := List.length_eq_one_iff.1 hlen
        have hrel := hrec r (by simp [hr])
        simp [hr, Record.isReleasing, hrel] at hnone
    · rfl
  · rw [State.openRecord_records]
    refine heardRecords_releasing fun r hr => ?_
    rcases List.mem_append.1 hr with h | h
    · exact (mem_notReleasing.1 h).2
    · rw [List.mem_singleton.1 h, (State.mayOpen_place hm _).2.1]
      simp

theorem State.openRecord_holdsSoundIf {make : Nat → Record} (hs : s.holdsSoundIf z) (hm : s.mayOpen make) :
    (s.openRecord make).holdsSoundIf z := by
  obtain ⟨hg, hr⟩ := State.openRecord_gateSoundIf hs.2 hm
  refine ⟨?_, State.gateSoundIf_of_idle hg hr⟩
  let x : HoldTable :=
    { s.table with
      records := notReleasing s.table.records ++ [make s.table.newHandle]
      nextHandle := nextAfter s.table.newHandle }
  have hx : x.sound := HoldTable.sound_open hs.1 hm rfl rfl
  exact HoldTable.sound_heard hx (s.openRecord_records make) (s.openRecord_nextHandle make)

theorem State.retire_records (s : State) (h : Nat) (driveOff : Bool) :
    ∃ b, (s.retire h driveOff).table.records = heardRecords b (othersThan s.table.records h) := by
  obtain ⟨b, -, ht⟩ := s.retire_table h driveOff
  exact ⟨b, by rw [ht]⟩

theorem State.retire_table_sound (hs : s.table.sound) (h : Nat) (driveOff : Bool) : (s.retire h driveOff).table.sound := by
  obtain ⟨b, hb⟩ := s.retire_records h driveOff
  have hx : ({ s.table with records := othersThan s.table.records h } : HoldTable).sound :=
    HoldTable.sound_sublist hs List.filter_sublist rfl
  exact HoldTable.sound_heard hx hb (by simp)

/-- A retirement of a record that is not RELEASING keeps the laws (R12). -/
theorem State.retire_holdsSoundIf {r : Record} (hs : s.holdsSoundIf z) (hr : r ∈ s.table.records) (hrel : r.state ≠ .releasing)
    (driveOff : Bool) : (s.retire r.handle driveOff).holdsSoundIf z := by
  obtain ⟨hg, hnone⟩ := State.gateSoundIf_over hs.2 hr hrel
  obtain ⟨b, hb⟩ := s.retire_records r.handle driveOff
  refine ⟨s.retire_table_sound hs.1 _ _, State.gateSoundIf_of_idle (by simpa using hg) ?_⟩
  rw [hb]
  exact heardRecords_releasing fun x hx => hnone x (mem_othersThan.1 hx).1

/-- A drive-off leaves an empty table under an idle gate (R116). -/
theorem State.driveOff_records (hs : s.gateSoundIf z) (ha : s.gate.armed = true) : s.driveOff.table.records = [] := by
  obtain ⟨hrec, -⟩ := State.gateSoundIf_armed hs ha
  obtain ⟨b, hb⟩ := s.retire_records s.gate.handle true
  have hnil : othersThan s.table.records s.gate.handle = [] := by
    simpa [othersThan] using fun r hr => (hrec r hr).2
  simpa [State.driveOff, hnil] using hb

theorem Record.backToHeld_sound {r : Record} (h : r.sound) : r.backToHeld.sound := by
  unfold Record.backToHeld
  split <;> exact h

theorem Record.backToHeld_handle (r : Record) : r.backToHeld.handle = r.handle := by
  unfold Record.backToHeld
  split <;> rfl

theorem Record.backToHeld_share (r : Record) : r.backToHeld.share = r.share := by
  unfold Record.backToHeld
  split <;> rfl

theorem Record.backToHeld_releasing (r : Record) : r.backToHeld.state ≠ .releasing := by
  unfold Record.backToHeld
  split <;> simp_all

theorem State.releaseFails_table (s : State) (reason : Reason) :
    (s.releaseFails reason).table = { s.table with records := s.table.records.map Record.backToHeld } := by
  simp [State.releaseFails]

/-- A release that fails leaves an idle gate and nothing RELEASING (R11). -/
theorem State.releaseFails_holdsSoundIf (hs : s.table.sound) (reason : Reason) : (s.releaseFails reason).holdsSoundIf z := by
  constructor
  · exact HoldTable.sound_map (f := Record.backToHeld) hs (by rw [State.releaseFails_table]) (by rw [State.releaseFails_table])
      Record.backToHeld_handle Record.backToHeld_share fun _ _ => Record.backToHeld_sound
  · refine State.gateSoundIf_of_idle (by simp [State.releaseFails]) fun r hr => ?_
    rw [State.releaseFails_table] at hr
    obtain ⟨x, -, rfl⟩ := List.mem_map.1 hr
    exact x.backToHeld_releasing

theorem State.gateCancel_holdsSoundIf (hs : s.table.sound) (hg : s.gate.armed = false → s.gateSoundIf z) : s.gateCancel.holdsSoundIf z := by
  unfold State.gateCancel
  split
  · exact State.releaseFails_holdsSoundIf hs _
  · rename_i ha
    exact ⟨hs, hg (by simpa using ha)⟩

/-! ## One record changed -/

/-- Two live records of a sound table with one handle are the same. -/
theorem HoldTable.sound_unique {x : HoldTable} (hx : x.sound) {r r' : Record} (hr : r ∈ x.records) (hr' : r' ∈ x.records)
    (h : r.handle = r'.handle) : r = r' := List.inj_on_of_nodup_map hx.2.1 hr hr' h

/-- A sound table with one record changed into a sound one of the same handle and share. -/
theorem HoldTable.sound_update {x y : HoldTable} {r : Record} {f : Record → Record} (hx : x.sound) (hr : r ∈ x.records)
    (hy : y.records = updateRecord x.records r.handle f) (hn : y.nextHandle = x.nextHandle)
    (hh : ∀ r, (f r).handle = r.handle) (hsh : ∀ r, (f r).share = r.share) (hf : (f r).sound) : y.sound := by
  refine HoldTable.sound_map hx hy hn (fun z => ?_) (fun z => ?_) fun z hz hzs => ?_
  · split
    · exact hh z
    · rfl
  · split
    · exact hsh z
    · rfl
  · split
    · rename_i he
      rw [HoldTable.sound_unique hx hz hr he]
      exact hf
    · exact hzs

/-- One record of an idle gate's changed into one that is not RELEASING, and the report heard. -/
theorem State.holdsSoundIf_update {r : Record} {f : Record → Record} {b : Bool} (hs : s.holdsSoundIf z)
    (hr : r ∈ s.table.records) (hrel : r.state ≠ .releasing) (hg : t.gate = s.gate)
    (hrec : t.table.records = heardRecords b (updateRecord s.table.records r.handle f))
    (hn : t.table.nextHandle = s.table.nextHandle)
    (hh : ∀ r, (f r).handle = r.handle) (hsh : ∀ r, (f r).share = r.share) (hfs : (f r).state ≠ .releasing)
    (hf : (f r).sound) : t.holdsSoundIf z := by
  obtain ⟨hidle, hnone⟩ := State.gateSoundIf_over hs.2 hr hrel
  let x : HoldTable := { s.table with records := updateRecord s.table.records r.handle f }
  have hx : x.sound := HoldTable.sound_update hs.1 hr rfl rfl hh hsh hf
  refine ⟨HoldTable.sound_heard hx hrec hn, State.gateSoundIf_of_idle (hg.trans hidle) ?_⟩
  rw [hrec]
  refine heardRecords_releasing fun z hz => ?_
  obtain ⟨y, hy, rfl⟩ := List.mem_map.1 hz
  split
  · rename_i he
    rw [HoldTable.sound_unique hs.1 hy hr he]
    exact hfs
  · exact hnone y hy

theorem Record.amended_sound {r : Record} {cls : HoldClass} {act : ExpiryAction} (hm : s.mayAmend r cls act) (hs : r.sound)
    (changed : Bool) : (r.amended cls act changed).sound := by
  obtain ⟨-, hmon, hpen, -, hbad, hpark⟩ := hm
  obtain ⟨hh, hc, -, -, -, -, h0, h600⟩ := hs
  refine ⟨hh, hc, fun h => absurd h hmon, fun h => absurd h hpen, fun h => ?_, fun h => ?_, ?_⟩
  · exact absurd h (by simp [Record.amended, hmon, hpen])
  · exact hpark (h.resolve_right hpen)
  · cases act with
    | keep => exact ⟨h0, h600⟩
    | clear => simp [Record.amended, ExpiryAction.apply]
    | set v =>
      simp only [ExpiryAction.badValue, Bool.or_eq_false_iff, decide_eq_false_iff_not] at hbad
      simp only [Record.amended, ExpiryAction.apply, Option.getD_some, ne_eq, Option.some.injEq]
      omega

theorem Record.parked_sound {r : Record} (hs : r.sound) (he : r.expiry ≠ none) : r.parked.sound := by
  obtain ⟨hh, hc, -, hfirm, htag, hexp, -⟩ := hs
  refine ⟨hh, hc, fun _ => rfl, fun h => absurd (hexp (.inr h)) he, htag, fun _ => rfl, by simp [Record.parked]⟩

theorem Record.countDown_keeps_sound {r : Record} (hs : r.sound) : r.countDown.sound := by
  unfold Record.countDown
  split
  · rename_i hc
    obtain ⟨hh, ho, hm, hp, htag, hexp, h0, h600⟩ := hs
    refine ⟨hh, ho, hm, hp, htag, fun h => by simp [hexp h], ?_⟩
    cases he : r.expiry with
    | none => simp
    | some n =>
      have h1 : 1 < n := by
        simp only [Record.lastUnit, he, Option.any_some, Bool.and_eq_true, Bool.not_eq_true', Bool.and_eq_false_iff,
          decide_eq_false_iff_not] at hc
        grind
      simp only [he, Option.getD_some] at h600
      simp only [Option.map_some, ne_eq, Option.some.injEq, Option.getD_some]
      omega
  · exact hs

theorem Record.countDown_share (r : Record) : r.countDown.share = r.share := by
  unfold Record.countDown
  split <;> rfl

/-- A release that arms the gate arms it over its one record (R107). -/
theorem State.armed_holdsSoundIf {r : Record} (hs : s.holdsSoundIf z) (hr : r ∈ s.table.records) (hst : r.state ≠ .releasing)
    (ho : ∀ x ∈ s.table.records, x.handle ≠ r.handle → x.state = .releasing) (hm : s.ctl.mode ≠ .safe)
    (hz : z → s.ctl.mode ≠ .sleep) : (s.armed r.handle).holdsSoundIf z := by
  obtain ⟨-, hnone⟩ := State.gateSoundIf_over hs.2 hr hst
  have hall : ∀ x ∈ s.table.records, x = r := fun x hx =>
    HoldTable.sound_unique hs.1 hx hr (by_contra fun hne => hnone x hx (ho x hx hne))
  have hone : s.table.records = [r] := by
    have hnd := hs.1.2.1.of_map
    refine List.perm_singleton.1 ((List.perm_ext_iff_of_nodup hnd (List.nodup_singleton r)).2 fun x => ?_)
    exact ⟨fun hx => List.mem_singleton.2 (hall x hx), fun hx => List.mem_singleton.1 hx ▸ hr⟩
  refine ⟨HoldTable.sound_update hs.1 hr rfl rfl (f := fun x => { x with state := .releasing }) (fun _ => rfl)
    (fun _ => rfl) (hs.1.1 r hr), ?_⟩
  rw [State.gateSoundIf, if_pos (show (s.armed r.handle).gate.armed = true from rfl)]
  simp only [State.armed, updateRecord, hone, State.withGate_gate, State.withGate_table, State.withGate_ctl,
    State.withTable_table, State.withTable_ctl]
  simpa [hm] using hz

/-- A wake keeps the gate's law: the mode cause stays, as SLEEP and START are each outside RUN (R113, R164). -/
theorem State.waking_gateSoundIf (hs : s.gateSoundIf z) (hm : s.ctl.mode = .sleep) : s.waking.gateSoundIf z := by
  obtain ⟨b, hb⟩ := s.waking_table
  cases ha : s.gate.armed with
  | false =>
    obtain ⟨hg, hn⟩ := State.gateSoundIf_idle hs ha
    refine State.gateSoundIf_of_idle (by simpa using hg) ?_
    rw [hb]
    exact heardRecords_releasing hn
  | true =>
    obtain ⟨hrec, hlen, hrem, hcause, -, -⟩ := State.gateSoundIf_armed hs ha
    rw [State.gateSoundIf, if_pos (by simpa using ha), hb]
    refine ⟨fun r hr => ?_, by simpa using hlen, by simpa using hrem, ?_, by simp [State.waking_ctl], by simp [State.waking_ctl]⟩
    · obtain ⟨x, hx, he⟩ := mem_heardRecords hr
      have := hrec x hx
      rcases he with rfl | rfl <;> simpa using this
    · simp only [State.waking_gate, State.waking_ctl, hcause, hm]
      simp

/-! ## The moves -/

/-- A step of a command keeps the laws of the holds. -/

theorem Mode.alike_of_eq {a b : Mode} (h : a = b) : a.alike b := h ▸ Mode.alike_refl _

theorem Move.keeps_holdsSoundIf (hd : z → ¬L.dozes) (hso : L.sound) (hs : s.holdsSoundIf z) (h : Move L s t) : t.holdsSoundIf z := by
  have same {t : State} (hg : t.gate = s.gate) (hm : t.ctl.mode.alike s.ctl.mode) (ht : t.table = s.table) :
      t.holdsSoundIf z := State.holdsSoundIf_heard (b := false) hs hg hm (by simp [ht]) (by rw [ht])
  have heard {t : State} {b : Bool} (hg : t.gate = s.gate) (hm : t.ctl = s.ctl)
      (hr : t.table.records = heardRecords b s.table.records) (hn : t.table.nextHandle = s.table.nextHandle) :
      t.holdsSoundIf z := State.holdsSoundIf_heard hs hg (Mode.alike_of_eq (by rw [hm])) hr hn
  cases h with
  | ctl k hm hz => exact same rfl hm rfl
  | cancel k x hr hk hz =>
    refine State.gateCancel_holdsSoundIf hs.1 fun ha => ?_
    obtain ⟨hg, hn⟩ := State.gateSoundIf_idle hs.2 ha
    exact State.gateSoundIf_of_idle hg hn
  | toRun k x hk hz =>
    cases ha : s.gate.armed with
    | false =>
      obtain ⟨hg, hn⟩ := State.gateSoundIf_idle hs.2 ha
      exact ⟨hs.1, State.gateSoundIf_of_idle (by simp [hg]) hn⟩
    | true =>
      obtain ⟨hrec, hlen, hrem, -⟩ := State.gateSoundIf_armed hs.2 ha
      refine ⟨hs.1, ?_⟩
      rw [State.gateSoundIf, if_pos (by simp [ha])]
      simp only [ha, if_true]
      exact ⟨hrec, hlen, hrem, by simp [hk], by simp [hk], by simp [hk]⟩
  | refigure item value hw =>
    obtain ⟨b, hb⟩ := (s.written item value).runAndOffer_table
    exact heard (b := b) (by simp [State.written]) (by simp [State.written]) (by rw [hb]; rfl) (by rw [hb]; rfl)
  | offer hz =>
    obtain ⟨b, hb⟩ := s.runAndOffer_table
    exact heard (b := b) (by simp) (by simp) (by rw [hb]) (by rw [hb])
  | relief hl hz =>
    obtain ⟨b, hb⟩ := (s.withTable { s.table with relief := .start }).applyForce_table s.force.fReq
    exact heard (b := b) (by simp) (by simp) (by rw [hb]; rfl) (by rw [hb]; rfl)
  | sleep hc hl =>
    have ha : s.gate.armed = false := by simp_all [State.sleepConditions]
    obtain ⟨hg, hn⟩ := State.gateSoundIf_idle hs.2 ha
    refine ⟨HoldTable.sound_sublist hs.1 (List.Sublist.refl _) rfl, State.gateSoundIf_of_idle (by simpa using hg) hn⟩
  | wake hm hw =>
    obtain ⟨b, hb⟩ := s.waking_table
    exact ⟨HoldTable.sound_heard (b := b) hs.1 (by rw [hb]) (by rw [hb]), State.waking_gateSoundIf hs.2 hm⟩
  | arm r hr hst ho hm hz hn => exact State.armed_holdsSoundIf hs hr hst ho hm fun hzz hsl => hd hzz (hz hsl)
  | supply b ha =>
    refine ⟨hs.1, ?_⟩
    have := State.gateSoundIf_armed hs.2 ha
    rw [State.gateSoundIf, if_pos (by simpa using ha)]
    exact this
  | count =>
    exact State.holdsSoundIf_map (f := Record.countDown) hs rfl (Mode.alike_refl _) rfl rfl Record.countDown_handle
      Record.countDown_share (by simp) fun _ _ => Record.countDown_keeps_sound
  | mark b =>
    refine State.holdsSoundIf_map (f := fun r => if r.isRollaway then { r with collected := b } else r) hs rfl
      (Mode.alike_refl _) rfl rfl (fun r => ?_) (fun r => ?_) (fun r => ?_) fun r _ h => ?_ <;> split
    all_goals first | rfl | exact h
  | amend r cls act hl hm =>
    obtain ⟨hr, hmon, hpen, hrel, hbad, hpark⟩ := hm
    have hsound := Record.amended_sound ⟨hr, hmon, hpen, hrel, hbad, hpark⟩ (hs.1.1 r hr)
    rw [State.amend_eq]
    split
    · exact State.holdsSoundIf_update (f := Record.amended cls act true) (b := (s.changed r.handle (Record.amended cls act true)).distConfirmed) hs hr hrel
        (by simp) (by rw [State.changed_table]) (by rw [State.changed_table]) (fun _ => rfl) (fun _ => rfl)
        (by simp [Record.amended]) (hsound true)
    · exact State.holdsSoundIf_update (f := Record.amended cls act false) (b := false) hs hr hrel rfl rfl rfl (fun _ => rfl) (fun _ => rfl) hrel (hsound false)
  | retire h hr hn hz =>
    obtain ⟨r, hmem, rfl, hrel⟩ := hr hso
    exact State.retire_holdsSoundIf hs hmem hrel false
  | driveOff ha =>
    refine ⟨?_, State.gateSoundIf_of_idle (by simp [State.driveOff]) (by simp [State.driveOff_records hs.2 ha])⟩
    exact State.retire_table_sound hs.1 s.gate.handle true
  | fails reason ha => exact State.releaseFails_holdsSoundIf hs.1 reason
  | convert h hr hn =>
    obtain ⟨r, hmem, rfl, hl⟩ := hr hso
    have hrel : r.state ≠ .releasing := by
      simp only [Record.lastUnit, Record.counts, Bool.and_eq_true, bne_iff_ne] at hl
      exact hl.1
    have hexp : r.expiry ≠ none := fun he => by simp [Record.lastUnit, he] at hl
    rw [State.convertToPark_eq]
    exact State.holdsSoundIf_update (f := Record.parked) (b := (s.changed r.handle Record.parked).distConfirmed) hs hmem hrel
      (by simp) (by simp [State.changed_table]) (by simp [State.changed_table]) (fun _ => rfl) (fun _ => rfl)
      (by simp [Record.parked]) (Record.parked_sound (hs.1.1 r hmem) hexp)
  | opens make hm => exact State.openRecord_holdsSoundIf hs hm
  | run loads fresh =>
    exact heard (b := (s.distributeWith loads fresh).distConfirmed) (by simp) (by simp)
      (by rw [State.distributeWith_table]) (by simp)
  | report => exact heard (b := s.distConfirmed) (by simp) (by simp) (by rw [State.reportConfirmed_table]) (by simp)
  | _ => exact same rfl (Mode.alike_refl _) rfl

theorem Move.keeps_holdsSound (hd : ¬L.dozes) (hso : L.sound) (hs : s.holdsSound) (h : Move L s t) : t.holdsSound :=
  State.holdsSoundIf_true.1 (h.keeps_holdsSoundIf (fun _ => hd) hso (State.holdsSoundIf_true.2 hs))

/-- The holds right after the START opening of a reset (R6). -/
theorem State.startOpening_holdsSound (s : State) : s.blank.startOpening.holdsSound := by
  have hblank : s.blank.holdsSoundIf True := by
    refine ⟨?_, State.gateSoundIf_of_idle (by simp) (by simp [HoldTable.reset])⟩
    rw [State.blank_table]
    refine ⟨nofun, List.nodup_nil, by decide, ?_⟩
    unfold withinLimits
    decide
  exact State.holdsSoundIf_true.1 (State.openRecord_holdsSoundIf hblank (blank_mayOpen s))

theorem exec_keeps_holdsSound {i : Instr} (hs : s.holdsSound) (hz : s.sleepSound) (h : exec i s = .next t) : t.holdsSound :=
  exec_keeps (P := State.holdsSound) (dozes := False) (sound := True) (fun hn => hn hz) (fun _ => hs)
    (fun hs hm => hm.keeps_holdsSound id trivial hs) (fun u _ => u.startOpening_holdsSound) hs h

theorem State.advance_holdsSoundIf (hs : s.holdsSoundIf z) : s.advance.holdsSoundIf z := by
  refine ⟨HoldTable.sound_sublist hs.1 (List.Sublist.refl _) rfl, ?_⟩
  cases ha : s.gate.armed with
  | false =>
    obtain ⟨hg, hn⟩ := State.gateSoundIf_idle hs.2 ha
    exact State.gateSoundIf_of_idle (by simp [State.advance, hg, Gate.tick, Gate.idle]) hn
  | true =>
    obtain ⟨hrec, hlen, hrem, hcause, hns, hnz⟩ := State.gateSoundIf_armed hs.2 ha
    have htick : s.gate.tick.armed = true ∧ s.gate.tick.handle = s.gate.handle ∧
        s.gate.tick.modeCause = s.gate.modeCause ∧ s.gate.tick.remaining.isSome = s.gate.remaining.isSome := by
      unfold Gate.tick
      split
      · exact ⟨ha, rfl, rfl, by cases s.gate.remaining <;> rfl⟩
      · exact ⟨ha, rfl, rfl, rfl⟩
    obtain ⟨h1, h2, h3, h4⟩ := htick
    rw [State.gateSoundIf, if_pos (by simpa [State.advance] using h1)]
    exact ⟨fun r hr => ⟨(hrec r hr).1, (hrec r hr).2.trans h2.symm⟩, hlen, h4.trans hrem, by
      simpa [State.advance, h3] using hcause, hns, hnz⟩

/-- The laws of the table and the gate hold after every step (R1 to R5, R11, R106). -/
theorem step_keeps_holdsSound (hs : s.holdsSound) (hz : s.sleepSound) (h : step s = .next t) : t.holdsSound := by
  rcases step_cases h with ⟨q, n, rfl⟩ | rfl | ⟨i, q, h⟩
  · exact hs
  · exact State.holdsSoundIf_true.1 (State.advance_holdsSoundIf (State.holdsSoundIf_true.2 hs))
  · exact exec_keeps_holdsSound (s := s.withPending q) hs hz h

/-- Settles O33: each of the moves that commands are made of keeps the laws, and a reset makes them hold anew. -/
theorem holdsKeepTheirLaws : Obligations.HoldsKeepTheirLaws :=
  ⟨fun _ _ => step_keeps_sleepSound, fun _ _ => step_keeps_holdsSound⟩

end Sys2Proof.Machine

/-! # O34 and O40: the forces and the figures keep their laws -/

namespace Sys2Proof.Machine

variable {L : Licence} {s t u : State}

/-! ## What a move makes of F_req and A -/

/-- The live holds' classes and their floors are no more than before, and the table is empty if it was (R28). -/
def State.asksNoMore (t s : State) : Prop :=
  (t.table.records = [] → s.table.records = []) ∧ (∀ x ∈ t.table.records, ∃ y ∈ s.table.records, x.cls = y.cls) ∧
    (s.table.records = [] → t.table.records = []) ∧ ∀ k, t.vehicle.floor k = s.vehicle.floor k

/-- What a move makes of F_req and A: a run of the Force Calculator, A at its F_req or risen to it; or neither is touched,
but that relief lowers A to F_req (R28 to R31). -/
def State.forcesTo (s t : State) : Prop :=
  (t.force = t.calculate ∧
      (t.table.applied = t.force.fReq ∨ t.table.applied = max t.force.fReq s.table.applied ∧
        (t.table.records = [] → s.table.records = []))) ∨
    t.force = s.force ∧ (t.table.applied = s.table.applied ∨ t.table.applied = s.force.fReq) ∧ t.asksNoMore s

theorem State.forcesTo_of_fresh (h : t.freshForce) : s.forcesTo t := .inl ⟨h.1, .inl h.2⟩

/-- A change of the records one by one that leaves their classes asks no more. -/
theorem State.asksNoMore_map {f : Record → Record} (hr : t.table.records = s.table.records.map f)
    (hf : ∀ r, (f r).cls = r.cls) (hv : t.store = s.store) : t.asksNoMore s := by
  refine ⟨by simp [hr], fun x hx => ?_, by simp [hr], by simp [State.vehicle, hv]⟩
  rw [hr] at hx
  obtain ⟨y, hy, rfl⟩ := List.mem_map.1 hx
  exact ⟨y, hy, hf y⟩

theorem State.asksNoMore_heard {b : Bool} (hr : t.table.records = heardRecords b s.table.records)
    (hv : t.store = s.store) : t.asksNoMore s := by
  cases b with
  | false => exact State.asksNoMore_map (f := id) (by simpa using hr) (by simp) hv
  | true => exact State.asksNoMore_map hr Record.hold_cls hv

/-- The records stand, the floors too. -/
theorem State.asksNoMore_of_eq (hr : t.table.records = s.table.records) (hv : ∀ k, t.vehicle.floor k = s.vehicle.floor k) :
    t.asksNoMore s :=
  ⟨by simp [hr], fun x hx => ⟨x, hr ▸ hx, rfl⟩, by simp [hr], hv⟩

/-- A write of an item that the Force Calculator does not read leaves the floors (R58). -/
theorem State.written_floor {item : Item} (hi : item.refigures = false) (value : Word16) (k : HoldClass) :
    (s.written item value).vehicle.floor k = s.vehicle.floor k := by
  cases item with
  | channel c i => rfl
  | commitCount => rfl
  | vehicle i =>
    have hf : forceItem i = false := hi
    have h6 : i ≠ 6 := by rintro rfl; cases hf
    have h7 : i ≠ 7 := by rintro rfl; cases hf
    have h8 : i ≠ 8 := by rintro rfl; cases hf
    cases k <;>
      simp [State.written, State.vehicle, Profile.write, VehicleItems.floor, VehicleItems.ofValues,
        VehicleItems.values, h6.symm, h7.symm, h8.symm]

theorem State.runAndOffer_forcesTo (ht : t.table = s.table) : s.forcesTo t.runAndOffer := by
  obtain ⟨b, hb⟩ := t.runAndOffer_table
  have hcalc : t.runAndOffer.calculate = t.calculate :=
    State.calculate_congr (by simp) (by simp) (by simp [hb])
  exact .inl ⟨by simp [hcalc], .inr ⟨by simp [ht], by simp [hb, ht]⟩⟩

theorem Record.backToHeld_cls (r : Record) : r.backToHeld.cls = r.cls := by
  unfold Record.backToHeld
  split <;> rfl

theorem State.releaseFails_forcesTo (s : State) (reason : Reason) : s.forcesTo (s.releaseFails reason) :=
  .inr ⟨by simp [State.releaseFails], .inl (by rw [State.releaseFails_table]),
    State.asksNoMore_map (by rw [State.releaseFails_table]) Record.backToHeld_cls (by simp [State.releaseFails])⟩

theorem State.gateCancel_forcesTo (s : State) : s.forcesTo s.gateCancel := by
  unfold State.gateCancel
  split
  · exact s.releaseFails_forcesTo _
  · exact .inr ⟨rfl, .inl rfl, State.asksNoMore_of_eq rfl fun _ => rfl⟩

theorem Move.forces (h : Move L s t) : s.forcesTo t := by
  have same {t : State} (hf : t.force = s.force) (ht : t.table = s.table) (hv : t.store = s.store) : s.forcesTo t :=
    .inr ⟨hf, .inl (by rw [ht]), State.asksNoMore_of_eq (by rw [ht]) (by simp [State.vehicle, hv])⟩
  have heard {t : State} {b : Bool} (hf : t.force = s.force) (ha : t.table.applied = s.table.applied)
      (hr : t.table.records = heardRecords b s.table.records) (hv : t.store = s.store) : s.forcesTo t :=
    .inr ⟨hf, .inl ha, State.asksNoMore_heard hr hv⟩
  have mapped {t : State} {f : Record → Record} (hf : t.force = s.force) (ha : t.table.applied = s.table.applied)
      (hr : t.table.records = s.table.records.map f) (hc : ∀ r, (f r).cls = r.cls) (hv : t.store = s.store) : s.forcesTo t :=
    .inr ⟨hf, .inl ha, State.asksNoMore_map hr hc hv⟩
  cases h with
  | store p hp => exact .inr ⟨rfl, .inl rfl, State.asksNoMore_of_eq rfl (by simp [State.vehicle, hp])⟩
  | rewrite item value hw hi => exact .inr ⟨rfl, .inl rfl, State.asksNoMore_of_eq rfl (State.written_floor hi value)⟩
  | refigure item value hw => exact State.runAndOffer_forcesTo (t := s.written item value) rfl
  | offer hz => exact State.runAndOffer_forcesTo rfl
  | relief hl hz =>
    obtain ⟨b, hb⟩ := (s.withTable { s.table with relief := .start }).applyForce_table s.force.fReq
    exact .inr ⟨by simp, .inr (by rw [hb]), State.asksNoMore_heard (b := b) (by rw [hb]; rfl) (by simp)⟩
  | cancel k x hr hk hz => exact ((s.withCtl k).withLink x).gateCancel_forcesTo
  | sleep hc hl => exact heard (b := false) (by simp [State.enterSleep]) rfl rfl (by simp)
  | wake hm hw =>
    obtain ⟨b, hb⟩ := s.waking_table
    exact heard (b := b) (by simp [State.waking, State.rewired, State.roused]) (by rw [hb]) (by rw [hb]) (by simp)
  | arm r hr hst ho hm hz hn =>
    exact mapped (f := fun x => if x.handle = r.handle then { x with state := .releasing } else x) rfl rfl rfl
      (fun x => by split <;> rfl) rfl
  | count => exact mapped (f := Record.countDown) rfl rfl rfl Record.countDown_cls rfl
  | mark b =>
    exact mapped (f := fun r => if r.isRollaway then { r with collected := b } else r) rfl rfl rfl
      (fun x => by split <;> rfl) rfl
  | amend r cls act hl hm =>
    rw [State.amend_eq]
    split
    · exact State.forcesTo_of_fresh (s.changed_freshForce _ _)
    · rename_i hc
      obtain rfl : cls = r.cls := by simpa using hc
      refine .inr ⟨rfl, .inl rfl, by simp [State.changing, updateRecord], fun x hx => ?_,
        by simp [State.changing, updateRecord], fun _ => rfl⟩
      obtain ⟨y, hy, rfl⟩ := List.mem_map.1 hx
      split
      · exact ⟨r, hm.1, rfl⟩
      · exact ⟨y, hy, rfl⟩
  | retire h hr hn hz => exact State.forcesTo_of_fresh (s.retire_freshForce _ _)
  | driveOff ha =>
    exact State.forcesTo_of_fresh
      (State.freshForce_congr (by simp [State.driveOff]) (by simp [State.driveOff]) (by simp [State.driveOff])
        (by simp [State.driveOff]) (by simp [State.driveOff]) (s.retire_freshForce s.gate.handle true))
  | fails reason ha => exact s.releaseFails_forcesTo reason
  | convert h hr hn =>
    rw [State.convertToPark_eq]
    exact State.forcesTo_of_fresh
      (State.freshForce_congr (s := s.changed h Record.parked) (by simp) (by simp) (by simp) (by simp) (by simp)
        (s.changed_freshForce h Record.parked))
  | opens make hm => exact State.forcesTo_of_fresh (s.openRecord_freshForce make)
  | run loads fresh =>
    exact heard (b := (s.distributeWith loads fresh).distConfirmed) (by simp) (by simp) (by rw [State.distributeWith_table])
      (by simp)
  | report => exact heard (b := s.distConfirmed) (by simp) (by simp) (by rw [State.reportConfirmed_table]) (by simp)
  | _ => exact same rfl rfl rfl

/-! ## The floors (R28) -/

/-- The requirement of each live class is at least its floor, and there is none over an empty table (R55, R56). -/
theorem State.calculate_covers (s : State) : coversFloors s.vehicle s.table.records s.calculate.fReq := by
  refine ⟨fun h => by simp [State.calculate, h, greatest], fun r hr => ?_⟩
  exact (le_max_left _ _).trans (le_greatest (requirement s.vehicle s.calculate.base) hr)

theorem State.asksNoMore_covers {n : Nat} (h : t.asksNoMore s) (hs : coversFloors s.vehicle s.table.records n) :
    coversFloors t.vehicle t.table.records n := by
  obtain ⟨hnil, hcls, -, hv⟩ := h
  refine ⟨fun ht => hs.1 (hnil ht), fun x hx => ?_⟩
  obtain ⟨y, hy, hc⟩ := hcls x hx
  rw [hv, hc]
  exact hs.2 y hy

/-- A and F_req stay above the floors (R28). -/
theorem State.forcesTo_covers (h : s.forcesTo t) (ha : coversFloors s.vehicle s.table.records s.table.applied)
    (hf : coversFloors s.vehicle s.table.records s.force.fReq) :
    coversFloors t.vehicle t.table.records t.table.applied ∧ coversFloors t.vehicle t.table.records t.force.fReq := by
  rcases h with ⟨hf', ha'⟩ | ⟨hf', ha', hno⟩
  · have hcov : coversFloors t.vehicle t.table.records t.force.fReq := hf' ▸ t.calculate_covers
    refine ⟨?_, hcov⟩
    rcases ha' with h | ⟨h, hnil⟩
    · rwa [h]
    · rw [h]
      refine ⟨fun ht => ?_, fun r hr => (hcov.2 r hr).trans (le_max_left _ _)⟩
      rw [hcov.1 ht, ha.1 (hnil ht)]
      rfl
  · rw [hf']
    refine ⟨?_, State.asksNoMore_covers hno hf⟩
    rcases ha' with h | h <;> rw [h]
    · exact State.asksNoMore_covers hno ha
    · exact State.asksNoMore_covers hno hf

/-! ## SHORT (R73) -/

/-- While SHORT is clear the assigned forces sum to at least A (R73). -/
def State.carries (s : State) : Prop := s.dist.short = none → s.table.applied ≤ s.dist.total

theorem shortOf_none {assigned applied frictionTotal : Nat} {b : Bool} (h : shortOf assigned applied frictionTotal b = none) :
    applied ≤ assigned := by
  unfold shortOf at h
  split at h
  · assumption
  · split at h <;> cases h

/-- A run carries A, or is SHORT. -/
theorem State.distributeWith_carries (s : State) (loads : Six Nat) (fresh : Bool) : (s.distributeWith loads fresh).carries := by
  intro h
  rw [State.distributeWith_dist] at h ⊢
  rw [State.distributeWith_applied]
  exact shortOf_none h

theorem State.carries_of_eq (hd : t.dist = s.dist) (ha : t.table.applied = s.table.applied) (h : s.carries) : t.carries := by
  unfold State.carries
  rwa [hd, ha]

theorem State.applyForce_carries (h : s.carries) (a : Nat) : (s.applyForce a).carries := by
  unfold State.applyForce
  dsimp only
  split
  · rename_i he
    subst he
    exact h
  · exact State.distributeWith_carries _ _ _

theorem State.runAndOffer_carries (h : s.carries) : s.runAndOffer.carries := by
  unfold State.runAndOffer State.offer
  dsimp only
  exact State.applyForce_carries (State.carries_of_eq (by simp) (by simp) h) _

theorem State.holdSetChange_carries (h : s.carries) (parkBefore : Bool) : (s.holdSetChange parkBefore).carries := by
  rcases s.holdSetChange_cases parkBefore with ⟨he, hf, -⟩ | he
  · rw [he]
    exact State.carries_of_eq (s := s) rfl hf h
  · rw [he]
    exact State.distributeWith_carries _ _ _

theorem State.changed_carries (h : s.carries) (k : Nat) (f : Record → Record) : (s.changed k f).carries :=
  State.carries_of_eq (by simp [State.changed]) (by simp [State.changed])
    (State.holdSetChange_carries (s := s.changing k f) h (parkLive s.table.records))

theorem State.retire_carries (h : s.carries) (k : Nat) (driveOff : Bool) : (s.retire k driveOff).carries := by
  obtain ⟨m, hm⟩ := s.retire_withMon k driveOff
  rw [hm]
  exact State.holdSetChange_carries (s := s.parting k) h _

theorem State.openRecord_carries (h : s.carries) (make : Nat → Record) : (s.openRecord make).carries := by
  obtain ⟨m, hm⟩ := s.opening_withMon make
  have hset := State.holdSetChange_carries (s := s.seating make) h (parkLive s.table.records)
  rw [State.openRecord_eq, hm]
  exact State.carries_of_eq (by simp) (by simp) hset

theorem State.gateCancel_carries (h : s.carries) : s.gateCancel.carries := by
  unfold State.gateCancel
  split
  · exact State.carries_of_eq (by simp [State.releaseFails]) (by rw [State.releaseFails_table]) h
  · exact h

theorem State.waking_carries (s : State) : s.waking.carries := by
  unfold State.waking
  exact State.distributeWith_carries _ _ _

theorem Move.keeps_carries (hs : s.carries) (h : Move L s t) : t.carries := by
  cases h with
  | dist d ht hsh => simpa [State.carries, ht, hsh] using hs
  | refigure item value hw => exact State.runAndOffer_carries (s := s.written item value) hs
  | offer hz => exact State.runAndOffer_carries hs
  | relief hl hz => exact State.applyForce_carries (s := s.withTable { s.table with relief := .start }) hs _
  | cancel k x hr hk hz => exact State.gateCancel_carries (s := (s.withCtl k).withLink x) hs
  | sleep hc hl => exact State.carries_of_eq (by simp [State.enterSleep]) rfl hs
  | wake hm hw => exact s.waking_carries
  | amend r cls act hl hm =>
    rw [State.amend_eq]
    split
    · exact State.changed_carries hs _ _
    · exact hs
  | retire h hr hn hz => exact State.retire_carries hs _ _
  | driveOff ha =>
    exact State.carries_of_eq (by simp [State.driveOff]) (by simp [State.driveOff])
      (State.retire_carries hs s.gate.handle true)
  | fails reason ha => exact State.carries_of_eq (by simp [State.releaseFails]) (by rw [State.releaseFails_table]) hs
  | convert h hr hn =>
    rw [State.convertToPark_eq]
    exact State.carries_of_eq (by simp) (by simp) (State.changed_carries hs h Record.parked)
  | opens make hm => exact State.openRecord_carries hs make
  | run loads fresh => exact s.distributeWith_carries loads fresh
  | report => exact State.carries_of_eq (by simp) (by simp) hs
  | _ => exact hs

/-! ## O34 -/

theorem Move.keeps_forcesSound (hs : s.forcesSound) (h : Move L s t) : t.forcesSound := by
  obtain ⟨ha, hf, hc⟩ := hs
  obtain ⟨ha', hf'⟩ := State.forcesTo_covers h.forces ha hf
  exact ⟨ha', hf', h.keeps_carries hc⟩

/-- Fresh forces that are carried are sound. -/
theorem State.forcesSound_of_fresh (h : s.freshForce) (hc : s.carries) : s.forcesSound := by
  obtain ⟨hf, ha⟩ := h
  have hcov : coversFloors s.vehicle s.table.records s.force.fReq := hf ▸ s.calculate_covers
  exact ⟨ha ▸ hcov, hcov, hc⟩

theorem State.startOpening_forcesSound (s : State) : s.blank.startOpening.forcesSound :=
  State.forcesSound_of_fresh (State.openRecord_freshForce _ _)
    (State.openRecord_carries (by simp [State.carries, HoldTable.reset]) _)

theorem exec_keeps_forcesSound {i : Instr} (hs : s.forcesSound) (h : exec i s = .next t) : t.forcesSound :=
  exec_keeps (P := State.forcesSound) (dozes := True) (sound := False) (fun _ => trivial) False.elim
    (fun hs hm => hm.keeps_forcesSound hs) (fun u _ => u.startOpening_forcesSound) hs h

/-- Settles O34: each move of a command keeps A and F_req above the floors, and A carried or SHORT. -/
theorem forcesKeepTheirLaws : Obligations.ForcesKeepTheirLaws := by
  intro s t hs h
  rcases step_cases h with ⟨q, n, rfl⟩ | rfl | ⟨i, q, h⟩
  · exact hs
  · exact hs
  · exact exec_keeps_forcesSound (s := s.withPending q) hs h

end Sys2Proof.Machine

/-! # O40: the figures stay in their ranges -/

namespace Sys2Proof.Machine

variable {L : Licence} {s t u : State}

/-! ## The profile -/

/-- The values of a list pass a test by place just where each place's value does. -/
theorem all_zipIdx_iff (values : List Word16) (test : Nat → Word16 → Bool) :
    (values.zipIdx.all fun (v, i) => test i v) = true ↔ ∀ i < values.length, test i (values.getD i 0) = true := by
  simp only [List.all_eq_true, List.mem_zipIdx_iff_getElem?, Prod.forall]
  constructor
  · intro h i hi
    exact h _ i (by simp [hi])
  · intro h v i hv
    obtain ⟨hi, rfl⟩ := List.getElem?_eq_some_iff.1 hv
    simpa [hi] using h i hi

/-- The profile is within its ranges just where each item's value is (R192, R195). -/
theorem Profile.inRanges_iff (p : Profile) :
    p.inRanges = true ↔
      (∀ i < 20, vehicleInRange i (p.vehicle.values.getD i 0) = true) ∧
        ∀ c, ∀ i < 15, channelInRange i ((p.channels.get c).values.getD i 0) = true := by
  unfold Profile.inRanges
  rw [Bool.and_eq_true, all_zipIdx_iff, List.all_eq_true]
  refine and_congr .rfl ⟨fun h c => ?_, fun h c _ => ?_⟩
  · exact (all_zipIdx_iff _ _).1 (h c (by revert c; decide))
  · exact (all_zipIdx_iff _ _).2 (h c)

theorem Profile.inRanges_le {p : Profile} (h : p.inRanges = true) (i : Nat) (hi : i < 20) :
    (p.vehicle.values.getD i 0).toNat ≤ (vehicleRanges.getD i (1, 0)).2 := by
  have := (p.inRanges_iff.1 h).1 i hi
  simp only [vehicleInRange, inSpan, Bool.and_eq_true, decide_eq_true_eq] at this
  exact this.1.2

theorem VehicleItems.ofValues_getD (f : Nat → Word16) {i : Nat} (hi : i < 20) :
    (VehicleItems.ofValues f).values.getD i 0 = f i := by
  interval_cases i <;> rfl

theorem ChannelItems.ofValues_getD (f : Nat → Word16) {i : Nat} (hi : i < 15) :
    (ChannelItems.ofValues f).values.getD i 0 = f i := by
  interval_cases i <;> rfl

/-- A write of a value within its range keeps the ranges (R199). -/
theorem Profile.write_inRanges {p : Profile} (h : p.inRanges = true) {item : Item} {value : Word16}
    (hv : item.inRange value = true) : (p.write item value).inRanges = true := by
  obtain ⟨hveh, hch⟩ := p.inRanges_iff.1 h
  rw [Profile.inRanges_iff]
  cases item with
  | vehicle i =>
    refine ⟨fun j hj => ?_, hch⟩
    rw [Profile.write, VehicleItems.ofValues_getD _ hj]
    split
    · rename_i he
      subst he
      exact hv
    · exact hveh j hj
  | channel c i =>
    refine ⟨hveh, fun c' j hj => ?_⟩
    rw [Profile.write, Six.get_put]
    split
    · rename_i hc
      subst hc
      rw [ChannelItems.ofValues_getD _ hj]
      split
      · rename_i he
        subst he
        exact hv
      · exact hch _ j hj
    · exact hch c' j hj
  | commitCount => cases hv

theorem Store.load_sound (p : Store) : p.load.working.inRanges = true ∧ p.load.working.constraints = true := by
  unfold Store.load
  split
  · rename_i h
    simp only [Bool.and_eq_true] at h
    exact ⟨h.1.2, h.2⟩
  · exact ⟨show Profile.builtIn.inRanges = true by decide, show Profile.builtIn.constraints = true by decide⟩

/-! ## What a move makes of the profile and the measurements -/

/-- The profile in force is within its ranges and constraints (R192, R199). -/
def Profile.sound (p : Profile) : Prop := p.inRanges = true ∧ p.constraints = true

theorem State.mayWrite_sound {item : Item} {value : Word16} (hw : s.mayWrite item value) (hs : s.store.working.sound) :
    (s.written item value).store.working.sound :=
  ⟨Profile.write_inRanges hs.1 hw.1, hw.2.1⟩

theorem Move.keeps_profile (hs : s.store.working.sound) (h : Move L s t) : t.store.working.sound := by
  have same {t : State} (ht : t.store = s.store) : t.store.working.sound := by rwa [ht]
  cases h with
  | store p hp => simpa [hp] using hs
  | rewrite item value hw hi => exact State.mayWrite_sound hw hs
  | refigure item value hw => simpa using State.mayWrite_sound hw hs
  | power b => exact hs
  | frees n => exact hs
  | arm r hr hst ho hm hz hn => exact hs
  | mark b => exact hs
  | _ => exact same (by simp)

/-- The measurements of a sound part: the grade's law, and W and C_rep within their ranges (R38, R40, R44). -/
def Measure.sound (m : Measure) : Prop := m.gradeSound ∧ m.weight ≤ 65000 ∧ m.cRep.getD 0 ≤ 40000

theorem State.grossWeight_le (h : s.store.working.sound) : s.vehicle.grossWeight.toNat ≤ 65000 :=
  Profile.inRanges_le h.1 0 (by omega)

theorem State.measuresTo_sound {m : Measure} (hp : s.store.working.sound) (hs : s.meas.sound) (h : s.measuresTo m) : m.sound := by
  obtain ⟨hg, hw, hc⟩ := hs
  obtain ⟨hg', hw', hc', -⟩ := h
  refine ⟨hg' hg, ?_, ?_⟩
  · rcases hw' with h | h | h
    · exact h.trans_le hw
    · exact h
    · exact h.trans_le (State.grossWeight_le hp)
  · rcases hc' with h | h
    · rwa [h]
    · exact h

theorem Measure.wake_gradeSound {m : Measure} (h : m.gradeSound) (n : Nat) : (m.wake n).gradeSound := by
  obtain ⟨hg, hl, hw, hf, hi⟩ := Measure.endStandstill_sound h
  exact ⟨hg, hl, hw, hf, hi⟩

theorem Move.keeps_measures (hp : s.store.working.sound) (hs : s.meas.sound) (h : Move L s t) : t.meas.sound := by
  have same {t : State} (ht : t.meas = s.meas) : t.meas.sound := by rwa [ht]
  cases h with
  | meas m hm => exact State.measuresTo_sound hp hs hm
  | wake hm hw =>
    obtain ⟨loads, u, hu, he⟩ := s.waking_meas
    obtain ⟨hg, -, hc⟩ := hs
    have hgr : u.vehicle.grossWeight.toNat ≤ 65000 := State.grossWeight_le (by rwa [hu])
    have hwt := u.weightOf_range loads
    rw [he]
    exact ⟨Measure.wake_gradeSound hg s.vehicle.minSupply.toNat, (hwt.elim id fun h => h.trans_le hgr), hc⟩
  | sleep hc hl => exact hs
  | power b => exact hs
  | frees n => exact hs
  | arm r hr hst ho hm hz hn => exact hs
  | mark b => exact hs
  | _ => exact same (by simp [State.written])

/-! ## The Force Calculator (R50 to R56) -/

theorem gradeForce_le {weight : Nat} {grade : Int} (hw : weight ≤ 65000) (hg : grade.natAbs ≤ 600) :
    gradeForce weight grade ≤ 39756 := by
  have : weight * grade.natAbs ≤ 65000 * 600 := Nat.mul_le_mul hw hg
  exact (ceilDiv_le_iff (by omega)).2 (by omega)

theorem concreteOf_le {cRep : Option Nat} (h : cRep.getD 0 ≤ 40000) (weight empty : Nat) :
    concreteOf cRep weight empty ≤ 40000 := by
  cases cRep with
  | none => exact min_le_right _ _
  | some c => exact h

theorem sloshOf_le {concrete pm : Nat} (hc : concrete ≤ 40000) (hp : pm ≤ 200) : sloshOf concrete pm ≤ 8000 := by
  have : concrete * pm ≤ 40000 * 200 := Nat.mul_le_mul hc hp
  exact (ceilDiv_le_iff (by omega)).2 (by omega)

theorem State.sloshPm_le (h : s.store.working.sound) (d : DrumMode) : s.vehicle.sloshPm d ≤ 200 := by
  cases d
  · exact Profile.inRanges_le h.1 9 (by omega)
  · exact Profile.inRanges_le h.1 10 (by omega)
  · exact Profile.inRanges_le h.1 11 (by omega)
  · exact Profile.inRanges_le h.1 12 (by omega)

theorem State.margin_le (h : s.store.working.sound) (k : HoldClass) : s.vehicle.margin k ≤ 300 := by
  cases k
  · exact (Profile.inRanges_le h.1 3 (by omega)).trans (by decide)
  · exact (Profile.inRanges_le h.1 4 (by omega)).trans (by decide)
  · exact Profile.inRanges_le h.1 5 (by omega)

theorem State.floor_le (h : s.store.working.sound) (k : HoldClass) : s.vehicle.floor k ≤ 12000 := by
  cases k
  · exact (Profile.inRanges_le h.1 6 (by omega)).trans (by decide)
  · exact (Profile.inRanges_le h.1 7 (by omega)).trans (by decide)
  · exact Profile.inRanges_le h.1 8 (by omega)

/-- The results of a run are within their ranges (R50, R53, R55, R56). -/
theorem State.calculate_le (hp : s.store.working.sound) (hm : s.meas.sound) :
    s.calculate.fGrade ≤ 39756 ∧ s.calculate.fReq ≤ 143268 := by
  obtain ⟨⟨hg, -⟩, hw, hc⟩ := hm
  have hgrade := gradeForce_le hw hg
  have hslosh := sloshOf_le (concreteOf_le hc s.meas.weight s.vehicle.emptyWeight.toNat) (State.sloshPm_le hp s.meas.drum)
  refine ⟨hgrade, greatest_le _ _ _ fun k => max_le ((State.floor_le hp k).trans (by omega)) ?_⟩
  refine (ceilDiv_le_iff (by omega)).2 ?_
  calc _ ≤ (39756 + 8000) * 300 := Nat.mul_le_mul (by omega) (State.margin_le hp k)
    _ ≤ 143268 * 100 := by omega

/-! ## O40 -/

/-- The forces within their ranges (R28, R50). -/
def State.forcesInRange (s : State) : Prop := s.force.fGrade ≤ 39756 ∧ s.force.fReq ≤ 143268 ∧ s.table.applied ≤ 143268

theorem State.forcesTo_inRange (h : s.forcesTo t) (hs : s.forcesInRange) (hp : t.store.working.sound) (hm : t.meas.sound) :
    t.forcesInRange := by
  obtain ⟨hg, hr, ha⟩ := hs
  have hcalc := State.calculate_le hp hm
  rcases h with ⟨hf, ha'⟩ | ⟨hf, ha', -⟩
  · rw [← hf] at hcalc
    exact ⟨hcalc.1, hcalc.2, by omega⟩
  · rw [State.forcesInRange, hf]
    exact ⟨hg, hr, by omega⟩

theorem State.figuresSound_iff :
    s.figuresSound ↔ s.store.working.sound ∧ s.meas.sound ∧ s.forcesInRange := by
  unfold State.figuresSound Profile.sound Measure.sound State.forcesInRange
  tauto

theorem Move.keeps_figuresSound (hs : s.figuresSound) (h : Move L s t) : t.figuresSound := by
  obtain ⟨hp, hm, hf⟩ := State.figuresSound_iff.1 hs
  have hp' := h.keeps_profile hp
  have hm' := h.keeps_measures hp hm
  exact State.figuresSound_iff.2 ⟨hp', hm', State.forcesTo_inRange h.forces hf hp' hm'⟩

theorem State.startOpening_figuresSound (s : State) (hs : s.figuresSound) : s.blank.startOpening.figuresSound := by
  obtain ⟨-, ⟨hg, hw, hc⟩, -⟩ := State.figuresSound_iff.1 hs
  have hp : s.blank.startOpening.store.working.sound := by simpa [Profile.sound] using s.store.load_sound
  have hm : s.blank.startOpening.meas.sound := by
    obtain ⟨loads, weight, he, hwt⟩ := s.blank_meas
    have hgr : s.blank.vehicle.grossWeight.toNat ≤ 65000 := State.grossWeight_le (by simpa using hp)
    rw [State.startOpening_meas, he]
    exact ⟨⟨by simp [Measure.reset], by simp [Measure.reset, Measure.wake, Measure.endStandstill],
      by simp [Measure.reset, Measure.wake, Measure.endStandstill], by simp [Measure.reset],
      by simp [Measure.reset, Measure.wake, Measure.endStandstill]⟩, hwt.elim id fun h => h.trans_le hgr, by simp [Measure.reset]⟩
  have hfresh : s.blank.startOpening.freshForce := State.openRecord_freshForce _ _
  have hcalc := State.calculate_le hp hm
  rw [← hfresh.1] at hcalc
  exact State.figuresSound_iff.2 ⟨hp, hm, hcalc.1, hcalc.2, hfresh.2.trans_le hcalc.2⟩

/-- Settles O40: each move of a command keeps the figures in their ranges. -/
theorem figuresStayInRange : Obligations.FiguresStayInRange := by
  intro s t hs h
  rcases step_cases h with ⟨q, n, rfl⟩ | rfl | ⟨i, q, h⟩
  · exact hs
  · exact hs
  · exact exec_keeps (P := State.figuresSound) (dozes := True) (sound := False) (s := s.withPending q) (fun _ => trivial)
      False.elim (fun hs hm => hm.keeps_figuresSound hs) (fun u hu => u.startOpening_figuresSound hu) hs h

end Sys2Proof.Machine

/-! # O35: A never falls while the holds and their classes are unchanged

An opening moves the handle counter on, and no more openings than there are places bring it round to where it began. A
retirement or a conversion leaves less of the holds than there was, and comes before any opening. What is left of a command
leaves the holds, and A falls by none of it. -/

namespace Sys2Proof.Machine

variable {L : Licence} {s t u : State} {z : Prop}

/-! ## How much is held -/

/-- How much is held: a PARK hold counts 1 and any other 2, so that a retirement and a conversion to PARK leave less. -/
def heldAmount (holds : List (Nat × HoldClass)) : Nat := (holds.map fun x => if x.2 = .park then 1 else 2).sum

theorem heldAmount_cons (x : Nat × HoldClass) (xs : List (Nat × HoldClass)) :
    heldAmount (x :: xs) = (if x.2 = .park then 1 else 2) + heldAmount xs := by simp [heldAmount]

/-- A retirement of a live record leaves less held. -/
theorem heldAmount_othersThan_lt {records : List Record} {r : Record} (hr : r ∈ records) :
    heldAmount (holdSet (othersThan records r.handle)) < heldAmount (holdSet records) := by
  have hle : ∀ xs : List Record, heldAmount (holdSet (othersThan xs r.handle)) ≤ heldAmount (holdSet xs) := by
    intro xs
    induction xs with
    | nil => exact le_rfl
    | cons x xs ih =>
      simp only [othersThan, List.filter_cons, holdSet, List.map_cons, heldAmount_cons] at ih ⊢
      split
      · simpa [heldAmount_cons] using ih
      · omega
  induction records with
  | nil => cases hr
  | cons x xs ih =>
    by_cases hx : x.handle = r.handle
    · have := hle xs
      simp only [othersThan, List.filter_cons, holdSet, List.map_cons, heldAmount_cons, hx, bne_self_eq_false] at this ⊢
      have hpos : 0 < if x.cls = HoldClass.park then 1 else 2 := by split <;> omega
      simp only [Bool.false_eq_true, if_false]
      omega
    · have hmem : r ∈ xs := by
        rcases List.mem_cons.1 hr with rfl | h
        · exact absurd rfl hx
        · exact h
      have := ih hmem
      simp only [othersThan, List.filter_cons, holdSet, List.map_cons, heldAmount_cons, bne_iff_ne, ne_eq, hx,
        not_false_eq_true, if_true] at this ⊢
      omega

/-- A conversion of a record that is not PARK leaves less held. -/
theorem heldAmount_parked_lt {records : List Record} {r : Record} (hr : r ∈ records) (hc : r.cls ≠ .park) :
    heldAmount (holdSet (updateRecord records r.handle Record.parked)) < heldAmount (holdSet records) := by
  have hone : ∀ x : Record, (if (if x.handle = r.handle then x.parked else x).cls = .park then 1 else 2) ≤
      if x.cls = .park then 1 else 2 := by
    intro x
    by_cases hx : x.handle = r.handle
    · simp only [hx, if_true, Record.parked]
      split <;> omega
    · simp [hx]
  have hle : ∀ xs : List Record, heldAmount (holdSet (updateRecord xs r.handle Record.parked)) ≤ heldAmount (holdSet xs) := by
    intro xs
    induction xs with
    | nil => exact le_rfl
    | cons x xs ih =>
      have := hone x
      simp only [updateRecord, holdSet, List.map_cons, heldAmount_cons] at ih ⊢
      omega
  induction records with
  | nil => cases hr
  | cons x xs ih =>
    rcases List.mem_cons.1 hr with rfl | hmem
    · have := hle xs
      simp only [updateRecord, holdSet, List.map_cons, heldAmount_cons, if_true, Record.parked, hc, if_false] at this ⊢
      omega
    · have := ih hmem
      have := hone x
      simp only [updateRecord, holdSet, List.map_cons, heldAmount_cons] at *
      omega

/-! ## What a move makes of the holds -/

/-- The handles of the live records. -/
def State.handles (s : State) : List Nat := s.table.records.map Record.handle

theorem State.handles_eq_of_holdSet (h : holdSet t.table.records = holdSet s.table.records) : t.handles = s.handles := by
  have := congrArg (List.map Prod.fst) h
  simpa [holdSet, State.handles, Function.comp_def] using this

/-- The holds stand, and A does not fall. -/
def State.stands (s t : State) : Prop :=
  holdSet t.table.records = holdSet s.table.records ∧ t.table.nextHandle = s.table.nextHandle ∧
    s.table.applied ≤ t.table.applied

/-- What a move that does not lower A makes of the holds. -/
inductive State.Turns (L : Licence) (s : State) : State → Prop
  /-- The holds stand, A does not fall, and a gate is armed only where it may be. -/
  | stands {t : State} (h : s.stands t) (hg : t.gate.armed = true → s.gate.armed = true ∨ L.counter s.table.nextHandle) :
      Turns L s t
  /-- Less is held. -/
  | less {t : State} (h : heldAmount (holdSet t.table.records) < heldAmount (holdSet s.table.records))
      (hn : t.table.nextHandle = s.table.nextHandle) (hc : s.gate.armed = true ∨ L.counter s.table.nextHandle)
      (hg : t.gate.armed = true → s.gate.armed = true) : Turns L s t
  /-- A hold is opened. -/
  | opens (make : Nat → Record) (hm : s.mayOpen make) : Turns L s (s.openRecord make)

theorem holdSet_map {f : Record → Record} (hh : ∀ r, (f r).handle = r.handle) (hc : ∀ r, (f r).cls = r.cls)
    (records : List Record) : holdSet (records.map f) = holdSet records := by
  simp [holdSet, Function.comp_def, hh, hc]

/-- A release that fails, or that is not under way, leaves the holds (R11, R119). -/
theorem State.gateCancel_stands (s : State) : s.stands s.gateCancel ∧ s.gateCancel.gate.armed = false := by
  unfold State.gateCancel
  split
  · refine ⟨⟨?_, ?_, ?_⟩, by simp [State.releaseFails, Gate.idle]⟩
    · rw [State.releaseFails_table]
      exact holdSet_map Record.backToHeld_handle Record.backToHeld_cls _
    · rw [State.releaseFails_table]
    · rw [State.releaseFails_table]
  · rename_i ha
    exact ⟨⟨rfl, rfl, le_rfl⟩, by simpa using ha⟩

theorem State.runAndOffer_stands (s : State) : s.stands s.runAndOffer := by
  obtain ⟨b, hb⟩ := s.runAndOffer_table
  exact ⟨by simp [hb], by simp [hb], by simp [hb]⟩

theorem State.driveOff_holdSet (s : State) :
    holdSet s.driveOff.table.records = holdSet (othersThan s.table.records s.gate.handle) := by
  obtain ⟨b, hb⟩ := s.retire_records s.gate.handle true
  simp [State.driveOff, hb]

/-- A drive-off leaves less held (R116). -/
theorem State.driveOff_less (hs : s.gateSoundIf z) (ha : s.gate.armed = true) :
    heldAmount (holdSet s.driveOff.table.records) < heldAmount (holdSet s.table.records) := by
  obtain ⟨hrec, hlen, -⟩ := State.gateSoundIf_armed hs ha
  obtain ⟨r, hr⟩ := List.length_eq_one_iff.1 hlen
  have hmem : r ∈ s.table.records := by simp [hr]
  rw [State.driveOff_holdSet, ← (hrec r hmem).2]
  exact heldAmount_othersThan_lt hmem

theorem Move.turns (hl : ¬L.lowers) (hso : L.sound) (hs : s.holdsSoundIf z) (h : Move L s t) : State.Turns L s t := by
  have same {t : State} (hr : t.table = s.table) (hg : t.gate.armed = true → s.gate.armed = true) : State.Turns L s t :=
    .stands ⟨by rw [hr], by rw [hr], by rw [hr]⟩ fun h => .inl (hg h)
  have holds {t : State} (hr : holdSet t.table.records = holdSet s.table.records)
      (hn : t.table.nextHandle = s.table.nextHandle) (ha : s.table.applied ≤ t.table.applied)
      (hg : t.gate.armed = true → s.gate.armed = true) : State.Turns L s t := .stands ⟨hr, hn, ha⟩ fun h => .inl (hg h)
  cases h with
  | refigure item value hw =>
    obtain ⟨hr, hn, ha⟩ := (s.written item value).runAndOffer_stands
    exact holds hr hn ha (by simp [State.written])
  | offer hz =>
    obtain ⟨hr, hn, ha⟩ := s.runAndOffer_stands
    exact holds hr hn ha (by simp)
  | relief hlo hz => exact absurd hlo hl
  | amend r cls act hlo hm => exact absurd hlo hl
  | cancel k x hr hk hz =>
    obtain ⟨⟨hr, hn, ha⟩, hg⟩ := ((s.withCtl k).withLink x).gateCancel_stands
    exact holds hr hn ha (by simp [hg])
  | toRun k x hk hz => exact same rfl (by simp only [State.withGate_gate]; split <;> simp_all)
  | sleep hc hl => exact holds rfl rfl le_rfl (by simp)
  | wake hm hw =>
    obtain ⟨b, hb⟩ := s.waking_table
    exact holds (by simp [hb]) (by simp [hb]) (by simp [hb]) (by simp)
  | arm r hr hst ho hm hz hn =>
    exact .stands ⟨holdSet_map (fun x => by split <;> rfl) (fun x => by split <;> rfl) _, rfl, le_rfl⟩ fun _ => .inr hn
  | supply b ha => exact same rfl fun _ => ha
  | count => exact holds (holdSet_map Record.countDown_handle Record.countDown_cls _) rfl le_rfl id
  | mark b => exact holds (holdSet_map (fun x => by split <;> rfl) (fun x => by split <;> rfl) _) rfl le_rfl id
  | retire h hr hn hz =>
    obtain ⟨r, hmem, rfl, -⟩ := hr hso
    obtain ⟨b, hb⟩ := s.retire_records r.handle false
    refine .less ?_ (by simp) (.inr hn) (by simp)
    rw [hb, heardRecords_holdSet]
    exact heldAmount_othersThan_lt hmem
  | driveOff ha =>
    refine .less (State.driveOff_less hs.2 ha) ?_ (.inl ha) ?_
    · simp [State.driveOff]
    · simp [State.driveOff, Gate.idle]
  | fails reason ha =>
    obtain ⟨⟨hr, hn, ha'⟩, hg⟩ := s.gateCancel_stands
    have ht : (s.releaseFails reason).table = s.gateCancel.table := by
      rw [State.gateCancel, if_pos ha, State.releaseFails_table, State.releaseFails_table]
    exact holds (by rw [ht, hr]) (by rw [ht, hn]) (by rwa [ht]) (by simp [State.releaseFails, Gate.idle])
  | convert h hr hn =>
    obtain ⟨r, hmem, rfl, hlast⟩ := hr hso
    have hc : r.cls ≠ .park := by
      intro hp
      obtain ⟨-, -, -, -, -, hexp, -⟩ := hs.1.1 r hmem
      simp [Record.lastUnit, hexp (.inl hp)] at hlast
    rw [State.convertToPark_eq]
    refine .less ?_ (by simp [State.changed_table]) (.inr hn) (by simp)
    rw [State.raiseHolds_table, State.changed_table, heardRecords_holdSet]
    exact heldAmount_parked_lt hmem hc
  | opens make hm => exact .opens make hm
  | run loads fresh => exact holds (by simp) (by simp) (by simp) (by simp)
  | report => exact holds (by simp) (by simp) (by simp) (by simp)
  | _ => exact same rfl id

/-! ## The openings of a command -/

/-- Openings have been made since the handle counter stood at a value: it has moved on by some steps, and of these all but
the first few left a handle that a live record has; no gate is armed over the holds. -/
def State.openedSince (n : Nat) (s : State) : Prop :=
  s.gate.armed = false ∧
    ∃ d₀ ≤ 17, ∃ d > 0, s.table.nextHandle = handleAt n d ∧
      ∀ j, d₀ ≤ j → j < d → handleUsed s.table.records (handleAt n j) = true

theorem handleUsed_iff {records : List Record} {h : Nat} : handleUsed records h = true ↔ h ∈ records.map Record.handle := by
  simp [handleUsed]

/-- The counter does not come round to its start by a command's openings. -/
theorem State.openedSince_ne {n : Nat} (hs : s.table.sound) (hn : 1 ≤ n ∧ n ≤ 255) (h : s.openedSince n) :
    s.table.nextHandle ≠ n := by
  obtain ⟨-, d₀, hd₀, d, hd, hnext, hused⟩ := h
  obtain ⟨-, -, -, hlen, -⟩ := hs
  have hbound : ¬ d₀ + 17 ≤ d := by
    intro hle
    have hu : 17 ≤ s.table.records.length := by
      refine used_le_length (start := handleAt n d₀) (by omega) fun j hj => ?_
      have := hused (d₀ + j) (by omega) (by omega)
      rwa [show handleAt (handleAt n d₀) j = handleAt n (d₀ + j) by unfold handleAt; omega]
    omega
  rw [hnext]
  unfold handleAt
  omega

/-- The counter after an opening is some steps on, past handles that live records have (R5). -/
theorem HoldTable.sound_counter {x : HoldTable} (hx : x.sound) :
    ∃ k ≤ 16, x.newHandle = handleAt x.nextHandle k ∧ nextAfter x.newHandle = handleAt x.nextHandle (k + 1) ∧
      ∀ j < k, handleUsed x.records (handleAt x.nextHandle j) = true := by
  obtain ⟨-, -, hc, hlen, -⟩ := hx
  obtain ⟨k, hk, he, hused, -⟩ := HoldTable.newHandle_spec hc (by omega)
  refine ⟨k, by omega, he, ?_, hused⟩
  rw [he]
  unfold nextAfter handleAt
  split <;> omega

theorem State.openRecord_handles {make : Nat → Record} (hm : s.mayOpen make) :
    (s.openRecord make).handles = (notReleasing s.table.records).map Record.handle ++ [s.table.newHandle] := by
  unfold State.handles
  rw [State.openRecord_records, heardRecords_map _ (by simp)]
  simp [(State.mayOpen_place hm _).1]

/-- A first opening. -/
theorem State.openRecord_openedSince {make : Nat → Record} (hs : s.holdsSoundIf z) (hm : s.mayOpen make) :
    (s.openRecord make).openedSince s.table.nextHandle := by
  obtain ⟨k, hk, -, hnext, -⟩ := HoldTable.sound_counter hs.1
  refine ⟨by rw [(State.openRecord_gateSoundIf hs.2 hm).1]; rfl, k + 1, by omega, k + 1, by omega, ?_,
    fun j h1 h2 => by omega⟩
  rw [State.openRecord_nextHandle, hnext]

/-- A further opening. -/
theorem State.openedSince_open {n : Nat} {make : Nat → Record} (hs : s.holdsSoundIf z) (hm : s.mayOpen make)
    (h : s.openedSince n) : (s.openRecord make).openedSince n := by
  obtain ⟨hg, d₀, hd₀, d, hd, hnext, hused⟩ := h
  obtain ⟨k, hk, hnew, hafter, hskip⟩ := HoldTable.sound_counter hs.1
  have hstay : notReleasing s.table.records = s.table.records := notReleasing_eq_self (State.gateSoundIf_idle hs.2 hg).2
  have hadd : ∀ j, handleAt s.table.nextHandle j = handleAt n (d + j) := fun j => by
    rw [hnext]; unfold handleAt; omega
  refine ⟨by rw [(State.openRecord_gateSoundIf hs.2 hm).1]; rfl, d₀, hd₀, d + (k + 1), by omega, ?_, fun j h1 h2 => ?_⟩
  · rw [State.openRecord_nextHandle, hafter, hadd]
  · have hcases : handleUsed s.table.records (handleAt n j) = true ∨ handleAt n j = s.table.newHandle := by
      by_cases hjd : j < d
      · exact .inl (hused j h1 hjd)
      · obtain ⟨i, rfl⟩ : ∃ i, j = d + i := ⟨j - d, by omega⟩
        rw [← hadd]
        rcases Nat.lt_or_ge i k with hik | hik
        · exact .inl (hskip i hik)
        · exact .inr (by rw [hnew, show i = k by omega])
    rw [handleUsed_iff]
    show _ ∈ (s.openRecord make).handles
    rw [State.openRecord_handles hm, hstay]
    rcases hcases with h | h
    · exact List.mem_append_left _ (handleUsed_iff.1 h)
    · simp [h]

/-! ## A chain of moves -/

/-- What a chain that does not lower A has made of a state: the holds stand and A is no lower, less is held, or holds have
been opened. -/
def State.ratchets (L : Licence) (s t : State) : Prop :=
  (s.stands t ∧ (t.gate.armed = true → s.gate.armed = true ∨ L.counter s.table.nextHandle)) ∨
    (heldAmount (holdSet t.table.records) < heldAmount (holdSet s.table.records) ∧
      t.table.nextHandle = s.table.nextHandle ∧ (s.gate.armed = true ∨ L.counter s.table.nextHandle)) ∨
    t.openedSince s.table.nextHandle

theorem State.openedSince_of_eq {n : Nat} (hh : t.handles = s.handles) (hn : t.table.nextHandle = s.table.nextHandle)
    (hg : t.gate.armed = true → s.gate.armed = true) (h : s.openedSince n) : t.openedSince n := by
  obtain ⟨ha, d₀, hd₀, d, hd, hnext, hused⟩ := h
  refine ⟨Bool.eq_false_iff.2 fun hc => by simp [hg hc] at ha, d₀, hd₀, d, hd, hn.trans hnext, fun j h1 h2 => ?_⟩
  rw [handleUsed_iff]
  show _ ∈ t.handles
  rw [hh]
  exact handleUsed_iff.1 (hused j h1 h2)

theorem State.ratchets_trans (hs : s.table.sound) (hc : ∀ n, L.counter n → n = s.table.nextHandle) (ht : t.holdsSoundIf z)
    (h : s.ratchets L t) (hu : State.Turns L t u) : s.ratchets L u := by
  have hrange := hs.2.2.1
  rcases h with ⟨⟨hh, hn, ha⟩, hg⟩ | ⟨hless, hn, hmay⟩ | hop
  · cases hu with
    | stands hst hg' =>
      obtain ⟨hh', hn', ha'⟩ := hst
      exact .inl ⟨⟨hh'.trans hh, hn'.trans hn, ha.trans ha'⟩, fun hu => (hg' hu).elim hg fun hc' => .inr (hn ▸ hc')⟩
    | less hless hn' hmay hg' =>
      exact .inr (.inl ⟨hh ▸ hless, hn'.trans hn, hmay.elim hg fun hc' => .inr (hn ▸ hc')⟩)
    | opens make hm => exact .inr (.inr (hn ▸ State.openRecord_openedSince ht hm))
  · cases hu with
    | stands hst hg' =>
      obtain ⟨hh', hn', -⟩ := hst
      exact .inr (.inl ⟨hh' ▸ hless, hn'.trans hn, hmay⟩)
    | less hless' hn' hmay' hg' => exact .inr (.inl ⟨hless'.trans hless, hn'.trans hn, hmay⟩)
    | opens make hm => exact .inr (.inr (hn ▸ State.openRecord_openedSince ht hm))
  · have hnot : ¬(t.gate.armed = true ∨ L.counter t.table.nextHandle) := by
      rintro (h | h)
      · simp [hop.1] at h
      · exact State.openedSince_ne ht.1 hrange hop (hc _ h)
    refine .inr (.inr ?_)
    cases hu with
    | stands hst hg' =>
      obtain ⟨hh', hn', -⟩ := hst
      exact State.openedSince_of_eq (State.handles_eq_of_holdSet hh') hn' (fun h => absurd (hg' h) hnot) hop
    | less hless hn' hmay hg' => exact absurd hmay hnot
    | opens make hm => exact State.openedSince_open ht hm hop

theorem Moves.ratchets (hl : ¬L.lowers) (hso : L.sound) (hd : z → ¬L.dozes) (hc : ∀ n, L.counter n → n = s.table.nextHandle)
    (hs : s.holdsSoundIf z) (h : Moves L s t) : s.ratchets L t := by
  have hkeep : t.holdsSoundIf z ∧ s.ratchets L t := by
    refine h.keep (P := fun u => u.holdsSoundIf z ∧ s.ratchets L u) ?_ ⟨hs, .inl ⟨⟨rfl, rfl, le_rfl⟩, .inl⟩⟩
    rintro u v ⟨hu, hr⟩ hm
    exact ⟨hm.keeps_holdsSoundIf hd hso hu, State.ratchets_trans hs.1 hc hu hr (hm.turns hl hso hu)⟩
  exact hkeep.2

/-- A chain of moves that leaves the holds and the counter as they were leaves A no lower. -/
theorem State.ratchets_applied (hs : s.table.sound) (ht : t.table.sound) (h : s.ratchets L t)
    (hh : holdSet t.table.records = holdSet s.table.records) (hn : t.table.nextHandle = s.table.nextHandle) :
    s.table.applied ≤ t.table.applied := by
  rcases h with ⟨⟨-, -, ha⟩, -⟩ | ⟨hless, -⟩ | hop
  · exact ha
  · rw [hh] at hless
    exact absurd hless (lt_irrefl _)
  · exact absurd hn (State.openedSince_ne ht hs.2.2.1 hop)

/-- Where nothing may be released, retired or converted, the holds and the counter stand together. -/
theorem State.ratchets_holdSet (hs : s.table.sound) (ht : t.table.sound) (h : s.ratchets L t)
    (hg : s.gate.armed = false) (hc : ¬L.counter s.table.nextHandle) (hn : t.table.nextHandle = s.table.nextHandle) :
    holdSet t.table.records = holdSet s.table.records := by
  rcases h with ⟨⟨hh, -⟩, -⟩ | ⟨-, -, hmay⟩ | hop
  · exact hh
  · exact absurd hmay (by simp [hg, hc])
  · exact absurd hn (State.openedSince_ne ht hs.2.2.1 hop)

/-- The parts of a command are a chain, its retries of the pendant allowed. -/
theorem Acts.moves (hw : L.wants) (hl : L.sleeps) (h : Acts L s t) : Moves L s t :=
  h.keep (P := fun u => Moves L s u) hw hl (fun hu hm => hu.tail hm) .refl

/-- A chain of parts that does not lower A leaves it no lower where the holds and the counter stand. -/
theorem Acts.applied_le (hl : ¬L.lowers) (hso : L.sound) (hc : ∀ n, L.counter n → n = s.table.nextHandle)
    (hs : s.holdsSound) (h : Acts L s t) (hh : holdSet t.table.records = holdSet s.table.records)
    (hn : t.table.nextHandle = s.table.nextHandle) : s.table.applied ≤ t.table.applied := by
  have hL : L.within { L with wants := True, sleeps := True } := ⟨id, fun _ => trivial, id, id, fun _ => trivial, id, id, fun _ => id⟩
  have hm : Moves { L with wants := True, sleeps := True } s t := (h.mono hL).moves trivial trivial
  have hif : s.holdsSoundIf False := State.holdsSound_if hs
  have ht : t.holdsSoundIf False :=
    Moves.keep (L := { L with wants := True, sleeps := True }) (P := State.holdsSoundIf False) (fun hu hmv => Move.keeps_holdsSoundIf (L := { L with wants := True, sleeps := True }) False.elim hso hu hmv) hm hif
  exact State.ratchets_applied hs.1 ht.1 
    (Moves.ratchets (L := { L with wants := True, sleeps := True }) hl hso False.elim hc hif hm) hh hn

/-! ## AMEND HOLD -/

/-- An amend of a class changes the holds. -/
theorem State.changed_holdSet_ne {r : Record} {f : Record → Record} (hs : s.table.sound) (hr : r ∈ s.table.records)
    (hf : (f r).cls ≠ r.cls) (hh : (f r).handle = r.handle) :
    holdSet (s.changed r.handle f).table.records ≠ holdSet s.table.records := by
  intro he
  rw [State.changed_table, heardRecords_holdSet] at he
  have hin : (r.handle, (f r).cls) ∈ holdSet (updateRecord s.table.records r.handle f) :=
    List.mem_map.2 ⟨f r, mem_updateRecord_self hr, by rw [hh]⟩
  rw [he] at hin
  obtain ⟨x, hx, hxe⟩ := List.mem_map.1 hin
  simp only [Prod.mk.injEq] at hxe
  obtain ⟨hxh, hxc⟩ := hxe
  rw [HoldTable.sound_unique hs hx hr hxh] at hxc
  exact hf hxc.symm

/-- An amend that leaves the class leaves the holds. -/
theorem State.changing_holdSet {r : Record} {f : Record → Record} (hs : s.table.sound) (hr : r ∈ s.table.records)
    (hf : (f r).cls = r.cls) (hh : (f r).handle = r.handle) :
    holdSet (s.changing r.handle f).table.records = holdSet s.table.records := by
  unfold holdSet State.changing updateRecord
  rw [State.withTable_table, List.map_map]
  refine List.map_congr_left fun x hx => ?_
  by_cases he : x.handle = r.handle
  · obtain rfl := HoldTable.sound_unique hs hx hr he
    simp [hf, hh]
  · simp [he]

/-- A request wakes the part, puts it to sleep or is refused MODE, which are parts of a command; or its own rule is taken. -/
theorem request_cases {r : Request} {own : State → State}
    (hw : s.ctl.mode = .sleep → L.wakes ∧ L.counter s.table.nextHandle) :
    Acts L s (s.request r own) ∨
      ∃ u : State, (u = s ∨ u = s.withCtl { s.ctl with sleepPending := false }) ∧ s.request r own = own u := by
  unfold State.request State.exchange
  split
  · exact .inl .refl
  · split
    · rename_i hm
      exact .inl (acts_wakeUp hm (hw hm))
    · split
      · split
        · rename_i hc
          exact .inl (Act.slept hc).chain
        · beta_reduce
          split
          · exact .inr ⟨_, .inr rfl, rfl⟩
          · exact .inl (acts_plain ((moves_ctl { s.ctl with sleepPending := false } rfl rfl).trans (moves_refuse _ _)) rfl)
      · beta_reduce
        split
        · exact .inr ⟨_, .inl rfl, rfl⟩
        · exact .inl (acts_refuse _ _)

/-- An amend leaves A no lower where the holds and the counter stand: a class amended is another hold set, and a class kept
leaves A. -/
theorem State.amend_applied {r : Record} {cls : HoldClass} {act : ExpiryAction} {code : Byte} {bytes : List Byte}
    (hs : s.holdsSound) (hm : s.mayAmend r cls act) (ht : t = State.conclude s ((s.amend r cls act).done code bytes))
    (hh : holdSet t.table.records = holdSet s.table.records) (hn : t.table.nextHandle = s.table.nextHandle) :
    s.table.applied ≤ t.table.applied := by
  subst ht
  let L : Licence := ⟨True, True, False, True, True, True, True, fun _ => False⟩
  have hif : (s.amend r cls act).holdsSoundIf False :=
    (Move.amend (L := .law True True) r cls act trivial hm).keeps_holdsSoundIf False.elim trivial (State.holdsSound_if hs)
  have hmoves : Moves L (s.amend r cls act) (State.conclude s ((s.amend r cls act).done code bytes)) :=
    (moves_done _ _).trans (moves_conclude trivial s)
  have hrat := hmoves.ratchets (z := False) id trivial False.elim (fun _ => False.elim) hif
  have hend := hmoves.keep (P := State.holdsSoundIf False)
    (fun hu hmv => hmv.keeps_holdsSoundIf False.elim trivial hu) hif
  have hgate : (s.amend r cls act).gate.armed = false := by
    rw [State.amend_gate, (State.gateSoundIf_over (z := False) (State.holdsSound_if hs).2 hm.1 hm.2.2.2.1).1]
    rfl
  have hnext : (s.amend r cls act).table.nextHandle = s.table.nextHandle := by
    rw [State.amend_eq]
    split
    · rw [State.changed_table]
    · rfl
  have hstand := State.ratchets_holdSet hif.1 hend.1 hrat hgate id (hn.trans hnext.symm)
  by_cases hcls : cls = r.cls
  · have happ : (s.amend r cls act).table.applied = s.table.applied := by
      rw [State.amend_eq, if_neg (by simp [hcls])]
      rfl
    rw [← happ]
    exact State.ratchets_applied hif.1 hend.1 hrat hstand (hn.trans hnext.symm)
  · rw [hh, State.amend_eq, if_pos (by simpa using hcls)] at hstand
    exact absurd hstand.symm (State.changed_holdSet_ne hs.1 hm.1 hcls rfl)

theorem State.amendHoldRule_applied {b : Byte} {h : Nat} {k : Option HoldClass} {a : Option ExpiryAction}
    (hs : s.holdsSound) (ht : t = s.amendHoldRule (requestOwner b) h k a)
    (hh : holdSet t.table.records = holdSet s.table.records) (hn : t.table.nextHandle = s.table.nextHandle) :
    s.table.applied ≤ t.table.applied := by
  unfold State.amendHoldRule at ht
  split at ht
  · subst ht
    exact le_rfl
  · rename_i r cls act hc
    exact State.amend_applied hs (State.amendHoldCheck_inr hc).2 ht hh hn

/-! ## O35 -/

/-- Settles O35: AMEND HOLD apart, a command is moves none of which lowers A. -/
theorem appliedForceRatchets : Obligations.AppliedForceRatchets := by
  intro i s t hs h hrelief hreset hpower hh hn
  by_cases ha : ∃ owner handle cls action value, i = .amendHold owner handle cls action value
  · obtain ⟨owner, handle, cls, action, value, rfl⟩ := ha
    obtain rfl : t = s.request .amendHold fun u =>
        u.amendHoldRule (requestOwner owner) handle.toNat (classOf cls) (expiryActionOf action value) := by
      cases h; rfl
    let L : Licence := ⟨True, True, False, True, True, True, True, fun n => n = s.table.nextHandle⟩
    rcases request_cases (L := L) (r := .amendHold)
      (own := fun u => u.amendHoldRule (requestOwner owner) handle.toNat (classOf cls) (expiryActionOf action value))
      (fun _ => ⟨trivial, rfl⟩) with hacts | ⟨u, hu, he⟩
    · exact hacts.applied_le id trivial (fun _ => id) hs hh hn
    · have hsu : u.holdsSound ∧ u.table = s.table := by
        rcases hu with rfl | rfl
        · exact ⟨hs, rfl⟩
        · exact ⟨hs, rfl⟩
      rw [← hsu.2] at hh hn ⊢
      exact State.amendHoldRule_applied hsu.1 he hh hn
  · refine (exec_acts hreset hpower h).applied_le ?_ hs (fun _ => id) hs hh hn
    rintro (hl | hl)
    · exact hrelief hl
    · exact ha hl

end Sys2Proof.Machine

/-! # O3, O4, O5: idling and the reset state -/

namespace Sys2Proof.Machine

variable {s t : State}

/-! ## One tick -/

theorem Channel.movesTo_tick (x : Channel) : x.movesTo x.tick :=
  ⟨x.window.movesTo_tick, x.drift.movesTo_tick, x.spring.movesTo_tick, x.mismatch.movesTo_tick, leftAfter_countDown x.pwm, rfl⟩

theorem Line.movesTo_tick (x : Line) : x.movesTo x.tick := ⟨x.debounce.movesTo_tick, rfl⟩

/-- The release timer of a gate that is armed and not suspended is one tick less, and no other moves (R111). -/
theorem Gate.tick_spec (g : Gate) :
    g.tick = { g with remaining := g.tick.remaining } ∧
      (g.armed = true → g.supplyCause = false → g.modeCause = false → leftAfter g.remaining g.tick.remaining) ∧
      (g.armed = false ∨ g.supplyCause = true ∨ g.modeCause = true → g.tick.remaining = g.remaining) := by
  unfold Gate.tick
  split
  · rename_i h
    simp only [Gate.suspended, Bool.and_eq_true, Bool.not_eq_true', Bool.or_eq_false_iff] at h
    obtain ⟨ha, hs, hm⟩ := h
    exact ⟨rfl, fun _ _ _ => leftAfter_countDown _, by simp [ha, hs, hm]⟩
  · rename_i h
    exact ⟨rfl, fun ha hs hm => absurd (by simp [Gate.suspended, ha, hs, hm]) h, fun _ => rfl⟩

theorem State.movesTo_advance (s : State) : s.movesTo s.advance := by
  obtain ⟨hgate, hrun, hstand⟩ := s.gate.tick_spec
  refine ⟨?_, s.link.rollawayDeadline.movesTo_tick, s.link.shortDeadline.movesTo_tick, s.table.relief.movesTo_tick,
    s.meas.driveAge.movesTo_tick, s.meas.sampleTimer.movesTo_tick, fun c => ?_, hrun, hstand,
    ⟨s.mon.standstill.movesTo_tick, leftAfter_countDown s.mon.moving, s.mon.watchAfter.movesTo_tick,
      s.mon.seatTimer.movesTo_tick, s.mon.autopark.movesTo_tick, s.mon.train.movesTo_tick, ?_, ?_⟩,
    ⟨s.lines.seat.movesTo_tick, s.lines.door.movesTo_tick, s.lines.lift1.movesTo_tick, s.lines.lift2.movesTo_tick,
      s.lines.pairDebounce.movesTo_tick, rfl, rfl, rfl⟩, s.ctl.timer.movesTo_tick, ?_, ?_⟩
  · have hbeat : (if s.awake then s.table.beat + 1 else s.table.beat) =
        if s.ctl.mode = .sleep then s.table.beat else s.table.beat + 1 := by
      by_cases hm : s.ctl.mode = .sleep <;> simp [State.awake, hm]
    unfold State.advance
    rw [← hbeat, ← hgate]
    rfl
  · simpa [State.advance] using (s.chans.get c).movesTo_tick
  · intro n hn
    simp [State.advance, Monitor.tick, hn, Warn.tick, warnPeriod, Config.ms, Config.ticksPerMs]
  · intro hn
    cases hw : s.mon.warn with
    | pulse n => exact absurd hw (hn n)
    | off => simp [State.advance, Monitor.tick, hw, Warn.tick]
    | steady => simp [State.advance, Monitor.tick, hw, Warn.tick]
  · intro n hn
    simp [State.advance, hn, Clock.tick]
  · intro hn
    cases hc : s.ctl.clock with
    | measuring n => exact absurd hc (hn n)
    | stopped => simp [State.advance, hc, Clock.tick]
    | failed => simp [State.advance, hc, Clock.tick]

/-- A tick leaves the outputs (R80, R84). -/
theorem State.advance_drives (s : State) (c : Chan) :
    s.advance.serviceDrive c = s.serviceDrive c ∧ s.advance.springDrive c = s.springDrive c := by
  have hforced : s.advance.forced = s.forced := by
    have hclock : (s.ctl.clock.tick == Clock.failed) = (s.ctl.clock == Clock.failed) := by
      cases s.ctl.clock <;> rfl
    simp [State.advance, State.forced, hclock]
  have hchan : s.advance.chans.get c = (s.chans.get c).tick := by simp [State.advance]
  unfold State.serviceDrive State.springDrive
  rw [hforced, hchan]
  exact ⟨rfl, rfl⟩

/-- Settles O3: a step without a command is the idle step, whose due events join the queue in an arrangement of their own. -/
theorem idleQueuesWhatIsDueOrTicks : Obligations.IdleQueuesWhatIsDueOrTicks := by
  intro s hq
  have hstep : step s = .next s.idle := by rw [step, hq]
  refine ⟨fun hp => ?_, fun hp hd => ?_, fun hp hd => ?_⟩
  · rw [hstep, State.idle, if_pos (by simp [hp])]
  · refine ⟨arrange s.freeCount s.dueEvents, arrange_perm _ _, ?_⟩
    rw [hstep, State.idle, if_neg (by simp [hp])]
    cases he : s.dueEvents with
    | nil => exact absurd he hd
    | cons i is => rfl
  · refine ⟨s.advance, ?_, s.movesTo_advance, rfl, hq, rfl, rfl, rfl, rfl, rfl, rfl, rfl, rfl, rfl, s.advance_drives⟩
    rw [hstep, State.idle, if_neg (by simp [hp]), hd]

/-! ## The reset state -/

/-- Settles O4: the reset state is concrete, and each law is decided of it. -/
theorem resetKeepsTheLaws : Obligations.ResetKeepsTheLaws := by
  unfold Obligations.ResetKeepsTheLaws
  refine ⟨?_, ?_, ?_, ?_, ?_, ?_, ?_, ?_, ?_, ?_, ?_, ?_, ?_, ?_⟩
  · unfold State.holdsSound State.gateSound HoldTable.sound withinLimits Record.sound
    decide
  · unfold State.forcesSound coversFloors
    decide
  · unfold State.distSound Command.sound State.memberSound
    decide +kernel
  · unfold State.springsSound State.latchSound State.memberSound State.parkPlaced
    decide +kernel
  · unfold State.controlSound Control.sound
    simp [State.reset]
  · unfold Store.sound
    decide
  · unfold State.figuresSound Measure.gradeSound
    decide +kernel
  · unfold State.referenceSound Wheel.sound
    decide +kernel
  · unfold State.warnSound
    simp [State.reset]
  · unfold Answer.sound
    simp [State.reset, Answer.idle]
  · unfold State.reportSound
    decide +kernel
  · exact nofun
  · unfold State.pendantSettled
    decide
  · unfold State.sleepSound Line.atRest
    decide

end Sys2Proof.Machine

/-! # O9, O12, O13, O14: what the requests of the link answer -/

namespace Sys2Proof.Machine

variable {s t : State}

/-! ## Requests that are refused MODE, and requests that their rule answers -/

/-- A request outside its modes is refused MODE, and nothing else changes (R148). -/
theorem exec_refused_mode {i : Instr} {r : Request} {own : State → State} (h : s.takes)
    (hi : exec i s = .next (s.request r own)) (ha : r.admitted s.ctl.mode = false) :
    exec i s = .next (s.withSlot (refusedAnswer r.code .mode)) := by
  rw [hi, State.request_takes h, if_neg (by simp [ha])]
  rfl

/-- A request that the mode admits is answered by its own rule. -/
theorem exec_own {i : Instr} {r : Request} {own : State → State} (h : s.takes)
    (hi : exec i s = .next (s.request r own)) (ha : r.admitted s.ctl.mode = true) : exec i s = .next (own s) := by
  rw [hi, State.request_takes h, if_pos ha]

theorem State.openHoldRule_mode (h : s.ctl.mode ≠ .run) (o : Option Owner) (k : Option HoldClass) (tag : Option Byte)
    (e : Option Nat) : s.openHoldRule o k tag e = s.refuse 0x20 .mode := by
  simp [State.openHoldRule, State.openHoldRefusal, h]

theorem State.amendHoldRule_mode (h : s.ctl.mode ≠ .run) (o : Option Owner) (n : Nat) (k : Option HoldClass)
    (a : Option ExpiryAction) : s.amendHoldRule o n k a = s.refuse 0x21 .mode := by
  simp [State.amendHoldRule, State.amendHoldCheck, h]

theorem State.releaseHoldRule_mode (h : s.ctl.mode ≠ .run) (o : Option Owner) (n : Nat) :
    s.releaseHoldRule o n = s.refuse 0x22 .mode := by
  simp [State.releaseHoldRule, State.releaseHoldCheck, h]

/-- Settles O14, by the admission table row by row; OPEN, AMEND and RELEASE HOLD and CHANNEL RESTORE are admitted to their own
checks in START and RETRY, the first of which asks for RUN. -/
theorem modeRefuses : Obligations.ModeRefuses := by
  intro s o h k g a b c x ht
  have closed (r : Request) {i : Instr} {own : State → State} (hi : exec i s = .next (s.request r own))
      (ha : r.admitted s.ctl.mode = false) : exec i s = .next (s.withSlot (refusedAnswer r.code .mode)) :=
    exec_refused_mode ht hi ha
  have asksRun (r : Request) {i : Instr} {own : State → State} (hi : exec i s = .next (s.request r own))
      (ha : r.admitted s.ctl.mode = true) (hown : own s = s.refuse r.code .mode) :
      exec i s = .next (s.withSlot (refusedAnswer r.code .mode)) := by
    rw [exec_own ht hi ha, hown]
    rfl
  refine ⟨fun hm p hp => ?_, fun hm p hp => ?_, fun hm => ?_, fun hm p hp => ?_⟩
  · have hno : ∀ r : Request, r.admitted .degraded = false → r.admitted .safe = false → r.admitted s.ctl.mode = false := by
      rcases hm with h | h <;> rw [h] <;> simp_all
    simp only [List.mem_cons, List.not_mem_nil, or_false] at hp
    rcases hp with rfl | rfl | rfl | rfl | rfl | rfl | rfl | rfl | rfl | rfl
    · exact closed .noticeMask rfl (hno _ rfl rfl)
    · exact closed .sleep rfl (hno _ rfl rfl)
    · exact closed .openHold rfl (hno _ rfl rfl)
    · exact closed .amendHold rfl (hno _ rfl rfl)
    · exact closed .releaseHold rfl (hno _ rfl rfl)
    · exact closed .driveState rfl (hno _ rfl rfl)
    · exact closed .drumState rfl (hno _ rfl rfl)
    · exact closed .channelRestore rfl (hno _ rfl rfl)
    · exact closed .profileWrite rfl (hno _ rfl rfl)
    · exact closed .profileCommit rfl (hno _ rfl rfl)
  · simp only [List.mem_cons, List.not_mem_nil, or_false] at hp
    rcases hp with rfl | rfl | rfl
    · exact closed .keepalive rfl (by rw [hm]; rfl)
    · exact closed .resync rfl (by rw [hm]; rfl)
    · exact closed .reset rfl (by rw [hm]; rfl)
  · exact closed .resync rfl (by simpa [Request.admitted] using hm)
  · have hrun : s.ctl.mode ≠ .run := by rcases hm with h | h <;> simp [h]
    have hno : ∀ r : Request, r.admitted .start = false → r.admitted .retry = false → r.admitted s.ctl.mode = false := by
      rcases hm with h | h <;> rw [h] <;> simp_all
    have hyes : ∀ r : Request, r.admitted .start = true → r.admitted .retry = true → r.admitted s.ctl.mode = true := by
      rcases hm with h | h <;> rw [h] <;> simp_all
    simp only [List.mem_cons, List.not_mem_nil, or_false] at hp
    rcases hp with rfl | rfl | rfl | rfl | rfl | rfl
    · exact closed .sleep rfl (hno _ rfl rfl)
    · exact closed .reset rfl (hno _ rfl rfl)
    · exact asksRun .openHold rfl (hyes _ rfl rfl) (State.openHoldRule_mode hrun _ _ _ _)
    · exact asksRun .amendHold rfl (hyes _ rfl rfl) (State.amendHoldRule_mode hrun _ _ _ _)
    · exact asksRun .releaseHold rfl (hyes _ rfl rfl) (State.releaseHoldRule_mode hrun _ _)
    · exact asksRun .channelRestore rfl (hyes _ rfl rfl) (if_pos hrun)

/-! ## Quantities as bytes (R173) -/

theorem byteOf_toNat (n : Nat) : (byteOf n).toNat = n % 256 := by simp [byteOf]

theorem byteOf_toNat_of_lt {n : Nat} (h : n ≤ 255) : (byteOf n).toNat = n := by rw [byteOf_toNat]; omega

/-- Two bytes are the quantity's sixteen bits. -/
theorem byteOf_append_two (n : Nat) : byteOf (n / 256) ++ byteOf n = BitVec.ofNat 16 n := by
  apply BitVec.eq_of_toNat_eq
  rw [BitVec.toNat_append, byteOf_toNat, byteOf_toNat, BitVec.toNat_ofNat, ← Nat.shiftLeft_add_eq_or_of_lt (by omega),
    Nat.shiftLeft_eq]
  omega

/-- Three bytes are the quantity's twenty-four bits. -/
theorem byteOf_append_three (n : Nat) : byteOf (n / 65536) ++ byteOf (n / 256) ++ byteOf n = BitVec.ofNat 24 n := by
  apply BitVec.eq_of_toNat_eq
  rw [BitVec.toNat_append, BitVec.toNat_append, byteOf_toNat, byteOf_toNat, byteOf_toNat, BitVec.toNat_ofNat,
    ← Nat.shiftLeft_add_eq_or_of_lt (by omega), ← Nat.shiftLeft_add_eq_or_of_lt (by omega), Nat.shiftLeft_eq,
    Nat.shiftLeft_eq]
  omega

/-- The two bytes of a word are the word. -/
theorem byteOf_append_word (w : Word16) : byteOf (w.toNat / 256) ++ byteOf w.toNat = w := by
  rw [byteOf_append_two]
  simp

/-! ## STATUS -/

/-- The byte of the mode, the degradation count and the two flags tells each of them (R189). -/
theorem modeByte_tells (m : Mode) (d : Fin 4) (a b : Bool) :
    let x := m.code ||| (byteOf d.val <<< 3) ||| flagBit a 5 ||| flagBit b 6
    x.extractLsb' 0 3 = m.code.extractLsb' 0 3 ∧ (x.extractLsb' 3 2).toNat = d.val ∧ x.getLsbD 5 = a ∧ x.getLsbD 6 = b ∧
      x.getLsbD 7 = false := by
  revert d a b
  cases m <;> decide

/-- The byte of the number of records and SHORT tells both (R189). -/
theorem countByte_tells (n : Fin 17) (k : Option ShortKind) :
    let x := byteOf n.val ||| (shortCode k <<< 5)
    (x.extractLsb' 0 5).toNat = n.val ∧ x.extractLsb' 5 3 = (shortCode k).extractLsb' 0 3 := by
  revert n
  rcases k with _ | k
  · decide
  · cases k <;> decide

theorem Link.isPending_rollaway (l : Link) : l.isPending .rollaway = l.pending.getLsbD 1 := by
  have h : ∀ p : Byte, (p &&& 2 != 0) = p.getLsbD 1 := by decide +kernel
  exact h l.pending

theorem Link.isPending_short (l : Link) : l.isPending .short = l.pending.getLsbD 2 := by
  have h : ∀ p : Byte, (p &&& 4 != 0) = p.getLsbD 2 := by decide +kernel
  exact h l.pending

/-- A STATUS collects the notices it reported, and marks a ROLLAWAY record where that was one of them (R18, R186). -/
theorem State.collect_eq (s : State) :
    s.collect =
      { s with
        link :=
          { s.link with
            pending := 0
            rollawayDeadline := if s.link.pending.getLsbD 1 then .stopped else s.link.rollawayDeadline
            shortDeadline := if s.link.pending.getLsbD 2 then .stopped else s.link.shortDeadline }
        table :=
          { s.table with
            records :=
              if s.link.pending.getLsbD 1 then
                s.table.records.map fun r => if r.cause = some .rollaway then { r with collected := true } else r
              else s.table.records } } := by
  have hroll : ∀ r : Record, r.isRollaway = true ↔ r.cause = some .rollaway := fun r => by simp [Record.isRollaway]
  unfold State.collect
  simp only [Link.isPending_rollaway, Link.isPending_short]
  cases s.link.pending.getLsbD 1
  · rfl
  · simp only [if_true, State.markCollected, hroll]
    rfl

/-- Settles O9: the payload is the snapshot's bytes, and what follows it is the collection. -/
theorem statusCollects : Obligations.StatusCollects := by
  intro s ht hdeg hlen happ hlast
  let m : Byte := s.ctl.mode.code ||| (byteOf s.ctl.degradations <<< 3) ||| flagBit s.mon.tractionLost 5 |||
    flagBit s.store.invalid 6
  let n : Byte := byteOf s.table.records.length ||| (shortCode s.dist.short <<< 5)
  obtain ⟨hmode, hcount, htraction, hinvalid, hzero⟩ :=
    modeByte_tells s.ctl.mode ⟨s.ctl.degradations, by omega⟩ s.mon.tractionLost s.store.invalid
  obtain ⟨hrecords, hshort⟩ := countByte_tells ⟨s.table.records.length, by omega⟩ s.dist.short
  refine ⟨m, n, byteOf (s.table.applied / 65536), byteOf (s.table.applied / 256), byteOf s.table.applied,
    byteOf s.link.lastHandle, ?_, fun h => ?_, fun h => ?_, fun h => ?_, fun h => ?_, fun h => ?_, hcount, htraction,
    hinvalid, hzero, hrecords, fun h => ?_, fun h => ?_, fun h => ?_, ?_, byteOf_toNat_of_lt hlast⟩
  · rw [exec_own (r := .status) ht rfl rfl, State.collect_eq]
    rfl
  · exact hmode.trans (by rw [h]; rfl)
  · exact hmode.trans (by rw [h]; rfl)
  · exact hmode.trans (by rw [h]; rfl)
  · exact hmode.trans (by rw [h]; rfl)
  · exact hmode.trans (by rw [h]; rfl)
  · exact hshort.trans (by rw [h]; rfl)
  · exact hshort.trans (by rw [h]; rfl)
  · exact hshort.trans (by rw [h]; rfl)
  · simp only [byteOf_toNat]
    omega

end Sys2Proof.Machine

/-! # O12 and O13: the requests that read -/

namespace Sys2Proof.Machine

variable {s t : State}

/-! ## READ HOLD and LIST HOLDS -/

theorem State.readHold_noSuch (h : Byte) (hn : h = 0 ∨ ∀ r ∈ s.table.records, r.handle ≠ h.toNat) (ht : s.takes) :
    exec (.readHold h) s = .next (s.withSlot (refusedAnswer 0x23 .noSuch)) := by
  rw [exec_own (r := .readHold) ht rfl rfl]
  rcases hn with rfl | hn
  · split <;> rfl
  · have hnone : s.record h.toNat = none := by simpa [State.record] using hn
    rw [hnone]
    rfl

theorem State.listHolds_field (n : Byte) (hn : 15 < n.toNat) (ht : s.takes) :
    exec (.listHolds n) s = .next (s.withSlot (refusedAnswer 0x24 .field)) := by
  rw [exec_own (r := .listHolds) ht rfl rfl, if_pos hn]
  rfl

theorem State.listHolds_past (n : Byte) (hn : n.toNat ≤ 15) (hl : s.table.records.length ≤ n.toNat) (ht : s.takes) :
    exec (.listHolds n) s = .next (s.withSlot (doneAnswer 0x24 [BitVec.ofNat 8 s.table.records.length])) := by
  have hnone : s.table.records[n.toNat]? = none := List.getElem?_eq_none hl
  have hnone' : s.table.records[n.toNat + 1]? = none := List.getElem?_eq_none (by omega)
  rw [exec_own (r := .listHolds) ht rfl rfl, if_neg (by omega), State.summary, State.summary, hnone, hnone']
  rfl

/-! ## READ MEASURE -/

/-- A page of READ MEASURE is answered with its eight bytes. -/
theorem State.readMeasure_page {p : Byte} {bytes : List Byte} (hp : s.measurePage p = some bytes) (ht : s.takes) :
    exec (.readMeasure p) s = .next (s.withSlot (doneAnswer 0x32 bytes)) := by
  rw [exec_own (r := .readMeasure) ht rfl rfl, hp]
  rfl

theorem State.readMeasure_field (p : Byte) (hp : 3 < p.toNat) (ht : s.takes) :
    exec (.readMeasure p) s = .next (s.withSlot (refusedAnswer 0x32 .field)) := by
  have hnone : s.measurePage p = none := by
    unfold State.measurePage
    split
    case h_5 => rfl
    all_goals omega
  rw [exec_own (r := .readMeasure) ht rfl rfl, hnone]
  rfl

theorem signed_append_two (n : Int) :
    byteOf ((BitVec.ofInt 16 n).toNat / 256) ++ byteOf (BitVec.ofInt 16 n).toNat = BitVec.ofInt 16 n :=
  byteOf_append_word _

/-- Five flags in a byte, each at its bit. -/
theorem flagBits_five (a b c d e : Bool) :
    let x : Byte := flagBit a 0 ||| flagBit b 1 ||| flagBit c 2 ||| flagBit d 3 ||| flagBit e 4
    x.getLsbD 0 = a ∧ x.getLsbD 1 = b ∧ x.getLsbD 2 = c ∧ x.getLsbD 3 = d ∧ x.getLsbD 4 = e ∧ x.extractLsb' 5 3 = 0 := by
  revert a b c d e
  decide

/-- Six flags in a byte, and two more above them, each at its bit. -/
theorem flagBits_eight (f : Fin 6 → Bool) (a b : Bool) :
    let x : Byte := 0 ||| flagBit (f 0) 0 ||| flagBit (f 1) 1 ||| flagBit (f 2) 2 ||| flagBit (f 3) 3 ||| flagBit (f 4) 4 |||
      flagBit (f 5) 5 ||| flagBit a 6 ||| flagBit b 7
    (∀ n : Fin 6, x.getLsbD n.val = f n) ∧ x.getLsbD 6 = a ∧ x.getLsbD 7 = b := by
  revert a b
  have : ∀ b0 b1 b2 b3 b4 b5 a b : Bool,
      let x : Byte := 0 ||| flagBit b0 0 ||| flagBit b1 1 ||| flagBit b2 2 ||| flagBit b3 3 ||| flagBit b4 4 |||
        flagBit b5 5 ||| flagBit a 6 ||| flagBit b 7
      (x.getLsbD 0 = b0 ∧ x.getLsbD 1 = b1 ∧ x.getLsbD 2 = b2 ∧ x.getLsbD 3 = b3 ∧ x.getLsbD 4 = b4 ∧ x.getLsbD 5 = b5) ∧
        x.getLsbD 6 = a ∧ x.getLsbD 7 = b := by decide +kernel
  intro a b
  obtain ⟨⟨h0, h1, h2, h3, h4, h5⟩, ha, hb⟩ := this (f 0) (f 1) (f 2) (f 3) (f 4) (f 5) a b
  refine ⟨fun n => ?_, ha, hb⟩
  fin_cases n
  · exact h0
  · exact h1
  · exact h2
  · exact h3
  · exact h4
  · exact h5

theorem Sensor.isInvalid_iff (x : Sensor) : x.isInvalid = true ↔ ∃ m, x = .invalid m := by
  cases x <;> simp [Sensor.isInvalid]

theorem Sensor.value_isSome_iff (x : Sensor) : x.value.isSome = true ↔ ∃ p, x = .valid p := by
  cases x <;> simp [Sensor.value]

/-- The INVALID flags of six sensors, and two more above them, each at its bit (R189). -/
theorem invalidBits_tells (sensors : Six Sensor) (a b : Bool) :
    let x := invalidBits sensors ||| flagBit a 6 ||| flagBit b 7
    (∀ n : Chan, x.getLsbD n.val = true ↔ ∃ m, sensors.get n = .invalid m) ∧ x.getLsbD 6 = a ∧ x.getLsbD 7 = b := by
  obtain ⟨hn, ha, hb⟩ := flagBits_eight (fun c => (sensors.get c).isInvalid) a b
  refine ⟨fun n => ?_, ha, hb⟩
  rw [← Sensor.isInvalid_iff]
  exact Bool.eq_iff_iff.1 (hn n)

theorem invalidBits_alone (sensors : Six Sensor) :
    (∀ n : Chan, (invalidBits sensors).getLsbD n.val = true ↔ ∃ m, sensors.get n = .invalid m) ∧
      (invalidBits sensors).extractLsb' 6 2 = 0 := by
  obtain ⟨hn, h6, h7⟩ := invalidBits_tells sensors false false
  have he : invalidBits sensors ||| flagBit false 6 ||| flagBit false 7 = invalidBits sensors := by simp [flagBit]
  rw [he] at hn h6 h7
  refine ⟨hn, ?_⟩
  ext i hi
  have hlt : i < 2 := hi
  interval_cases i
  · simpa using h6
  · simpa using h7

/-- Page 3 tells the circuits, the window and the INVALID sensors (R45). -/
theorem State.readMeasure_supply (ht : s.takes) :
    ∃ a b c d e f g h : Byte,
      exec (.readMeasure 3) s = .next (s.withSlot ⟨0x32, .done, .none, [a, b, c, d, e, f, g, h]⟩) ∧
        (a.getLsbD 0 = true ↔ ∃ p, s.meas.supplyA.sensor = .valid p) ∧
        (a.getLsbD 1 = true ↔ ∃ p, s.meas.supplyB.sensor = .valid p) ∧ a.getLsbD 2 = s.meas.supplyA.low ∧
        a.getLsbD 3 = s.meas.supplyB.low ∧ a.getLsbD 4 = s.meas.forced ∧ a.extractLsb' 5 3 = 0 ∧
        (∀ p, s.meas.supplyA.sensor = .valid p → b ++ c = BitVec.ofNat 16 p) ∧
        (∀ p, s.meas.supplyB.sensor = .valid p → d ++ e = BitVec.ofNat 16 p) ∧
        f = BitVec.ofNat 8 s.meas.window.length ∧
        (∀ n : Chan, (g.getLsbD n.val = true ↔ ∃ m, s.meas.psu.get n = .invalid m) ∧
          (h.getLsbD n.val = true ↔ ∃ m, s.meas.psv.get n = .invalid m)) ∧
        g.extractLsb' 6 2 = 0 ∧ (h.getLsbD 6 = true ↔ ∃ m, s.meas.supplyA.sensor = .invalid m) ∧
        (h.getLsbD 7 = true ↔ ∃ m, s.meas.supplyB.sensor = .invalid m) := by
  obtain ⟨h0, h1, h2, h3, h4, h5⟩ :=
    flagBits_five s.meas.supplyA.sensor.value.isSome s.meas.supplyB.sensor.value.isSome s.meas.supplyA.low
      s.meas.supplyB.low s.meas.forced
  obtain ⟨hpsu, hrest⟩ := invalidBits_alone s.meas.psu
  obtain ⟨hpsv, h6, h7⟩ :=
    invalidBits_tells s.meas.psv s.meas.supplyA.sensor.isInvalid s.meas.supplyB.sensor.isInvalid
  refine ⟨_, _, _, _, _, _, _, _, State.readMeasure_page (p := 3) rfl ht, ?_, ?_, h2, h3, h4, h5, fun p hp => ?_,
    fun p hp => ?_, rfl, fun n => ⟨hpsu n, hpsv n⟩, hrest, ?_, ?_⟩
  · rw [h0, Sensor.value_isSome_iff]
  · rw [h1, Sensor.value_isSome_iff]
  · rw [hp]
    exact byteOf_append_two p
  · rw [hp]
    exact byteOf_append_two p
  · rw [h6, Sensor.isInvalid_iff]
  · rw [h7, Sensor.isInvalid_iff]

/-! ## READ CHANNEL -/

theorem channelOf_eq {n : Byte} {c : Chan} (hn : n.toNat = c.val + 1) : channelOf n = some c := by
  unfold channelOf
  rw [dif_pos (by omega)]
  exact congrArg some (Fin.ext (by simp [hn]))

theorem channelOf_none {n : Byte} (hn : n = 0 ∨ 6 < n.toNat) : channelOf n = none := by
  unfold channelOf
  rw [dif_neg]
  rcases hn with rfl | hn
  · simp
  · omega

theorem State.readChannel_page {n p : Byte} {c : Chan} {bytes : List Byte} (hn : n.toNat = c.val + 1)
    (hp : s.channelPage c p = some bytes) (ht : s.takes) :
    exec (.readChannel n p) s = .next (s.withSlot (doneAnswer 0x40 bytes)) := by
  rw [exec_own (r := .readChannel) ht rfl rfl, channelOf_eq hn]
  simp only [Option.bind_some, hp]
  rfl

theorem State.readChannel_field {n p : Byte} (hn : (channelOf n).bind (fun c => s.channelPage c p) = none) (ht : s.takes) :
    exec (.readChannel n p) s = .next (s.withSlot (refusedAnswer 0x40 .field)) := by
  rw [exec_own (r := .readChannel) ht rfl rfl, hn]
  rfl

theorem State.channelPage_none (c : Chan) {p : Byte} (hp : 2 < p.toNat) : s.channelPage c p = none := by
  unfold State.channelPage
  split
  case h_4 => rfl
  all_goals omega

theorem loByte_eq_truncate (w : Word16) : w.truncate 8 = loByte w := by
  ext i hi
  simp [loByte]

/-- Three flags in a byte, each at its bit. -/
theorem flagBits_three (a b c : Bool) :
    let x : Byte := flagBit a 0 ||| flagBit b 1 ||| flagBit c 2
    x.getLsbD 0 = a ∧ x.getLsbD 1 = b ∧ x.getLsbD 2 = c ∧ x.extractLsb' 3 5 = 0 := by
  revert a b c
  decide

/-- Page 0 tells the state, the request, the cause, the fail-safe action, the override, the flags and the lift line (R105). -/
theorem State.readChannel_state {n : Byte} {c : Chan} (hn : n.toNat = c.val + 1) (ht : s.takes) :
    ∃ flags lift : Byte,
      exec (.readChannel n 0) s =
          .next (s.withSlot (doneAnswer 0x40
            [(s.chans.get c).state.code,
              (match (s.dist.cmds.get c).requested with
              | none => 0
              | some .idle => 3
              | some .service => 4
              | some .spring => 5),
              (match (s.chans.get c).cause with
              | none => 0
              | some .pressure => 1
              | some .openCoil => 2
              | some .stuck => 3
              | some .sensor => 4),
              loByte (s.items c).failSafe, (s.chans.get c).override.code, flags, lift])) ∧
        flags.getLsbD 0 = (s.chans.get c).confirmed ∧ flags.getLsbD 1 = (s.chans.get c).latch ∧
        flags.getLsbD 2 = (s.chans.get c).current ∧ flags.extractLsb' 3 5 = 0 ∧
        lift = (if (s.items c).line = none then 0 else if (s.chans.get c).lift then 1 else 2) := by
  obtain ⟨h0, h1, h2, h3⟩ :=
    flagBits_three (s.chans.get c).confirmed (s.chans.get c).latch (s.chans.get c).current
  refine ⟨_, liftCode (s.items c) (s.chans.get c), ?_, h0, h1, h2, h3, ?_⟩
  · rw [State.readChannel_page hn rfl ht, loByte_eq_truncate]
    rfl
  · unfold liftCode
    cases (s.items c).line <;> simp

/-- Page 1 tells the share, the pressure, the P_avail used and the sensed service pressure (R105). -/
theorem State.readChannel_pressure {n : Byte} {c : Chan} (hn : n.toNat = c.val + 1) (ht : s.takes) :
    ∃ a b d e f g h k : Byte,
      exec (.readChannel n 1) s = .next (s.withSlot ⟨0x40, .done, .none, [a, b, d, e, f, g, h, k]⟩) ∧
        a ++ b = BitVec.ofNat 16 (s.dist.cmds.get c).share ∧
        d ++ e = BitVec.ofNat 16 (s.dist.cmds.get c).pressure ∧
        f ++ g = BitVec.ofNat 16 ((s.dist.cmds.get c).availUsed.getD 0) ∧
        (∀ p < 32768, s.meas.psv.get c = .valid p → h ++ k = BitVec.ofNat 16 (32768 + p)) ∧
        ((∀ p, s.meas.psv.get c ≠ .valid p) → h ++ k = BitVec.ofNat 16 0) := by
  refine ⟨_, _, _, _, _, _, _, _, State.readChannel_page (p := 1) hn rfl ht, byteOf_append_two _, byteOf_append_two _,
    byteOf_append_two _, fun p _ hp => ?_, fun hp => ?_⟩
  · rw [hp]
    exact byteOf_append_two _
  · have hzero : sensedPressure (s.meas.psv.get c) = 0 := by
      cases he : s.meas.psv.get c with
      | valid p => exact absurd he (hp p)
      | unread => rfl
      | invalid m => rfl
    rw [hzero]
    exact byteOf_append_two _

/-- Page 2 tells the duties and the items of the channel (R105). -/
theorem State.readChannel_duty {n : Byte} {c : Chan} (hn : n.toNat = c.val + 1) (ht : s.takes) :
    ∃ a b d e : Byte,
      exec (.readChannel n 2) s =
          .next (s.withSlot ⟨0x40, .done, .none,
            [a, b, d, e, if (s.items c).isFitted then 1 else 0, loByte (s.items c).role,
              if (s.items c).springs then 1 else 0, loByte (s.items c).circuit]⟩) ∧
        a ++ b = BitVec.ofNat 16 (s.chans.get c).dutyBuffer ∧
        d ++ e = BitVec.ofNat 16 (s.chans.get c).dutyInForce := by
  refine ⟨_, _, _, _, ?_, byteOf_append_two _, byteOf_append_two _⟩
  rw [State.readChannel_page hn rfl ht, loByte_eq_truncate, loByte_eq_truncate]
  rfl

/-! ## PROFILE READ -/

theorem selectorOf_none {b : Byte} (h1 : b ≠ 1) (h2 : b ≠ 2) : selectorOf b = none := by
  unfold selectorOf
  split
  · rename_i h
    exact absurd (BitVec.eq_of_toNat_eq (by simpa using h)) h1
  · rename_i h
    exact absurd (BitVec.eq_of_toNat_eq (by simpa using h)) h2
  · rfl

theorem State.profileRead_field {item channel selector : Byte}
    (h : itemAt item channel = none ∨ (selector ≠ 1 ∧ selector ≠ 2)) (ht : s.takes) :
    exec (.profileRead item channel selector) s = .next (s.withSlot (refusedAnswer 0x50 .field)) := by
  rw [exec_own (r := .profileRead) ht rfl rfl]
  rcases h with h | ⟨h1, h2⟩
  · rw [h]
    rfl
  · rw [selectorOf_none h1 h2]
    cases itemAt item channel <;> rfl

theorem State.profileRead_item {item channel selector : Byte} {i : Item} {stored : Bool}
    (hi : itemAt item channel = some i) (hsel : selectorOf selector = some stored) (ht : s.takes) :
    exec (.profileRead item channel selector) s =
      .next (if stored && s.store.commit.isSome then s.refuse 0x50 .busy
        else s.done 0x50 ([item, channel, selector] ++ valueBytes (s.store.value i stored) ++ [flagByte (!s.store.invalid)])) := by
  rw [exec_own (r := .profileRead) ht rfl rfl, hi, hsel]

/-- An item of the copy selected, or the commit count, is answered with its two bytes and the copy's validity (R197). -/
theorem State.profileRead_value {item channel selector : Byte} {i : Item} (hi : itemAt item channel = some i)
    (hsel : selector = 1 ∨ (selector = 2 ∧ s.store.commit = none)) (ht : s.takes) :
    ∃ hi lo : Byte,
      exec (.profileRead item channel selector) s =
          .next (s.withSlot (doneAnswer 0x50
            [item, channel, selector, hi, lo, if s.store.invalid then 0 else 1])) ∧
        (i = .commitCount → hi ++ lo = BitVec.ofNat 16 s.store.count) ∧
        (i ≠ .commitCount → hi ++ lo = if selector = 1 then s.store.working.read i else s.store.image.read i) := by
  have hflag : flagByte (!s.store.invalid) = if s.store.invalid then 0 else 1 := by cases s.store.invalid <;> rfl
  have hvalue : ∀ stored : Bool, i ≠ .commitCount →
      s.store.value i stored = if stored then s.store.image.read i else s.store.working.read i := fun stored h => by
    cases i with
    | commitCount => exact absurd rfl h
    | vehicle p => rfl
    | channel c p => rfl
  have hcount : ∀ stored : Bool, i = .commitCount → s.store.value i stored = BitVec.ofNat 16 s.store.count :=
    fun stored h => by rw [h]; rfl
  rcases hsel with rfl | ⟨rfl, hc⟩
  · refine ⟨byteOf ((s.store.value i false).toNat / 256), byteOf (s.store.value i false).toNat, ?_, ?_, ?_⟩
    · rw [State.profileRead_item (stored := false) hi rfl ht, if_neg (by simp), hflag]
      rfl
    · rw [byteOf_append_word]
      exact hcount false
    · rw [byteOf_append_word]
      exact hvalue false
  · refine ⟨byteOf ((s.store.value i true).toNat / 256), byteOf (s.store.value i true).toNat, ?_, ?_, ?_⟩
    · rw [State.profileRead_item (stored := true) hi rfl ht, if_neg (by simp [hc]), hflag]
      rfl
    · rw [byteOf_append_word]
      exact hcount true
    · rw [byteOf_append_word]
      exact hvalue true

/-- Settles O12, request by request. -/
theorem readsAnswer : Obligations.ReadsAnswer := by
  intro s ht
  refine ⟨fun h hn => State.readHold_noSuch h hn ht,
    fun n => ⟨fun hn => State.listHolds_field n hn ht, fun hn hl => State.listHolds_past n hn hl ht⟩, ?_, ?_, ?_,
    State.readMeasure_supply ht, fun p hp => State.readMeasure_field p hp ht, fun n c hn => ⟨State.readChannel_state hn ht,
      State.readChannel_pressure hn ht, State.readChannel_duty hn ht, fun p hp => State.readChannel_field ?_ ht⟩,
    fun n p hn => State.readChannel_field (by rw [channelOf_none hn]; rfl) ht, fun item channel selector =>
      ⟨fun h => State.profileRead_field h ht, fun i hi => ⟨fun hsel hc => ?_, fun hsel => State.profileRead_value hi hsel ht⟩⟩⟩
  · exact ⟨_, _, _, _, _, _, _, _, State.readMeasure_page (p := 0) rfl ht, signed_append_two _, byteOf_append_two _,
      byteOf_append_two _, byteOf_append_two _⟩
  · exact ⟨_, _, _, _, _, _, _, _, State.readMeasure_page (p := 1) rfl ht, byteOf_append_two _, byteOf_append_three _,
      byteOf_append_three _⟩
  · refine ⟨_, _, _, _, _, _, _, _, State.readMeasure_page (p := 2) rfl ht, signed_append_two _, ?_, rfl, rfl, rfl,
      byteOf_append_two _⟩
    unfold Measure.gearInForce
    split <;> rfl
  · rw [channelOf_eq hn, Option.bind_some, State.channelPage_none c hp]
  · subst hsel
    rw [State.profileRead_item hi rfl ht, if_pos (by simpa [Option.isSome_iff_ne_none] using hc)]
    rfl

/-! ## A record as it is told (R189) -/

/-- The hold byte holds each code at its bits. -/
theorem holdByte_bits (o : Owner) (k : HoldClass) (st : RecState) (b : Bool) :
    let x : Byte := o.code ||| (k.code <<< 3) ||| (st.code <<< 5) ||| flagBit b 7
    x.extractLsb' 0 3 = o.code.extractLsb' 0 3 ∧ x.extractLsb' 3 2 = k.code.extractLsb' 0 2 ∧
      x.extractLsb' 5 2 = st.code.extractLsb' 0 2 ∧ x.getLsbD 7 = b := by
  revert b
  cases o <;> cases k <;> cases st <;> decide

/-- The hold byte and the byte after it tell the record. -/
theorem Record.toldBy_holdByte (r : Record) : r.toldBy r.holdByte r.causeOrTag := by
  obtain ⟨ho, hk, hs, ht⟩ := holdByte_bits r.owner r.cls r.state r.tag.isSome
  refine ⟨?_, ?_, ?_, ht, fun hc => ?_, fun c hc => ?_⟩
  · rw [Record.holdByte, ho]
    cases r.owner <;> rfl
  · rw [Record.holdByte, hk]
    cases r.cls <;> rfl
  · rw [Record.holdByte, hs]
    cases r.state <;> rfl
  · simp [Record.causeOrTag, hc]
  · simp only [Record.causeOrTag, hc]
    cases c <;> rfl

/-- The byte of the place and the upper bits of the expiry tells both. -/
theorem placeByte_tells (place : Fin 16) (hi : Fin 4) :
    let e := (byteOf place.val <<< 4) ||| (byteOf hi.val &&& 3)
    (e.extractLsb' 4 4).toNat = place.val ∧ (e.extractLsb' 2 2).toNat = 0 ∧ (e.extractLsb' 0 2).toNat = hi.val := by
  revert place hi
  decide +kernel

/-- A record of a sound table is the first under its handle, at its place. -/
theorem HoldTable.sound_find {x : HoldTable} (hx : x.sound) {place : Nat} {r : Record} (hr : x.records[place]? = some r) :
    (x.records.find? fun y => y.handle == r.handle) = some r ∧
      (x.records.findIdx fun y => y.handle == r.handle) = place := by
  obtain ⟨hlt, hget⟩ := List.getElem?_eq_some_iff.1 hr
  have hbefore : ∀ j (hj : j < place), (x.records[j]'(by omega)).handle ≠ r.handle := by
    intro j hj he
    have hnd := hx.2.1
    have := (List.nodup_iff_injective_get.1 hnd) (a₁ := ⟨j, by simp; omega⟩) (a₂ := ⟨place, by simpa using hlt⟩)
      (by simp [he, hget])
    simp only [Fin.mk.injEq] at this
    omega
  have hidx : (x.records.findIdx fun y => y.handle == r.handle) = place := by
    rw [List.findIdx_eq hlt]
    exact ⟨by simp [hget], fun j hj => by simpa using hbefore j hj⟩
  refine ⟨?_, hidx⟩
  rw [List.find?_eq_some_iff_getElem]
  exact ⟨by simp, place, hlt, hget, fun j hj => by simpa using hbefore j hj⟩

theorem State.summary_some {place : Nat} {r : Record} (hr : s.table.records[place]? = some r) :
    s.summary place = [byteOf r.handle, r.holdByte, r.causeOrTag] := by rw [State.summary, hr]

theorem State.summary_none {place : Nat} (hr : s.table.records[place]? = none) : s.summary place = [0, 0, 0] := by
  rw [State.summary, hr]

/-- LIST HOLDS tells the record at a place and the one after it (R21). -/
theorem State.listHolds_tells {place : Nat} {r : Record} (ht : s.takes) (hs : s.table.sound)
    (hr : s.table.records[place]? = some r) :
    ∃ n l1 l2 l3 : Byte, n.toNat = s.table.records.length ∧
      exec (.listHolds (BitVec.ofNat 8 place)) s =
          .next (s.withSlot ⟨0x24, .done, .none, [n, BitVec.ofNat 8 r.handle, r.holdByte, r.causeOrTag, l1, l2, l3, 0]⟩) ∧
        (s.table.records[place + 1]? = none → l1 = 0 ∧ l2 = 0 ∧ l3 = 0) ∧
        ∀ q, s.table.records[place + 1]? = some q → l1.toNat = q.handle ∧ q.toldBy l2 l3 := by
  obtain ⟨hlt, -⟩ := List.getElem?_eq_some_iff.1 hr
  have hlen : s.table.records.length ≤ 16 := hs.2.2.2.1
  have hplace : (BitVec.ofNat 8 place : Byte).toNat = place := by
    rw [BitVec.toNat_ofNat]
    omega
  have hexec : exec (.listHolds (BitVec.ofNat 8 place)) s =
      .next (s.done 0x24 ([byteOf s.table.records.length] ++ [byteOf r.handle, r.holdByte, r.causeOrTag] ++
        s.summary (place + 1))) := by
    rw [exec_own (r := .listHolds) ht rfl rfl, hplace, if_neg (by omega), State.summary_some hr]
  cases hq : s.table.records[place + 1]? with
  | none =>
    rw [State.summary_none hq] at hexec
    exact ⟨_, _, _, _, byteOf_toNat_of_lt (by omega), hexec, fun _ => ⟨rfl, rfl, rfl⟩, nofun⟩
  | some q =>
    rw [State.summary_some hq] at hexec
    have hsound := hs.1 q (List.mem_of_getElem? hq)
    refine ⟨_, _, _, _, byteOf_toNat_of_lt (by omega), hexec, nofun, fun q' hq' => ?_⟩
    cases hq'
    exact ⟨byteOf_toNat_of_lt hsound.1.2, q.toldBy_holdByte⟩

/-- Settles O13: the live record is the first under its handle, and the bytes hold its fields. -/
theorem readHoldTells : Obligations.ReadHoldTells := by
  intro s place r ht hs hr
  obtain ⟨hlt, -⟩ := List.getElem?_eq_some_iff.1 hr
  have hmem := List.mem_of_getElem? hr
  obtain ⟨⟨h1, h255⟩, -, -, -, -, -, -, h600⟩ := hs.1 r hmem
  obtain ⟨hfind, hidx⟩ := HoldTable.sound_find hs hr
  have hlen : s.table.records.length ≤ 16 := hs.2.2.2.1
  have hexpiry : r.expiry.getD 0 ≤ 600 := by
    cases he : r.expiry with
    | none => simp
    | some n => simpa [he] using h600
  have hhandle : (BitVec.ofNat 8 r.handle : Byte).toNat = r.handle := by
    rw [BitVec.toNat_ofNat]
    omega
  have hne : (BitVec.ofNat 8 r.handle : Byte) ≠ 0 := fun h => by
    have := congrArg BitVec.toNat h
    rw [hhandle] at this
    simp at this
    omega
  obtain ⟨hp, hz, hhi⟩ := placeByte_tells ⟨place, by omega⟩ ⟨r.expiry.getD 0 / 256, by omega⟩
  refine ⟨r.holdByte, r.causeOrTag, _, byteOf (r.expiry.getD 0), r.toldBy_holdByte, hp, hz, ?_, ?_,
    State.listHolds_tells ht hs hr⟩
  · rw [hhi, byteOf_toNat]
    dsimp only
    omega
  · refine ⟨byteOf (s.force.ofClass r.cls / 65536), byteOf (s.force.ofClass r.cls / 256), byteOf (s.force.ofClass r.cls),
      ?_, ?_⟩
    · rw [exec_own (r := .readHold) ht rfl rfl, hhandle, State.record, hfind]
      simp only [hne, if_false, State.readHoldPayload, hidx]
      rfl
    · rw [byteOf_append_three]
      cases r.cls <;> rfl

end Sys2Proof.Machine

/-! # What an event ends with: the openings that follow it, and the notices they raise -/

namespace Sys2Proof.Machine

variable {s t u : State}

/-! ## The link after a run -/

/-- The link of a later state is that of an earlier one, but for SHORT, which may have been raised (R74). -/
def State.linksTo (s t : State) : Prop := t.link = s.link ∨ t.link = (s.raise .short).link

/-- A raise sees the link and the mode alone. -/
theorem State.raise_link_congr (hl : s.link = t.link) (hc : s.ctl = t.ctl) (src : Source) :
    (s.raise src).link = (t.raise src).link := by
  simp only [State.raise, State.withLink]
  rw [hl, hc]

/-- The link after steps that leave it, one run, and steps that leave it. -/
theorem State.linksTo_congr {s' t' : State} (h : s.linksTo t) (hs : s.link = s'.link) (hc : s.ctl = s'.ctl)
    (ht : t'.link = t.link) : s'.linksTo t' := by
  rcases h with h | h
  · exact .inl (ht.trans (h.trans hs))
  · exact .inr (ht.trans (h.trans (State.raise_link_congr hs hc _)))

theorem State.distributeWith_linksTo (s : State) (loads : Six Nat) (fresh : Bool) :
    s.linksTo (s.distributeWith loads fresh) := by
  unfold State.distributeWith State.linksTo
  rw [State.reportConfirmed_link]
  unfold State.raiseShort
  split
  · exact .inr rfl
  · exact .inl rfl

/-- A run after steps that leave the link. -/
theorem State.linksTo_run {u : State} (hl : u.link = s.link) (hc : u.ctl = s.ctl) (loads : Six Nat) (fresh : Bool) :
    s.linksTo (u.distributeWith loads fresh) :=
  State.linksTo_congr (State.distributeWith_linksTo u loads fresh) hl hc rfl

theorem State.holdSetChange_linksTo (s : State) (parkBefore : Bool) : s.linksTo (s.holdSetChange parkBefore) := by
  rcases s.holdSetChange_cases parkBefore with ⟨he, -⟩ | he
  · exact .inl (by rw [he]; rfl)
  · rw [he]
    exact State.linksTo_run (by simp) (by simp) _ _

theorem State.retire_linksTo (s : State) (h : Nat) (driveOff : Bool) : s.linksTo (s.retire h driveOff) := by
  obtain ⟨m, hm⟩ := s.retire_withMon h driveOff
  exact State.linksTo_congr (State.holdSetChange_linksTo (s.parting h) (parkLive s.table.records)) rfl rfl (by rw [hm]; rfl)

theorem State.openRecord_linksTo (s : State) (make : Nat → Record) : s.linksTo (s.openRecord make) := by
  obtain ⟨m, hm⟩ := s.opening_withMon make
  exact State.linksTo_congr (State.holdSetChange_linksTo (s.seating make) (parkLive s.table.records)) rfl rfl
    (by rw [State.openRecord_eq, State.reportConfirmed_link, hm]; rfl)

theorem State.applyForce_linksTo (s : State) (a : Nat) : s.linksTo (s.applyForce a) := by
  unfold State.applyForce
  dsimp only
  split
  · exact .inl rfl
  · exact State.linksTo_run (by simp) (by simp) _ _

theorem State.runAndOffer_linksTo (s : State) : s.linksTo s.runAndOffer := by
  unfold State.runAndOffer State.offer
  dsimp only
  refine State.linksTo_congr (State.applyForce_linksTo _ _) ?_ ?_ rfl
  · simp
  · simp

/-- What a raise keeps of the link: the answer, the enables and the last HOLDS event (R181, R185). -/
@[simp] theorem State.raise_slot (src : Source) : (s.raise src).link.slot = s.link.slot := rfl

@[simp] theorem State.raise_lastHandle (src : Source) : (s.raise src).link.lastHandle = s.link.lastHandle := rfl

@[simp] theorem State.raise_lastReason (src : Source) : (s.raise src).link.lastReason = s.link.lastReason := rfl

@[simp] theorem State.raise_bits (src : Source) : (s.raise src).link.pending = s.link.pending ||| src.bit := rfl

@[simp] theorem State.raiseHolds_slot (h : Nat) (reason : Reason) : (s.raiseHolds h reason).link.slot = s.link.slot := rfl

@[simp] theorem State.raiseHolds_bits (h : Nat) (reason : Reason) :
    (s.raiseHolds h reason).link.pending = s.link.pending ||| 0x01 := rfl

@[simp] theorem State.raiseHolds_lastHandle (h : Nat) (reason : Reason) :
    (s.raiseHolds h reason).link.lastHandle = h := rfl

@[simp] theorem State.raiseHolds_lastReason (h : Nat) (reason : Reason) :
    (s.raiseHolds h reason).link.lastReason = reason := rfl

theorem State.linksTo_slot (h : s.linksTo t) : t.link.slot = s.link.slot := by
  rcases h with h | h <;> simp [h]

theorem State.linksTo_lastHandle (h : s.linksTo t) : t.link.lastHandle = s.link.lastHandle := by
  rcases h with h | h <;> simp [h]

theorem State.linksTo_lastReason (h : s.linksTo t) : t.link.lastReason = s.link.lastReason := by
  rcases h with h | h <;> simp [h]

theorem State.linksTo_bits (h : s.linksTo t) (n : Nat) (hn : s.link.pending.getLsbD n = true) :
    t.link.pending.getLsbD n = true := by
  rcases h with h | h <;> simp [h, hn]

/-- A deadline begins in RUN alone (R151). -/
theorem State.linksTo_deadlines (h : s.linksTo t) (hm : s.ctl.mode ≠ .run) :
    t.link.rollawayDeadline = s.link.rollawayDeadline ∧ t.link.shortDeadline = s.link.shortDeadline := by
  rcases h with h | h <;> simp [h, State.raise, State.withLink, hm]

/-! ## The openings that follow an event -/

/-- What the part does of its own at the end of an event: an opening of a MONITOR cause with its notice, the pendant's opening
where there is room, a change of what the pendant wants, and WARN following its causes (R25, R26, R141, R144). -/
inductive Follow : State → State → Prop
  | cause {s : State} (c : Cause) (h : s.hasCause c = false) :
      Follow s ((s.openRecord (monitorRecord c)).raiseHolds s.table.newHandle .none)
  | pendant {s : State} (hf : s.pendantFree = true) (hn : nonMonitorCount s.table.records < 12) :
      Follow s ((s.openRecord pendantRecord).want .none)
  | want {s : State} (w : PendantWant) : Follow s (s.want w)
  | warn {s : State} : Follow s s.refreshWarn

/-- A chain of what the part does of its own at the end of an event. -/
abbrev Sequel : State → State → Prop := Relation.ReflTransGen Follow

theorem Follow.one (h : Follow s t) : Sequel s t := .single h

theorem sequel_monitorOpening (s : State) (c : Cause) : Sequel s (s.monitorOpening c) := by
  unfold State.monitorOpening
  split
  · exact .refl
  · rename_i h
    exact (Follow.cause c (by simpa using h)).one

theorem sequel_autoparkEvaluate (s : State) : Sequel s s.autoparkEvaluate := by
  unfold State.autoparkEvaluate
  split
  · exact sequel_monitorOpening _ _
  · exact .refl

/-- A retry raises nothing: that there was no room has been told (R26). -/
theorem sequel_pendantOpen_told (s : State) : Sequel s (s.pendantOpen true) := by
  unfold State.pendantOpen State.pendantTry
  split
  · rename_i hf
    split
    · exact (Follow.want _).one
    · split
      · rename_i hn
        exact (Follow.pendant hf hn).one
      · exact (Follow.want _).one
  · exact (Follow.want _).one

theorem sequel_pendantRetry (s : State) : Sequel s s.pendantRetry := by
  unfold State.pendantRetry
  split
  · exact sequel_pendantOpen_told s
  · exact .refl

theorem sequel_conclude (before s : State) : Sequel s (State.conclude before s) := by
  have hif : ∀ {c : Prop} [Decidable c] {u v : State}, Sequel u v → Sequel u (if c then v else u) := by
    intro c _ u v h
    split
    · exact h
    · exact .refl
  unfold State.conclude
  exact ((hif (sequel_autoparkEvaluate s)).trans (hif (sequel_pendantRetry _))).trans Follow.warn.one

/-- What each opening of its own keeps, and what the other changes keep, a sequel keeps. -/
theorem Sequel.keep {P : State → Prop} (h : Sequel s t) (hs : P s)
    (hopen : ∀ u make, P u → P (u.openRecord make)) (hholds : ∀ u n r, P u → P (u.raiseHolds n r))
    (hmon : ∀ (u : State) (w : PendantWant) (x : Warn), P u → P (u.withMon { u.mon with pendantWant := w, warn := x })) :
    P t := by
  induction h with
  | refl => exact hs
  | tail _ hf ih =>
    cases hf with
    | cause c _ => exact hholds _ _ _ (hopen _ _ ih)
    | pendant _ _ => exact hmon _ .none _ (hopen _ _ ih)
    | want w => exact hmon _ w _ ih
    | warn => exact hmon _ _ _ ih

/-- The blocks no opening touches. -/
theorem Sequel.frame (h : Sequel s t) :
    s.keepsRest t ∧ t.ctl = s.ctl ∧ t.meas = s.meas ∧ t.store = s.store ∧ t.table.beat = s.table.beat := by
  refine h.keep (P := fun t => s.keepsRest t ∧ t.ctl = s.ctl ∧ t.meas = s.meas ∧ t.store = s.store ∧
    t.table.beat = s.table.beat) (by simp [State.keepsRest]) ?_ ?_ ?_
  · rintro u make ⟨⟨h1, h2, h3, h4, h5, h6⟩, h7, h8, h9, h10⟩
    simp [State.keepsRest, h1, h2, h3, h4, h5, h6, h7, h8, h10]
  · rintro u n r ⟨⟨h1, h2, h3, h4, h5, h6⟩, h7, h8, h9, h10⟩
    simp [State.keepsRest, h1, h2, h3, h4, h5, h6, h7, h8, h10]
  · rintro u w x ⟨⟨h1, h2, h3, h4, h5, h6⟩, h7, h8, h9, h10⟩
    simp [State.keepsRest, h1, h2, h3, h4, h5, h6, h7, h8, h10]

theorem Sequel.keepsRest (h : Sequel s t) : s.keepsRest t := by
  obtain ⟨hk, -⟩ := h.frame; exact hk

theorem Sequel.ctl (h : Sequel s t) : t.ctl = s.ctl := by
  obtain ⟨-, hk, -⟩ := h.frame; exact hk

theorem Sequel.meas (h : Sequel s t) : t.meas = s.meas := by
  obtain ⟨-, -, hk, -⟩ := h.frame; exact hk

theorem Sequel.store (h : Sequel s t) : t.store = s.store := by
  obtain ⟨-, -, -, hk, -⟩ := h.frame; exact hk

theorem Sequel.beat (h : Sequel s t) : t.table.beat = s.table.beat := by
  obtain ⟨-, -, -, -, hk⟩ := h.frame; exact hk

/-- An opening of the part's own leaves the answer (R171). -/
theorem Sequel.slot (h : Sequel s t) : t.link.slot = s.link.slot :=
  h.keep (P := fun t => t.link.slot = s.link.slot) rfl
    (fun _ _ hu => (State.linksTo_slot (State.openRecord_linksTo _ _)).trans hu) (fun _ _ _ hu => hu) fun _ _ _ hu => hu

/-- No notice is taken back by what follows it (R181). -/
theorem Sequel.bits (h : Sequel s t) (n : Nat) (hn : s.link.pending.getLsbD n = true) :
    t.link.pending.getLsbD n = true :=
  h.keep (P := fun t => t.link.pending.getLsbD n = true) hn
    (fun _ _ hu => State.linksTo_bits (State.openRecord_linksTo _ _) n hu) (fun _ _ _ hu => by simp [hu]) fun _ _ _ hu => hu

/-- Outside RUN no deadline begins (R151). -/
theorem Sequel.deadlines (h : Sequel s t) (hm : s.ctl.mode ≠ .run) :
    t.link.rollawayDeadline = s.link.rollawayDeadline ∧ t.link.shortDeadline = s.link.shortDeadline := by
  refine (h.keep (P := fun t => t.ctl = s.ctl ∧ t.link.rollawayDeadline = s.link.rollawayDeadline ∧
    t.link.shortDeadline = s.link.shortDeadline) ⟨rfl, rfl, rfl⟩ ?_ ?_ fun _ _ _ hu => hu).2
  · rintro u make ⟨hc, h1, h2⟩
    obtain ⟨g1, g2⟩ := State.linksTo_deadlines (State.openRecord_linksTo u make) (by rw [hc]; exact hm)
    exact ⟨by simp [hc], g1.trans h1, g2.trans h2⟩
  · rintro u n r ⟨hc, h1, h2⟩
    exact ⟨by simp [hc], by simpa [State.raiseHolds, State.raise, State.withLink] using h1,
      by simpa [State.raiseHolds, State.raise, State.withLink] using h2⟩

/-- A gate that is idle stays idle (R118). -/
theorem Sequel.gate (h : Sequel s t) (hg : s.gate = .idle) : t.gate = .idle :=
  h.keep (P := fun t => t.gate = .idle) hg (fun _ _ hu => by simp [hu]) (fun _ _ _ hu => by simp [hu])
    fun _ _ _ hu => by simp [hu]

/-- Forces that are fresh stay fresh: each opening has an offer of its own (R14, R28). -/
theorem Sequel.freshForce (h : Sequel s t) (hs : s.freshForce) : t.freshForce :=
  h.keep hs (fun _ _ _ => State.openRecord_freshForce _ _)
    (fun _ _ _ hu => State.freshForce_congr (by simp) (by simp) (by simp) (by simp) (by simp) hu)
    fun _ _ _ hu => State.freshForce_withMon _ hu

theorem Sequel.relief (h : Sequel s t) (hs : s.table.relief = .stopped) : t.table.relief = .stopped :=
  h.keep (P := fun t => t.table.relief = .stopped) hs (fun _ _ _ => by simp) (fun _ _ _ hu => by simp [hu])
    fun _ _ _ hu => by simp [hu]

/-- The part of the monitor that openings leave alone, but for what the pendant wants. -/
theorem Sequel.aside (h : Sequel s t) :
    ({ t.mon.aside with pendantWant := .none } : Monitor.Aside) = { s.mon.aside with pendantWant := .none } :=
  h.keep (P := fun t => ({ t.mon.aside with pendantWant := .none } : Monitor.Aside) =
    { s.mon.aside with pendantWant := .none }) rfl (fun _ _ hu => by simpa using hu) (fun _ _ _ hu => by simpa using hu)
    fun _ _ _ hu => hu

theorem Sequel.motion (h : Sequel s t) : t.mon.motion = s.mon.motion :=
  congrArg Monitor.Aside.motion h.aside

theorem Sequel.train (h : Sequel s t) : t.mon.train = s.mon.train :=
  congrArg Monitor.Aside.train h.aside

theorem Sequel.driverPresent (h : Sequel s t) : t.mon.driverPresent = s.mon.driverPresent :=
  congrArg Monitor.Aside.driverPresent h.aside

/-! ## The records under what follows -/

/-- No release is under way. -/
def State.noneReleasing (s : State) : Prop := ∀ r ∈ s.table.records, r.state ≠ .releasing

theorem notReleasing_of_none (h : s.noneReleasing) : notReleasing s.table.records = s.table.records :=
  notReleasing_eq_self h

/-- Records heard by a report, under none of which a release is. -/
theorem heardRecords_noneReleasing {b : Bool} {records : List Record} (h : ∀ r ∈ records, r.state ≠ .releasing) :
    ∀ r ∈ heardRecords b records, r.state ≠ .releasing := by
  intro r hr hrel
  obtain ⟨x, hx, rfl | rfl⟩ := mem_heardRecords hr
  · exact h _ hx hrel
  · exact h x hx (by simpa using hrel)

/-- An opening ends every release that is under way (R118). -/
theorem State.openRecord_noneReleasing (s : State) {make : Nat → Record} (hm : ∀ h, (make h).state ≠ .releasing) :
    (s.openRecord make).noneReleasing := by
  rw [State.noneReleasing, State.openRecord_records]
  refine heardRecords_noneReleasing fun r hr => ?_
  rcases List.mem_append.1 hr with hk | hn
  · exact (mem_notReleasing.1 hk).2
  · rw [List.mem_singleton.1 hn]
    exact hm _

theorem monitorRecord_state (c : Cause) (h : Nat) : (monitorRecord c h).state ≠ .releasing := by simp [monitorRecord]

theorem pendantRecord_state (h : Nat) : (pendantRecord h).state ≠ .releasing := by simp [pendantRecord]

theorem Follow.noneReleasing (h : Follow s t) (hs : s.noneReleasing) : t.noneReleasing := by
  cases h with
  | cause c _ => simpa [State.noneReleasing] using State.openRecord_noneReleasing s (monitorRecord_state c)
  | pendant _ _ => simpa [State.noneReleasing] using State.openRecord_noneReleasing s pendantRecord_state
  | want w => simpa [State.noneReleasing] using hs
  | warn => simpa [State.noneReleasing] using hs

theorem Sequel.noneReleasing (h : Sequel s t) (hs : s.noneReleasing) : t.noneReleasing := by
  induction h with
  | refl => exact hs
  | tail _ hf ih => exact hf.noneReleasing ih

/-- An opening adds to the holds at their end (R14). -/
theorem State.openRecord_holdSet_of_none (hs : s.noneReleasing) (make : Nat → Record) :
    holdSet (s.openRecord make).table.records = holdSet s.table.records ++ holdSet [make s.table.newHandle] := by
  rw [State.openRecord_records, heardRecords_holdSet, notReleasing_of_none hs, holdSet_append]

theorem Follow.holds (h : Follow s t) (hs : s.noneReleasing) :
    holdSet s.table.records <+: holdSet t.table.records := by
  cases h with
  | cause c _ => simp [State.openRecord_holdSet_of_none hs]
  | pendant _ _ => simp [State.openRecord_holdSet_of_none hs]
  | want w => simp
  | warn => simp

/-- What follows an event opens holds after those it left, and ends none. -/
theorem Sequel.holds (h : Sequel s t) (hs : s.noneReleasing) :
    holdSet s.table.records <+: holdSet t.table.records := by
  induction h with
  | refl => exact List.prefix_refl _
  | tail hst hf ih => exact ih.trans (hf.holds (Sequel.noneReleasing hst hs))

theorem mem_heardRecords_of {b : Bool} {records : List Record} {r : Record} (h : r ∈ records) :
    r ∈ heardRecords b records ∨ r.hold ∈ heardRecords b records := by
  cases b
  · exact .inl h
  · exact .inr (List.mem_map_of_mem h)

theorem State.openRecord_stays (hs : s.noneReleasing) (make : Nat → Record) {r : Record} (hr : r ∈ s.table.records) :
    r ∈ (s.openRecord make).table.records ∨ r.hold ∈ (s.openRecord make).table.records := by
  rw [State.openRecord_records, notReleasing_of_none hs]
  exact mem_heardRecords_of (List.mem_append_left _ hr)

theorem Follow.stays (h : Follow s t) (hs : s.noneReleasing) {r : Record} (hr : r ∈ s.table.records) :
    r ∈ t.table.records ∨ r.hold ∈ t.table.records := by
  cases h with
  | cause c _ => simpa using State.openRecord_stays hs (monitorRecord c) hr
  | pendant _ _ => simpa using State.openRecord_stays hs pendantRecord hr
  | want w => exact .inl (by simpa using hr)
  | warn => exact .inl (by simpa using hr)

/-- A record stays through what follows, moved to HELD at most (R9). -/
theorem Sequel.stays (h : Sequel s t) (hs : s.noneReleasing) {r : Record} (hr : r ∈ s.table.records) :
    r ∈ t.table.records ∨ r.hold ∈ t.table.records := by
  induction h with
  | refl => exact .inl hr
  | tail hst hf ih =>
    rcases ih with hm | hm
    · exact hf.stays (Sequel.noneReleasing hst hs) hm
    · exact .inr (by simpa using hf.stays (Sequel.noneReleasing hst hs) hm)

/-- A HELD record stays as it is. -/
theorem Sequel.stays_held (h : Sequel s t) (hs : s.noneReleasing) {r : Record} (hr : r ∈ s.table.records)
    (he : r.state ≠ .engaging) : r ∈ t.table.records := by
  have hh : r.hold = r := by simp [Record.hold, he]
  rcases h.stays hs hr with h | h
  · exact h
  · rwa [hh] at h

/-- Over holds that stand, the inhibit stands (R139). -/
theorem Sequel.inhibit (h : Sequel s t) (hs : s.noneReleasing) : t.mon.inhibit = s.mon.inhibit := by
  have hopen : ∀ u : State, u.noneReleasing → ∀ make, (u.openRecord make).mon.inhibit = u.mon.inhibit := by
    intro u hu make
    rw [State.openRecord_inhibit]
    have : (u.table.records.any fun r => r.isReleasing && r.cause == some .autopark) = false :=
      List.any_eq_false.2 fun r hr => by simp [Record.isReleasing, hu r hr]
    rw [this, Bool.or_false]
  induction h with
  | refl => rfl
  | tail hst hf ih =>
    have hn := Sequel.noneReleasing hst hs
    cases hf with
    | cause c _ => simpa [hopen _ hn] using ih
    | pendant _ _ => simpa [State.want, State.withMon, hopen _ hn] using ih
    | want w => exact ih
    | warn => exact ih

/-- A reference that is HOLDING stays so (R126). -/
theorem Sequel.holding (h : Sequel s t) (hs : s.mon.ref = .holding) : t.mon.ref = .holding :=
  h.keep (P := fun t => t.mon.ref = .holding) hs
    (fun u make hu => by rw [State.openRecord_ref]; split <;> simp [Monitor.retired_ref, hu])
    (fun _ _ _ hu => by simpa using hu) fun _ _ _ hu => hu

/-- Counters that stand at 0 stay there. -/
theorem State.openRecord_countersAtZero {make : Nat → Record} (h : s.countersAtZero) : (s.openRecord make).countersAtZero := by
  have hm : ∀ m : Monitor, ∀ c, (m.zeroCounters.wheels.get c).creep = 0 ∧ (m.zeroCounters.wheels.get c).reached = false := by
    intro m c
    simp [Monitor.zeroCounters]
  have hseat : (s.seating make).countersAtZero := by
    intro c
    rw [State.seating_mon]
    unfold Monitor.retired
    dsimp only
    split
    · split
      · exact hm s.mon c
      · exact h c
    · split
      · exact hm s.mon c
      · exact h c
  rw [State.openRecord_eq]
  refine State.reportConfirmed_countersAtZero ?_
  unfold State.opening
  split
  · intro c
    exact hm _ c
  · exact State.holdSetChange_countersAtZero _ hseat

theorem Sequel.countersAtZero (h : Sequel s t) (hs : s.countersAtZero) : t.countersAtZero :=
  h.keep hs (fun _ _ hu => State.openRecord_countersAtZero hu) (fun _ _ _ hu => hu) fun _ _ _ hu => hu

/-! ## Where nothing opens -/

/-- The part as it was, but for WARN and what the pendant wants. -/
def State.asideFrom (s t : State) : Prop :=
  ∃ w x, t = s.withMon { s.mon with pendantWant := w, warn := x }

theorem State.asideFrom_refl : s.asideFrom s := ⟨s.mon.pendantWant, s.mon.warn, rfl⟩

theorem State.openRecord_grows (hs : s.noneReleasing) (make : Nat → Record) :
    (s.openRecord make).table.records.length = s.table.records.length + 1 := by
  rw [State.openRecord_records, notReleasing_of_none hs]
  simp

theorem Follow.cases (h : Follow s t) (hs : s.noneReleasing) :
    s.asideFrom t ∨ t.table.records.length = s.table.records.length + 1 := by
  cases h with
  | cause c _ => exact .inr (by simpa using State.openRecord_grows hs (monitorRecord c))
  | pendant _ _ => exact .inr (by simpa using State.openRecord_grows hs pendantRecord)
  | want w => exact .inl ⟨w, _, rfl⟩
  | warn => exact .inl ⟨_, _, rfl⟩

/-- Either nothing opens, and all stands but WARN and what the pendant wants, or the table grows. -/
theorem Sequel.cases (h : Sequel s t) (hs : s.noneReleasing) :
    s.asideFrom t ∨ s.table.records.length < t.table.records.length := by
  induction h with
  | refl => exact .inl State.asideFrom_refl
  | tail hst hf ih =>
    rcases hf.cases (Sequel.noneReleasing hst hs) with ⟨w, x, rfl⟩ | hg
    · rcases ih with ⟨w', x', rfl⟩ | hl
      · exact .inl ⟨w, x, rfl⟩
      · exact .inr hl
    · rcases ih with ⟨w', x', rfl⟩ | hl
      · exact .inr (by simp only [State.withMon] at hg; omega)
      · exact .inr (by omega)

/-- A sequel that leaves no record opened nothing. -/
theorem Sequel.of_empty (h : Sequel s t) (hs : s.noneReleasing) (ht : t.table.records = []) : s.asideFrom t := by
  rcases h.cases hs with h | h
  · exact h
  · simp [ht] at h

/-! ## The end of an event -/

/-- The end of an event that leaves the hold set and every record's owner: WARN follows its causes, and no more. -/
theorem State.conclude_of_same (hh : holdSet t.table.records = holdSet s.table.records)
    (hr : retiredSince s.table.records t.table.records = false) : State.conclude s t = t.refreshWarn := by
  simp [State.conclude, hh, hr]

/-- The end of an event that leaves the table. -/
theorem State.conclude_of_table (h : t.table.records = s.table.records) : State.conclude s t = t.refreshWarn :=
  State.conclude_of_same (by rw [h]) (by rw [h, retiredSince_self])

/-- The end of an event where no opening of the part's own is owed (R26, R138). -/
theorem State.conclude_of_nothingFollows (h : t.nothingFollows) : State.conclude s t = t.refreshWarn := by
  obtain ⟨ha, hp⟩ := h
  have hmet : t.autoparkEvaluate = t := by
    have hrun : t.mon.autopark.hasRunOut = false := by
      cases hk : t.mon.autopark <;> simp_all [Timer.hasRunOut]
    simp [State.autoparkEvaluate, State.autoparkMet, hrun]
  have hretry : t.pendantRetry = t := by simp [State.pendantRetry, hp]
  unfold State.conclude
  simp only [hmet, ite_self, hretry]

/-- The end of an event that retires nobody's record but the part's own (R138). -/
theorem State.conclude_of_noneRetired (hr : retiredSince s.table.records t.table.records = false)
    (hr' : ∀ u, Sequel t u → retiredSince s.table.records u.table.records = false) :
    State.conclude s t =
      (if holdSet s.table.records ≠ holdSet t.table.records ∧ t.awake = true then t.autoparkEvaluate else t).refreshWarn := by
  unfold State.conclude
  dsimp only
  have : retiredSince s.table.records
      (if holdSet s.table.records ≠ holdSet t.table.records ∧ t.awake = true then t.autoparkEvaluate
        else t).table.records = false := by
    split
    · exact hr' _ (sequel_autoparkEvaluate t)
    · exact hr
  rw [if_neg (by simp [this])]

end Sys2Proof.Machine

/-! # Runs of the Distribution Unit: what they read, and what they leave -/

namespace Sys2Proof.Machine

variable {s t : State}

/-! ## What a run reads -/

/-- A run of the Distribution Unit reads the profile, the circuits, A, the holds and the channels in E alone (R63). -/
theorem State.distribution_congr (hp : s.store = t.store) (hm : s.meas = t.meas)
    (ha : s.table.applied = t.table.applied) (hr : parkLive s.table.records = parkLive t.table.records)
    (he : ∀ c, s.eligible c = t.eligible c) (loads : Six Nat) : s.distribution loads = t.distribution loads := by
  have hel : s.eligible = t.eligible := funext he
  have hitems : s.items = t.items := funext fun c => by simp [State.items, hp]
  have hv : s.vehicle = t.vehicle := by simp [State.vehicle, hp]
  have havail : s.avail = t.avail := funext fun c => by simp [State.avail, hitems, hm]
  have hlow : s.lowSupply = t.lowSupply := funext fun c => by simp [State.lowSupply, hitems, hm]
  have hE : s.inE = t.inE := by simp [State.inE, hel]
  have hsp : s.springsApplied = t.springsApplied := funext fun c => by simp [State.springsApplied, hitems, hr, hlow]
  have hfr : s.friction loads = t.friction loads := funext fun c => by simp [State.friction, hv]
  have hcap : s.cap loads = t.cap loads := funext fun c => by simp [State.cap, hfr, hitems, havail]
  have hk : s.springForce loads = t.springForce loads := funext fun c => by simp [State.springForce, hitems, hfr]
  have hsh : s.shares loads = t.shares loads := by
    simp [State.shares, State.springTotal, State.sharers, ha, hE, hsp, hcap, hk]
  have hcmd : s.commandOf loads = t.commandOf loads := by
    funext shares c
    simp [State.commandOf, hel, hsp, hk, havail, hitems]
  simp only [State.distribution, hr, hcmd, hsh, ha, hE, hfr]

theorem State.eligible_iff {c : Chan} :
    s.eligible c = true ↔ (s.items c).isFitted = true ∧ (s.chans.get c).state.tested = true := by
  unfold State.eligible
  cases (s.chans.get c).state <;> simp [ChanState.tested]

/-- A channel is in E by its profile items and its state alone (R64). -/
theorem State.eligible_congr {c : Chan} (hp : s.store = t.store)
    (hc : (s.chans.get c).state.tested = (t.chans.get c).state.tested) : s.eligible c = t.eligible c := by
  rw [Bool.eq_iff_iff, State.eligible_iff, State.eligible_iff, hc]
  simp [State.items, hp]

/-! ## What a run leaves -/

/-- A run gives a command to the channels of E, and to no other (R61, R67). -/
theorem State.commandOf_requested (s : State) (loads : Six Nat) (shares : List (Chan × Nat)) (c : Chan) :
    (s.commandOf loads shares c).requested.isSome = s.eligible c := by
  unfold State.commandOf
  dsimp only
  split
  · rename_i h
    repeat' split
    all_goals simp [h]
  · rename_i h
    simp [Command.outside, h]

/-- A command leaves its channel in a state of E (R82, R87). -/
theorem Channel.command_tested (ch : Channel) (v : ChannelItems) (forced : Bool) (r : Requested) (duty frozen : Nat) :
    (ch.command v forced r duty frozen).state.tested = true := by
  show (outputsOf v ch.override r duty frozen).state.tested = true
  unfold outputsOf
  cases ch.override
  · cases r <;> rfl
  · dsimp only
    split <;> rfl
  · dsimp only
    repeat' split
    all_goals rfl

/-- The channels of E stay in it under their commands, and no other comes into it. -/
theorem State.handOver_tested (s : State) (loads : Six Nat) (fresh : Bool) (c : Chan) :
    ((s.handOver (s.distribution loads) fresh).get c).state.tested = (s.chans.get c).state.tested := by
  unfold State.handOver
  rw [Six.get_ofFn]
  dsimp only
  split
  · rename_i r hr
    split
    · have he : s.eligible c = true := by
        rw [← State.commandOf_requested s loads (s.shares loads) c]
        simp only [State.distribution, Six.get_ofFn] at hr
        simp [hr]
      rw [Channel.command_tested, (State.eligible_iff.1 he).2]
    · rfl
  · rfl

theorem State.distributeWith_eligible (s : State) (loads : Six Nat) (fresh : Bool) (c : Chan) :
    (s.distributeWith loads fresh).eligible c = s.eligible c :=
  State.eligible_congr (by simp) (by rw [State.distributeWith_chans, State.handOver_tested])

/-- A run's distribution is the one a run over what it leaves would find. -/
theorem State.distributeWith_settled (s : State) (loads : Six Nat) (fresh : Bool) :
    (s.distributeWith loads fresh).dist = (s.distributeWith loads fresh).distribution loads := by
  rw [State.distributeWith_dist]
  exact State.distribution_congr (by simp) (by simp) (by simp)
    (parkLive_of_holdSet (State.distributeWith_holdSet s loads fresh)).symm
    (fun c => (State.distributeWith_eligible s loads fresh c).symm) loads

/-! ## A set to a new value -/

/-- A set to a value it has already changes nothing else (R31). -/
theorem State.applyForce_of_same {a : Nat} (h : a = s.table.applied) :
    s.applyForce a = s.withTable { s.table with applied := a } := by
  simp [State.applyForce, h]

/-- A set to another value is handed to the Distribution Unit (R31). -/
theorem State.applyForce_of_change {a : Nat} (h : a ≠ s.table.applied) :
    s.applyForce a = (s.withTable { s.table with applied := a }).distribute := by
  simp [State.applyForce, h]

/-! ## Owners and handles of the records -/

/-- The handles and owners of the records, which tell whether one has been retired (R26). -/
def bearers (records : List Record) : List (Nat × Owner) := records.map fun r => (r.handle, r.owner)

/-- While the bearers stand, none is retired. -/
theorem retiredSince_of_bearers {before now : List Record} (h : ∀ x ∈ bearers before, x ∈ bearers now) :
    retiredSince before now = false := by
  rw [Bool.eq_false_iff, ne_eq, retiredSince_iff]
  rintro ⟨r, hr, -, hx⟩
  obtain ⟨x, hxm, he⟩ := List.mem_map.1 (h _ (List.mem_map.2 ⟨r, hr, rfl⟩))
  obtain ⟨hh, ho⟩ := Prod.mk.inj he
  exact hx x hxm hh ho

theorem bearers_map {f : Record → Record} (hh : ∀ r, (f r).handle = r.handle) (ho : ∀ r, (f r).owner = r.owner)
    (records : List Record) : bearers (records.map f) = bearers records := by
  simp [bearers, List.map_map, Function.comp_def, hh, ho]

@[simp] theorem bearers_heardRecords (b : Bool) (records : List Record) :
    bearers (heardRecords b records) = bearers records :=
  heardRecords_map (fun r => (r.handle, r.owner)) (fun r => by simp) b records

theorem bearers_updateRecord {h : Nat} {f : Record → Record} (hh : ∀ r, (f r).handle = r.handle)
    (ho : ∀ r, (f r).owner = r.owner) (records : List Record) :
    bearers (updateRecord records h f) = bearers records :=
  bearers_map (by intro r; split <;> simp [hh]) (by intro r; split <;> simp [ho]) records

/-- The end of an event that leaves the hold set and the bearers. -/
theorem State.conclude_of_bearers (hh : holdSet t.table.records = holdSet s.table.records)
    (hb : bearers t.table.records = bearers s.table.records) : State.conclude s t = t.refreshWarn :=
  State.conclude_of_same hh (retiredSince_of_bearers fun x hx => by rw [hb]; exact hx)

/-- The end of an event that makes a report of confirmation at most. -/
theorem State.conclude_of_heard {b : Bool} (h : t.table.records = heardRecords b s.table.records) :
    State.conclude s t = t.refreshWarn :=
  State.conclude_of_bearers (by rw [h]; simp) (by rw [h]; simp)

end Sys2Proof.Machine

/-! # The relief timer and the release timer (O31) -/

namespace Sys2Proof.Machine

variable {s : State}

/-- The part with its relief timer started again. -/
def State.relieving (s : State) : State := s.withTable { s.table with relief := .start }

@[simp] theorem State.relieving_table : s.relieving.table = { s.table with relief := .running 0 } := rfl

/-- At 2000 ms the relief timer sets A to the F_req of the latest offer and starts again; no hold follows (R30). -/
theorem exec_reliefTimerExpiry (hp : s.powered = true) {n : Nat} (hr : s.table.relief = .running n)
    (hn : Config.ms 2000 ≤ n) :
    exec .reliefTimerExpiry s =
      .next (s.relieving.applyForce s.force.fReq).refreshWarn := by
  have hd : s.reliefDue = true := by simp [State.reliefDue, hr, Timer.due, hn]
  show Host.Outcome.next (s.event fun t => if t.reliefDue then _ else t) = _
  rw [State.event_powered hp, if_pos hd]
  obtain ⟨b, hb⟩ := State.applyForce_table s.relieving s.force.fReq
  exact congrArg _ (State.conclude_of_heard (s := s) (b := b) (by show (s.relieving.applyForce _).table.records = _; rw [hb]; rfl))

theorem Record.backToHeld_owner (r : Record) : r.backToHeld.owner = r.owner := by
  unfold Record.backToHeld; split <;> rfl

/-- The release timer at 0 fails the release; no hold follows (R117). -/
theorem exec_releaseTimerExpiry (hp : s.powered = true) (ha : s.gate.armed = true) (hs : s.gate.supplyCause = false)
    (hm : s.gate.modeCause = false) (hr : s.gate.remaining = some 0) :
    exec .releaseTimerExpiry s = .next (s.releaseFails .releaseTimeout).refreshWarn := by
  have hd : s.releaseDue = true := by simp [State.releaseDue, Gate.suspended, ha, hs, hm, hr]
  show Host.Outcome.next (s.event fun t => if t.releaseDue then _ else t) = _
  rw [State.event_powered hp, if_pos hd]
  have hrec : (s.releaseFails .releaseTimeout).table.records = s.table.records.map Record.backToHeld := by
    rw [State.releaseFails_table]
  rw [State.conclude_of_bearers]
  · rw [hrec]
    exact holdSet_map Record.backToHeld_handle Record.backToHeld_cls _
  · rw [hrec]
    exact bearers_map Record.backToHeld_handle Record.backToHeld_owner _

/-- Settles O31: each timer's event in full, the relief by whether A changes. -/
theorem reliefAndReleaseTimersRunOut : Obligations.ReliefAndReleaseTimersRunOut := by
  intro s hp
  refine ⟨fun n hr hn => ⟨_, exec_reliefTimerExpiry hp hr hn, ?_⟩,
    fun ha hsu hm hr => ⟨_, exec_releaseTimerExpiry hp ha hsu hm hr, ?_⟩⟩
  · obtain ⟨b, hb⟩ := State.applyForce_table s.relieving s.force.fReq
    have hd : ∀ a : Nat, (s.relieving.withTable { s.relieving.table with applied := a }).distribution s.meas.loads =
        ({ s with table := { s.table with applied := a } } : State).distribution s.meas.loads := fun a =>
      State.distribution_congr rfl rfl rfl rfl (fun _ => rfl) _
    have hf : s.relieving.force = s.force ∧ s.relieving.gate = s.gate ∧ s.relieving.ctl = s.ctl ∧
        s.relieving.meas = s.meas ∧ s.keepsRest s.relieving := ⟨rfl, rfl, rfl, rfl, rfl, rfl, rfl, rfl, rfl, rfl⟩
    obtain ⟨hforce, hgate, hctl, hmeas, hrest⟩ := hf
    refine ⟨by simp [hb], by simp [hb], by simp [hb], by simp [hforce], by simp [hgate], fun he => ?_, fun he => ?_,
      by simpa [State.keepsRest] using hrest, by simp [hctl], by simp [hmeas]⟩
    · rw [State.applyForce_of_same (by simpa using he)]
      exact ⟨rfl, rfl⟩
    · rw [State.applyForce_of_change (by simpa using he)]
      simpa [State.distribute, hmeas] using hd _
  · refine ⟨?_, by simp [State.releaseFails, Gate.idle], ?_⟩
    · simp only [State.refreshWarn_table, State.releaseFails_table]
      rfl
    · simp [State.releaseFails, State.keepsRest]

end Sys2Proof.Machine

/-! # The drive and drum reports (O39) -/

namespace Sys2Proof.Machine

variable {s t : State}

/-! ## The reports' codes and figures -/

theorem byte_one_to_three {b : Byte} (h1 : 1 ≤ b.toNat) (h3 : b.toNat ≤ 3) : b = 1 ∨ b = 2 ∨ b = 3 := by bv_omega

theorem byte_one_to_four {b : Byte} (h1 : 1 ≤ b.toNat) (h4 : b.toNat ≤ 4) : b = 1 ∨ b = 2 ∨ b = 3 ∨ b = 4 := by
  bv_omega

/-- A gear code of 1..3 names a gear, and the effective drive force of a report follows (R42, R43). -/
theorem gearOf_some {b : Byte} (h1 : 1 ≤ b.toNat) (h3 : b.toNat ≤ 3) :
    ∃ g, gearOf b = some g ∧ g.code = b ∧ ∀ f : Word16, effectiveDrive g (clampForce f.toInt) = driveOf f b := by
  rcases byte_one_to_three h1 h3 with rfl | rfl | rfl
  · exact ⟨.forward, rfl, rfl, fun f => rfl⟩
  · exact ⟨.reverse, rfl, rfl, fun f => rfl⟩
  · exact ⟨.neutral, rfl, rfl, fun f => rfl⟩

theorem gearOf_none {b : Byte} (h : ¬(1 ≤ b.toNat ∧ b.toNat ≤ 3)) : gearOf b = none := by
  unfold gearOf
  split
  case h_4 => rfl
  all_goals omega

theorem drumModeOf_some {b : Byte} (h1 : 1 ≤ b.toNat) (h4 : b.toNat ≤ 4) : ∃ d, drumModeOf b = some d ∧ d.code = b := by
  rcases byte_one_to_four h1 h4 with rfl | rfl | rfl | rfl
  · exact ⟨.stopped, rfl, rfl⟩
  · exact ⟨.agitate, rfl, rfl⟩
  · exact ⟨.mix, rfl, rfl⟩
  · exact ⟨.discharge, rfl, rfl⟩

theorem drumModeOf_none {b : Byte} (h : ¬(1 ≤ b.toNat ∧ b.toNat ≤ 4)) : drumModeOf b = none := by
  unfold drumModeOf
  split
  case h_5 => rfl
  all_goals omega

theorem driveOf_range (f : Word16) (b : Byte) : -30000 ≤ driveOf f b ∧ driveOf f b ≤ 30000 := by
  unfold driveOf
  dsimp only
  repeat' split
  all_goals omega

/-- Two bytes tell a signed quantity of sixteen bits (R189). -/
theorem signed2_tells {d : Int} (h : -30000 ≤ d ∧ d ≤ 30000) :
    ∃ hi lo : Byte, signed2 d = [hi, lo] ∧ (hi ++ lo).toInt = d := by
  refine ⟨_, _, rfl, ?_⟩
  rw [byteOf_append_two, BitVec.ofNat_toNat, BitVec.setWidth_eq, BitVec.toInt_ofInt, Int.bmod_def]
  omega

/-! ## The run a report makes -/

/-- The part with a drive report taken, before its run (R42). -/
def State.driven (s : State) (force : Int) (gear : Gear) : State :=
  s.withMeas { s.meas with driveForce := clampForce force, gear := gear, driveAge := .running 0 }

theorem State.takeDrive_eq (s : State) (force : Int) (gear : Gear) :
    s.takeDrive force gear = (s.driven force gear).runAndOffer.gateEvaluate.driveEndsWatch := rfl

theorem State.gateEvaluate_idle (h : s.gate.armed = false) : s.gateEvaluate = s := by simp [State.gateEvaluate, h]

/-- A drive force other than 0 ends the watch-after, which is all a report does to the reference (R127). -/
theorem State.driveEndsWatch_eq (s : State) :
    ∃ m, s.driveEndsWatch = s.withMon m ∧
      (s.mon.ref = .watch → s.meas.drive ≠ 0 → m.ref = .clear ∧ m.watchAfter = .stopped) ∧
      (s.mon.ref ≠ .watch ∨ s.meas.drive = 0 → m.ref = s.mon.ref) := by
  unfold State.driveEndsWatch
  split
  · rename_i h
    exact ⟨_, rfl, fun _ _ => ⟨rfl, rfl⟩, fun hn => absurd h (by rintro ⟨h1, h2⟩; rcases hn with hn | hn <;> contradiction)⟩
  · rename_i h
    exact ⟨s.mon, rfl, fun h1 h2 => absurd ⟨h1, h2⟩ h, fun _ => rfl⟩

/-- A run and its offer is over the measurements and the holds as it leaves them. -/
theorem State.runAndOffer_fresh (s : State) : s.runAndOffer.force = s.runAndOffer.calculate := by
  obtain ⟨b, hb⟩ := s.runAndOffer_table
  rw [State.runAndOffer_force]
  exact State.calculate_congr (by simp) (by simp) (by rw [hb]; simp)

@[simp] theorem State.runAndOffer_ref (s : State) : s.runAndOffer.mon.ref = s.mon.ref := by
  rcases s.runAndOffer_mon with h | h <;> simp [h, Monitor.secure, Monitor.zeroCounters]

/-- What a report comes to: its run with the offer, and the end of the watch-after (R29, R42, R46). -/
theorem State.driven_result (ha : s.gate.armed = false) (force : Int) (gear : Gear) (code : Byte) (bytes : List Byte) :
    ∃ m : Monitor, State.conclude s ((s.done code bytes).takeDrive force gear) =
        ((s.withSlot (doneAnswer code bytes)).driven force gear).runAndOffer.withMon m ∧
      (s.mon.ref = .watch → effectiveDrive gear (clampForce force) ≠ 0 → m.ref = .clear ∧ m.watchAfter = .stopped) ∧
      (s.mon.ref ≠ .watch ∨ effectiveDrive gear (clampForce force) = 0 → m.ref = s.mon.ref) := by
  set v := ((s.withSlot (doneAnswer code bytes)).driven force gear).runAndOffer with hv
  have hg : v.gate.armed = false := by simpa [hv, State.driven, State.withSlot] using ha
  have hd : v.meas.drive = effectiveDrive gear (clampForce force) := by
    simp [hv, State.driven, Measure.drive, Timer.isRunning]
  have hr : v.mon.ref = s.mon.ref := by simp [hv, State.driven, State.withSlot]
  obtain ⟨m, hm, h1, h2⟩ := v.driveEndsWatch_eq
  obtain ⟨b, hb⟩ := ((s.withSlot (doneAnswer code bytes)).driven force gear).runAndOffer_table
  rw [State.done_eq, State.takeDrive_eq, ← hv, State.gateEvaluate_idle hg, hm,
    State.conclude_of_heard (s := s) (b := b) (by rw [State.withMon_table, hv, hb]; rfl)]
  refine ⟨_, rfl, ?_, ?_⟩
  · rw [← hd, ← hr]
    exact h1
  · rw [← hd, ← hr]
    exact h2

/-- The part with a drum report taken, before its run (R44). -/
def State.drummed (s : State) (d : DrumMode) (weight : Option Nat) : State :=
  s.withMeas { s.meas with drum := d, cRep := weight }

theorem State.drummed_result (s : State) (d : DrumMode) (weight : Option Nat) (code : Byte) (bytes : List Byte) :
    ∃ m : Monitor, State.conclude s (((s.done code bytes).withMeas { s.meas with drum := d, cRep := weight }).runAndOffer) =
      ((s.withSlot (doneAnswer code bytes)).drummed d weight).runAndOffer.withMon m := by
  obtain ⟨b, hb⟩ := ((s.withSlot (doneAnswer code bytes)).drummed d weight).runAndOffer_table
  rw [State.done_eq]
  exact ⟨_, State.conclude_of_heard (s := s) (b := b)
    (by show ((s.withSlot (doneAnswer code bytes)).drummed d weight).runAndOffer.table.records = _; rw [hb]; rfl)⟩

/-- What a run after a report leaves, whatever becomes of the monitor. -/
theorem State.report_leaves {u : State} (hu : s.keepsRest u) (hc : u.ctl = s.ctl) (ht : u.table = s.table) (m : Monitor) :
    (u.runAndOffer.withMon m).link.slot = u.link.slot ∧ (u.runAndOffer.withMon m).meas = u.meas ∧
      (u.runAndOffer.withMon m).force = (u.runAndOffer.withMon m).calculate ∧
      (u.runAndOffer.withMon m).table.applied = max s.table.applied (u.runAndOffer.withMon m).force.fReq ∧
      holdSet (u.runAndOffer.withMon m).table.records = holdSet s.table.records ∧
      s.keepsRest (u.runAndOffer.withMon m) ∧ (u.runAndOffer.withMon m).ctl = s.ctl := by
  obtain ⟨b, hb⟩ := u.runAndOffer_table
  obtain ⟨h1, h2, h3, h4, h5, h6⟩ := hu
  refine ⟨?_, by simp, ?_, ?_, ?_, by simp [State.keepsRest, h1, h2, h3, h4, h5, h6], by simp [hc]⟩
  · rw [State.withMon_link]
    exact State.linksTo_slot u.runAndOffer_linksTo
  · rw [State.withMon_force, State.runAndOffer_fresh]
    exact State.calculate_congr rfl rfl rfl
  · simp [ht, max_comm]
  · simp [hb, ht]

/-- Settles O39: the checks by the codes, then the run of a taken report; the lapse with the gate idle. -/
theorem reportsAreTaken : Obligations.ReportsAreTaken := by
  intro s ha
  refine ⟨fun ht hd hs => ⟨fun force gear hg => ?_, fun force gear h1 h3 => ?_, fun mode flag weight hb => ?_,
    fun mode flag weight h1 h4 hw => ?_⟩, fun n hp hr hn => ?_⟩
  · rw [exec_own (r := .driveState) ht rfl (by cases hm : s.ctl.mode <;> simp_all [Request.admitted, State.takes])]
    simp only [gearOf_none hg]
    rfl
  · obtain ⟨g, hg, hcode, hdrive⟩ := gearOf_some h1 h3
    obtain ⟨hi, lo, hb, htells⟩ := signed2_tells (driveOf_range force gear)
    obtain ⟨m, hm, hend, hstand⟩ := State.driven_result ha force.toInt g 0x30 (signed2 (effectiveDrive g (clampForce force.toInt)))
    rw [hdrive] at hm hend hstand
    obtain ⟨hslot, hmeas, hforce, happ, hset, hrest, hctl⟩ := State.report_leaves (s := s)
      (u := (s.withSlot (doneAnswer 0x30 (signed2 (driveOf force gear)))).driven force.toInt g)
      ⟨rfl, rfl, rfl, rfl, rfl, rfl⟩ rfl rfl m
    refine ⟨_, g, hi, lo, ?_, hcode, hslot.trans (by rw [hb]; rfl), htells, hmeas, ?_, hforce, happ, hset, hend,
      hstand, hrest, hctl⟩
    · rw [exec_own (r := .driveState) ht rfl (by cases hm : s.ctl.mode <;> simp_all [Request.admitted, State.takes])]
      simp only [hg, hdrive]
      exact congrArg _ hm
    · rw [hmeas, ← hdrive]
      rfl
  · rw [exec_own (r := .drumState) ht rfl (by cases hm : s.ctl.mode <;> simp_all [Request.admitted, State.takes])]
    by_cases hmode : 1 ≤ mode.toNat ∧ mode.toNat ≤ 4
    · obtain ⟨d, hdm, -⟩ := drumModeOf_some hmode.1 hmode.2
      simp only [hdm]
      rw [if_pos (by rcases hb with hb | hb; exact absurd hmode hb; exact hb)]
      rfl
    · simp only [drumModeOf_none hmode]
      rfl
  · obtain ⟨d, hdm, hcode⟩ := drumModeOf_some h1 h4
    obtain ⟨m, hm⟩ := s.drummed_result d (if flag = 0 then none else some weight.toNat) 0x31 []
    obtain ⟨hslot, hmeas, hforce, happ, hset, hrest, hctl⟩ := State.report_leaves (s := s)
      (u := (s.withSlot (doneAnswer 0x31 [])).drummed d (if flag = 0 then none else some weight.toNat))
      ⟨rfl, rfl, rfl, rfl, rfl, rfl⟩ rfl rfl m
    refine ⟨_, d, ?_, hcode, hslot, hmeas, hforce, happ, hset, hrest, hctl⟩
    rw [exec_own (r := .drumState) ht rfl (by cases hm : s.ctl.mode <;> simp_all [Request.admitted, State.takes])]
    simp only [hdm]
    rw [if_neg (by rintro ⟨hf, hw'⟩; have := hw hf; omega)]
    exact congrArg _ hm
  · have hd : s.driveStaleDue = true := by simp [State.driveStaleDue, hr, hn]
    refine ⟨(s.withMeas { s.meas with driveAge := .stopped }).warnNext, ?_⟩
    show Host.Outcome.next (s.event fun t => if t.driveStaleDue then _ else t) = _
    rw [State.event_powered hp, if_pos hd, State.gateEvaluate_idle (by simpa using ha),
      State.conclude_of_table (by simp)]
    rfl

end Sys2Proof.Machine

/-! # OPEN HOLD (O27) -/

namespace Sys2Proof.Machine

variable {s t u : State}

/-! ## Codes of the hold requests -/

/-- An owner code of 1..3 names the owner that has it. -/
theorem requestOwner_some {b : Byte} (h1 : 1 ≤ b.toNat) (h3 : b.toNat ≤ 3) :
    ∃ o, requestOwner b = some o ∧ o.code = b ∧ o.limit = (if b = 3 then 2 else 6) := by
  rcases byte_one_to_three h1 h3 with rfl | rfl | rfl
  · exact ⟨.cab, rfl, rfl, rfl⟩
  · exact ⟨.drum, rfl, rfl, rfl⟩
  · exact ⟨.service, rfl, rfl, rfl⟩

theorem requestOwner_none {b : Byte} (h : ¬(1 ≤ b.toNat ∧ b.toNat ≤ 3)) : requestOwner b = none := by
  unfold requestOwner
  split
  case h_4 => rfl
  all_goals omega

theorem classOf_some {b : Byte} (h1 : 1 ≤ b.toNat) (h3 : b.toNat ≤ 3) : ∃ k, classOf b = some k ∧ k.code = b := by
  rcases byte_one_to_three h1 h3 with rfl | rfl | rfl
  · exact ⟨.light, rfl, rfl⟩
  · exact ⟨.firm, rfl, rfl⟩
  · exact ⟨.park, rfl, rfl⟩

theorem classOf_none {b : Byte} (h : ¬(1 ≤ b.toNat ∧ b.toNat ≤ 3)) : classOf b = none := by
  unfold classOf
  split
  case h_4 => rfl
  all_goals omega

theorem HoldClass.code_park (k : HoldClass) : k = .park ↔ k.code = 3 := by cases k <;> decide

theorem HoldClass.code_inj {k k' : HoldClass} (h : k.code = k'.code) : k = k' := by
  revert h
  cases k <;> cases k' <;> decide

theorem Owner.code_inj {o o' : Owner} (h : o.code = o'.code) : o = o' := by
  revert h
  cases o <;> cases o' <;> decide

theorem Owner.code_eq_iff (o o' : Owner) : (o.code == o'.code) = (o == o') := by
  cases o <;> cases o' <;> decide

theorem expiryOf_eq (w : Word16) : expiryOf w = if w = 0 then none else some w.toNat := by
  have : w.toNat = 0 ↔ w = 0 := by bv_omega
  simp [expiryOf, this]

theorem expiryOf_isSome (w : Word16) : (expiryOf w).isSome = true ↔ w.toNat ≠ 0 := by
  unfold expiryOf; split <;> simp_all

theorem expiryOf_getD (w : Word16) : (expiryOf w).getD 0 = w.toNat := by
  unfold expiryOf; split <;> simp_all

/-! ## The checks (R13) -/

/-- The first failing check of an OPEN HOLD in RUN, by its codes. -/
theorem State.openHoldRefusal_run (hm : s.ctl.mode = .run) (owner cls : Byte) (expiry : Word16) :
    (badOpenHold owner cls expiry →
        s.openHoldRefusal (requestOwner owner) (classOf cls) (expiryOf expiry) = some .field) ∧
      (¬badOpenHold owner cls expiry → ∃ o k, requestOwner owner = some o ∧ o.code = owner ∧ classOf cls = some k ∧
        k.code = cls ∧
        s.openHoldRefusal (requestOwner owner) (classOf cls) (expiryOf expiry) =
          if s.mon.motion = .moving then some .moving
          else if 12 ≤ nonMonitorCount s.table.records then some .full
          else if (if owner = 3 then 2 else 6) ≤ (s.table.records.filter fun r => r.owner.code == owner).length then
            some .ownerLimit
          else none) := by
  by_cases ho : 1 ≤ owner.toNat ∧ owner.toNat ≤ 3
  · obtain ⟨o, hro, hoc, hlim⟩ := requestOwner_some ho.1 ho.2
    by_cases hk : 1 ≤ cls.toNat ∧ cls.toNat ≤ 3
    · obtain ⟨k, hck, hkc⟩ := classOf_some hk.1 hk.2
      have hbad : badOpenHold owner cls expiry ↔ (k = .park ∧ (expiryOf expiry).isSome = true) ∨ 600 < (expiryOf expiry).getD 0 := by
        have h3 : k = .park ↔ cls.toNat = 3 := by
          rw [HoldClass.code_park, hkc]
          bv_omega
        rw [expiryOf_isSome, expiryOf_getD, h3]
        simp only [badOpenHold, ho, hk, and_self, not_true_eq_false, false_or]
      have hown : ownedBy s.table.records o = (s.table.records.filter fun r => r.owner.code == owner).length := by
        simp only [ownedBy, ← hoc, Owner.code_eq_iff]
      refine ⟨fun hb => ?_, fun hb => ⟨o, k, hro, hoc, hck, hkc, ?_⟩⟩
      · simp only [State.openHoldRefusal, hm, hro, hck, if_pos (hbad.1 hb), ne_eq, not_true_eq_false, if_false]
      · simp only [State.openHoldRefusal, hm, hro, hck, if_neg (hbad.not.1 hb), hlim, hown, ne_eq, not_true_eq_false,
          if_false]
    · refine ⟨fun _ => ?_, fun hb => absurd (.inr (.inl hk)) hb⟩
      simp [State.openHoldRefusal, hm, hro, classOf_none hk]
  · refine ⟨fun _ => ?_, fun hb => absurd (.inl ho) hb⟩
    simp [State.openHoldRefusal, hm, requestOwner_none ho]

/-! ## The opening (R14) -/

/-- Under a sound gate an opening leaves the gate idle (R118). -/
theorem State.openRecord_idle (h : s.gateSound) (make : Nat → Record) : (s.openRecord make).gate = .idle := by
  rw [State.openRecord_gate]
  split
  · rename_i hf
    unfold State.gateSound at h
    split at h
    · obtain ⟨hr, hl, -⟩ := h
      obtain ⟨r, hrec⟩ := List.length_eq_one_iff.1 hl
      have : r.state = .releasing := (hr r (by simp [hrec])).1
      simp [hrec, Record.isReleasing, this] at hf
    · exact h.1
  · rfl

theorem openedRecord_state (o : Owner) (k : HoldClass) (tag : Option Byte) (e : Option Nat) (h : Nat) :
    (openedRecord o k tag e h).state ≠ .releasing := by simp [openedRecord]

/-- The new record stands at the end of an opening, ENGAGING or HELD. -/
theorem State.openRecord_mem (s : State) (make : Nat → Record) :
    make s.table.newHandle ∈ (s.openRecord make).table.records ∨
      (make s.table.newHandle).hold ∈ (s.openRecord make).table.records := by
  rw [State.openRecord_records]
  exact mem_heardRecords_of (by simp)

/-- A record that moves to HELD is itself but for its state. -/
theorem Record.hold_eq (r : Record) (h : r.state = .engaging) : r.hold = { r with state := .held } := by
  simp [Record.hold, h]

/-- An ENGAGING record that stays through what follows is found there as it was, or HELD. -/
theorem Sequel.stays_as (h : Sequel s t) (hs : s.noneReleasing) {r : Record}
    (hr : r ∈ s.table.records ∨ r.hold ∈ s.table.records) (he : r.state ≠ .releasing) :
    ∃ st, st ≠ .releasing ∧ { r with state := st } ∈ t.table.records := by
  have hone : ∀ x : Record, (x = r ∨ x = r.hold) → x ∈ t.table.records →
      ∃ st, st ≠ .releasing ∧ { r with state := st } ∈ t.table.records := by
    rintro x (rfl | rfl) hx
    · exact ⟨_, he, hx⟩
    · refine ⟨r.hold.state, by simpa using he, ?_⟩
      have : { r with state := r.hold.state } = r.hold := by
        unfold Record.hold
        split <;> rfl
      rwa [this]
  rcases hr with hr | hr <;> rcases h.stays hs hr with hx | hx
  · exact hone _ (.inl rfl) hx
  · exact hone _ (.inr rfl) hx
  · exact hone _ (.inr rfl) hx
  · exact hone _ (.inr (Record.hold_hold r)) hx

/-- What an opening leaves at the end of its event, whatever the part opens after it (R14, R26, R138). -/
theorem State.opened_leaves (hs : s.holdsSound) {make : Nat → Record} (hmk : ∀ h, (make h).state ≠ .releasing)
    (a : Answer) (h : Sequel ((s.openRecord make).withSlot a) t) :
    t.link.slot = a ∧
      holdSet (notReleasing s.table.records) ++ holdSet [make s.table.newHandle] <+: holdSet t.table.records ∧
      (∃ st, st ≠ .releasing ∧ { make s.table.newHandle with state := st } ∈ t.table.records) ∧
      t.freshForce ∧ t.table.relief = .stopped ∧ t.gate = .idle ∧ (s.table.records = [] → t.mon.ref = .holding) ∧
      s.keepsRest t ∧ t.ctl = s.ctl ∧ t.meas = s.meas := by
  have hn : ((s.openRecord make).withSlot a).noneReleasing := State.openRecord_noneReleasing s hmk
  obtain ⟨h1, h2, h3, h4, h5, h6⟩ := h.keepsRest
  refine ⟨h.slot, ?_, h.stays_as hn (State.openRecord_mem s make) (hmk _),
    h.freshForce (State.freshForce_congr rfl rfl rfl rfl rfl (State.openRecord_freshForce s make)),
    h.relief (State.openRecord_relief s make), h.gate (State.openRecord_idle hs.2 make),
    fun he => h.holding ((State.openRecord_ref s make).trans (if_pos he)), ?_,
    h.ctl.trans (State.openRecord_ctl s make), h.meas.trans (State.openRecord_meas s make)⟩
  · have := h.holds hn
    rwa [show holdSet ((s.openRecord make).withSlot a).table.records = _ from
      (State.openRecord_holdSet s make).trans (holdSet_append _ _)] at this
  · exact ⟨h1.trans (State.openRecord_powered s make), h2.trans (State.openRecord_now s make),
      h3.trans (State.openRecord_lines s make), h4.trans (State.openRecord_store s make),
      h5.trans (State.openRecord_freeCount s make), h6.trans (State.openRecord_pending s make)⟩

/-- What the part owes of its own is read of the monitor's aside (R26, R138). -/
theorem State.nothingFollows_congr (h : t.mon.aside = s.mon.aside) (hs : s.nothingFollows) : t.nothingFollows := by
  obtain ⟨ha, hp⟩ := hs
  have h1 : t.mon.autopark = s.mon.autopark := congrArg Monitor.Aside.autopark h
  have h2 : t.mon.pendantWant = s.mon.pendantWant := congrArg Monitor.Aside.pendantWant h
  exact ⟨by rwa [h1], by rwa [h2]⟩

/-- Settles O27: the checks by their codes, and the opening with what may follow it. -/
theorem openHoldChecksAndOpens : Obligations.OpenHoldChecksAndOpens := by
  intro s owner cls flag tag expiry ht hm
  have hexec : exec (.openHold owner cls flag tag expiry) s =
      .next (s.openHoldRule (requestOwner owner) (classOf cls) (tagOf flag tag) (expiryOf expiry)) := by
    rw [exec_own (r := .openHold) ht rfl (by rw [hm]; rfl)]
  obtain ⟨hbad, hgood⟩ := State.openHoldRefusal_run hm owner cls expiry
  have hrefused : ∀ reason, s.openHoldRefusal (requestOwner owner) (classOf cls) (expiryOf expiry) = some reason →
      exec (.openHold owner cls flag tag expiry) s = .next (s.withSlot (refusedAnswer 0x20 reason)) := by
    intro reason hr
    rw [hexec, State.openHoldRule, hr]
    rfl
  refine ⟨fun hb => hrefused _ (hbad hb), fun hb hmv => ?_, fun hb hmv hf => ?_, fun hb hmv hf ho => ?_,
    fun hb hmv hf ho hs => ?_⟩
  · obtain ⟨o, k, -, -, -, -, he⟩ := hgood hb
    exact hrefused _ (by rw [he, if_pos hmv])
  · obtain ⟨o, k, -, -, -, -, he⟩ := hgood hb
    exact hrefused _ (by rw [he, if_neg hmv, if_pos hf])
  · obtain ⟨o, k, -, -, -, -, he⟩ := hgood hb
    exact hrefused _ (by rw [he, if_neg hmv, if_neg (by omega)]; exact if_pos ho)
  · obtain ⟨o, k, hro, hoc, hck, hkc, he⟩ := hgood hb
    rw [if_neg hmv, if_neg (by omega)] at he
    replace he := he.trans (if_neg ho)
    have hrange := hs.1.2.2.1
    have hlen : s.table.records.length < 255 := by have := hs.1.2.2.2.1; omega
    obtain ⟨skip, hskip, hat, hused, -⟩ := HoldTable.newHandle_spec hrange hlen
    have hr255 := HoldTable.newHandle_range hrange hlen
    set make := openedRecord o k (tagOf flag tag) (expiryOf expiry) with hmake
    set v := (s.openRecord make).withSlot (doneAnswer 0x20 [BitVec.ofNat 8 s.table.newHandle]) with hv
    obtain ⟨hslot, hpre, ⟨st, hst, hmem⟩, hfresh, hrel, hgate, href, hrest, hctl, hmeas⟩ :=
      State.opened_leaves (make := make) hs (openedRecord_state _ _ _ _) _ (sequel_conclude s v)
    refine ⟨s.table.newHandle, o, k, State.conclude s v, ?_, hr255, HoldTable.newHandle_fresh hrange hlen, fun hfree => ?_,
      ⟨skip, by omega, hat, fun j hj => ?_⟩, fun hnf => ?_, hoc, hkc, hslot, hpre, ⟨st, hst, ?_⟩, hfresh, hrel, hgate,
      href, hrest, hctl, hmeas⟩
    · rw [hexec, State.openHoldRule, he, hro, hck]
      rfl
    · rcases Nat.eq_zero_or_pos skip with rfl | hpos
      · rw [hat, handleAt_zero hrange]
      · have := hused 0 hpos
        rw [handleAt_zero hrange] at this
        obtain ⟨r, hr, hh⟩ := by simpa [handleUsed] using this
        exact absurd hh (hfree r hr)
    · simpa [handleUsed, handleAt] using hused j hj
    · have hnf' : v.nothingFollows :=
        State.nothingFollows_congr (State.openRecord_aside s make) hnf
      rw [State.conclude_of_nothingFollows hnf', State.refreshWarn_table]
      refine ⟨?_, ?_⟩
      · show (s.openRecord make).table.nextHandle = _
        rw [State.openRecord_nextHandle, nextAfter]
        split <;> split <;> first | rfl | omega
      · show holdSet (s.openRecord make).table.records = _
        rw [State.openRecord_holdSet, holdSet_append]
        rfl
    · simpa [hmake, openedRecord, tagOf, expiryOf_eq] using hmem

end Sys2Proof.Machine

/-! # AMEND HOLD (O28) -/

namespace Sys2Proof.Machine

variable {s t u v : State}

/-! ## A record by its handle -/

theorem State.record_of_mem (hs : s.table.sound) {r : Record} (hr : r ∈ s.table.records) : s.record r.handle = some r := by
  cases h : s.record r.handle with
  | none => exact absurd (List.find?_eq_none.1 h r hr) (by simp)
  | some x =>
    have hx : x.handle = r.handle := by simpa using List.find?_some h
    rw [HoldTable.sound_unique hs (List.mem_of_find?_eq_some h) hr hx]

theorem State.record_none {h : Nat} (hn : ∀ r ∈ s.table.records, r.handle ≠ h) : s.record h = none :=
  List.find?_eq_none.2 fun r hr => by simpa using hn r hr

/-- In a sound table a change of one record replaces it by its image. -/
theorem updateRecord_replace (hs : s.table.sound) {r : Record} (hr : r ∈ s.table.records) (f : Record → Record) :
    updateRecord s.table.records r.handle f = s.table.records.map fun x => if x.handle = r.handle then f r else x :=
  List.map_congr_left fun x hx => by
    split
    · rename_i he
      rw [HoldTable.sound_unique hs hx hr he]
    · rfl

/-- No release is under way beside a record that is not RELEASING (R11, R106). -/
theorem State.noneReleasing_over (hs : s.holdsSound) {r : Record} (hr : r ∈ s.table.records) (hrel : r.state ≠ .releasing) :
    s.gate = .idle ∧ s.noneReleasing :=
  State.gateSoundIf_over (z := False) (State.holdsSound_if hs).2 hr hrel

/-! ## What follows retires nobody -/

theorem Sequel.bearers (h : Sequel s t) (hs : s.noneReleasing) :
    ∀ x ∈ bearers s.table.records, x ∈ bearers t.table.records := by
  intro x hx
  obtain ⟨r, hr, rfl⟩ := List.mem_map.1 hx
  rcases h.stays hs hr with hm | hm
  · exact List.mem_map.2 ⟨r, hm, rfl⟩
  · exact List.mem_map.2 ⟨r.hold, hm, by simp⟩

/-- The autopark evaluation opens nothing, or its record alone (R138). -/
theorem State.autoparkEvaluate_cases (s : State) :
    s.autoparkEvaluate = s ∨
      s.autoparkEvaluate = (s.openRecord (monitorRecord .autopark)).raiseHolds s.table.newHandle .none := by
  unfold State.autoparkEvaluate State.monitorOpening
  split
  · split
    · exact .inl rfl
    · exact .inr rfl
  · exact .inl rfl

/-- The end of an event that keeps every bearer: an AUTOPARK opening at most, and WARN follows its causes. -/
theorem State.conclude_of_keptBearers (hb : ∀ x ∈ bearers s.table.records, x ∈ bearers t.table.records)
    (hn : t.noneReleasing) :
    State.conclude s t = t.refreshWarn ∨
      State.conclude s t = ((t.openRecord (monitorRecord .autopark)).raiseHolds t.table.newHandle .none).refreshWarn := by
  rw [State.conclude_of_noneRetired (retiredSince_of_bearers hb) fun u hu =>
    retiredSince_of_bearers fun x hx => hu.bearers hn x (hb x hx)]
  split
  · rcases t.autoparkEvaluate_cases with he | he
    · exact .inl (by rw [he])
    · exact .inr (by rw [he])
  · exact .inl rfl

/-! ## The checks (R15) -/

/-- The owner codes of requests are those below 4. -/
theorem requestOwner_iff (b : Byte) (o : Owner) : requestOwner b = some o ↔ o.code = b ∧ b.toNat < 4 := by
  by_cases h : 1 ≤ b.toNat ∧ b.toNat ≤ 3
  · obtain ⟨o', ho', hc, -⟩ := requestOwner_some h.1 h.2
    rw [ho', Option.some.injEq]
    exact ⟨by rintro rfl; exact ⟨hc, by omega⟩, fun ⟨he, _⟩ => Owner.code_inj (hc.trans he.symm)⟩
  · rw [requestOwner_none h]
    refine ⟨by simp, ?_⟩
    rintro ⟨rfl, hlt⟩
    exact absurd ⟨by cases o <;> decide, by omega⟩ h

/-- An AMEND HOLD that passes its first field check names a class and an action (R15). -/
theorem amend_fields {cls action : Byte} {value : Word16} (h : ¬badAmendHold cls action value) :
    ∃ k act, classOf cls = some k ∧ k.code = cls ∧ expiryActionOf action value = some act ∧ act.badValue = false ∧
      ∀ old, act.apply old = amendedExpiry action value old := by
  simp only [badAmendHold, not_or, not_not] at h
  obtain ⟨hk, ha, hv⟩ := h
  obtain ⟨k, hck, hkc⟩ := classOf_some hk.1 hk.2
  rcases byte_one_to_three ha.1 ha.2 with rfl | rfl | rfl
  · refine ⟨k, .set value.toNat, hck, hkc, rfl, ?_, fun old => rfl⟩
    have hr : 1 ≤ value.toNat ∧ value.toNat ≤ 600 := by
      by_contra hn
      exact hv ⟨rfl, hn⟩
    simp only [ExpiryAction.badValue, Bool.or_eq_false_iff, decide_eq_false_iff_not]
    omega
  · exact ⟨k, .clear, hck, hkc, rfl, rfl, fun old => rfl⟩
  · exact ⟨k, .keep, hck, hkc, rfl, rfl, fun old => rfl⟩

theorem amendCheck_bad (hm : s.ctl.mode = .run) {cls action : Byte} {value : Word16} (hb : badAmendHold cls action value)
    (o : Option Owner) (h : Nat) :
    s.amendHoldCheck o h (classOf cls) (expiryActionOf action value) = .inl .field := by
  unfold State.amendHoldCheck
  rw [if_neg (by simp [hm])]
  rcases hb with hk | ha | ⟨rfl, hv⟩
  · rw [classOf_none hk]
  · have hn : expiryActionOf action value = none := by
      unfold expiryActionOf
      split <;> first | rfl | omega
    rw [hn]
    cases classOf cls <;> rfl
  · have he : expiryActionOf 1 value = some (.set value.toNat) := rfl
    rw [he]
    cases classOf cls with
    | none => rfl
    | some k =>
      have : (ExpiryAction.set value.toNat).badValue = true := by
        simp only [ExpiryAction.badValue, Bool.or_eq_true, decide_eq_true_eq]
        omega
      simp [this]

/-- The checks of an AMEND HOLD of a live record, after the first field check (R15). -/
theorem amendCheck_live (hm : s.ctl.mode = .run) (hs : s.table.sound) {r : Record} (hr : r ∈ s.table.records)
    {act : ExpiryAction} (hb : act.badValue = false) (o : Option Owner) (k : HoldClass) :
    s.amendHoldCheck o r.handle (some k) (some act) =
      if o ≠ some r.owner then .inl .notOwner
      else if r.isReleasing then .inl .state
      else if k = .park ∧ (act.apply r.expiry).isSome then .inl .field
      else .inr (r, k, act) := by
  have h0 : r.handle ≠ 0 := by have := (hs.1 r hr).1; omega
  unfold State.amendHoldCheck
  rw [if_neg (by simp [hm])]
  simp only [hb, Bool.false_eq_true, if_false, State.record_of_mem hs hr, h0]

/-! ## The amend of a class (R10, R16) -/

/-- The record as an amend of its class leaves it, and the part right after that change. -/
theorem State.withHold_distConfirmed (hs : s.table.sound) {r : Record} (hr : r ∈ s.table.records) (f : Record → Record)
    (hf : (f r).handle = r.handle) : (s.withHold (f r)).distConfirmed = (s.changed r.handle f).distConfirmed := by
  unfold State.changed State.withHold
  rw [State.reportConfirmed_distConfirmed, hf, ← updateRecord_replace hs hr f]
  rfl

theorem holdSet_updateRecord (hs : s.table.sound) {r : Record} (hr : r ∈ s.table.records) {f : Record → Record}
    (hf : ∀ x, (f x).handle = x.handle) :
    holdSet (updateRecord s.table.records r.handle f) =
      (holdSet s.table.records).map fun x => if x.1 = r.handle then (x.1, (f r).cls) else x := by
  rw [updateRecord_replace hs hr]
  simp only [holdSet, List.map_map]
  refine List.map_congr_left fun x hx => ?_
  simp only [Function.comp_apply]
  split
  · rename_i he
    rw [hf, he]
  · rfl

/-- Of a changed record the table holds that form alone. -/
theorem mem_updateRecord_unique (hs : s.table.sound) {r x : Record} (hr : r ∈ s.table.records) {f : Record → Record}
    (hx : x ∈ updateRecord s.table.records r.handle f) (hh : x.handle = r.handle) :
    x = f r := by
  rw [updateRecord_replace hs hr] at hx
  obtain ⟨y, hy, rfl⟩ := List.mem_map.1 hx
  split
  · rfl
  · rename_i hne
    rw [if_neg hne] at hh
    exact absurd hh hne

/-- Where a changed record stands: ENGAGING while the distribution that the change leaves is not confirmed, and else HELD. -/
theorem State.changed_mem (hs : s.table.sound) {r : Record} (hr : r ∈ s.table.records) {f : Record → Record}
    (hf : ∀ y, (f y).handle = y.handle) (he : (f r).state = .engaging) :
    ((s.changed r.handle f).distConfirmed = false → f r ∈ (s.changed r.handle f).table.records) ∧
      ({ f r with state := .held } ∈ (s.changed r.handle f).table.records ↔
        (s.changed r.handle f).distConfirmed = true) := by
  have hself : f r ∈ updateRecord s.table.records r.handle f := mem_updateRecord_self hr
  rw [State.changed_table]
  cases hc : (s.changed r.handle f).distConfirmed with
  | false =>
    refine ⟨fun _ => hself, fun hx => ?_, by simp⟩
    have := mem_updateRecord_unique hs hr (x := { f r with state := .held }) hx (hf r)
    have hst : RecState.held = (f r).state := congrArg Record.state this
    rw [he] at hst
    cases hst
  | true =>
    refine ⟨by simp, fun _ => rfl, fun _ => ?_⟩
    rw [← Record.hold_eq _ he]
    exact List.mem_map_of_mem hself

theorem State.changed_noneReleasing {h : Nat} {f : Record → Record} (hn : s.noneReleasing)
    (hf : ∀ y, y.state ≠ .releasing → (f y).state ≠ .releasing) : (s.changed h f).noneReleasing := by
  rw [State.noneReleasing, State.changed_table]
  refine heardRecords_noneReleasing fun x hx => ?_
  obtain ⟨y, hy, rfl⟩ := List.mem_map.1 hx
  split
  · exact hf y (hn y hy)
  · exact hn y hy

theorem State.changed_bearers (s : State) {h : Nat} {f : Record → Record} (hf : ∀ y, (f y).handle = y.handle)
    (ho : ∀ y, (f y).owner = y.owner) : bearers (s.changed h f).table.records = bearers s.table.records := by
  rw [State.changed_table]
  simp [bearers_updateRecord hf ho]

theorem State.changed_keepsRest (s : State) (h : Nat) (f : Record → Record) : s.keepsRest (s.changed h f) := by
  simp [State.keepsRest, State.changed, State.changing]

theorem State.keepsRest_trans (hs : s.keepsRest u) (ht : u.keepsRest t) : s.keepsRest t := by
  obtain ⟨h1, h2, h3, h4, h5, h6⟩ := hs
  obtain ⟨g1, g2, g3, g4, g5, g6⟩ := ht
  exact ⟨g1.trans h1, g2.trans h2, g3.trans h3, g4.trans h4, g5.trans h5, g6.trans h6⟩

/-- Where a record that a change made ENGAGING stands at the end of the event: as the distribution of the change has it, or that
of an AUTOPARK opening after it. -/
theorem State.conclude_changed {r' : Record} (hb : bearers v.table.records = bearers s.table.records)
    (hn : v.noneReleasing) (he : r'.state = .engaging) (heng : v.distConfirmed = false → r' ∈ v.table.records)
    (hheld : { r' with state := .held } ∈ v.table.records ↔ v.distConfirmed = true) :
    ((r' ∈ (State.conclude s v).table.records ∧ (State.conclude s v).distConfirmed = false ∧ v.distConfirmed = false) ∨
      ({ r' with state := .held } ∈ (State.conclude s v).table.records ∧
        ((State.conclude s v).distConfirmed = true ∨ v.distConfirmed = true))) ∧
    ((State.conclude s v).table.records.length = s.table.records.length →
      ({ r' with state := .held } ∈ (State.conclude s v).table.records ↔ (State.conclude s v).distConfirmed = true)) := by
  have hvlen : v.table.records.length = s.table.records.length := by
    simpa [bearers] using congrArg List.length hb
  rcases State.conclude_of_keptBearers (s := s) (t := v) (fun x hx => by rwa [hb]) hn with hc | hc
  · have hrec : (State.conclude s v).table.records = v.table.records := by rw [hc]; rfl
    have hd : (State.conclude s v).distConfirmed = v.distConfirmed := by rw [hc]; exact State.distConfirmed_congr rfl rfl
    rw [hrec, hd]
    refine ⟨?_, fun _ => hheld⟩
    cases hb : v.distConfirmed with
    | false => exact .inl ⟨heng hb, rfl, rfl⟩
    | true => exact .inr ⟨hheld.2 hb, .inl rfl⟩
  · have hd : (State.conclude s v).distConfirmed = (v.openRecord (monitorRecord .autopark)).distConfirmed := by
      rw [hc]; exact State.distConfirmed_congr (by simp) (by simp)
    have hrec : (State.conclude s v).table.records = heardRecords (State.conclude s v).distConfirmed
        (v.table.records ++ [monitorRecord .autopark v.table.newHandle]) := by
      rw [hd, hc]
      simpa [notReleasing_of_none hn] using State.openRecord_records v (monitorRecord .autopark)
    refine ⟨?_, fun hlen => ?_⟩
    · rw [hrec]
      cases hb : v.distConfirmed with
      | false =>
        have hin : r' ∈ v.table.records ++ [monitorRecord .autopark v.table.newHandle] := List.mem_append_left _ (heng hb)
        cases hd : (State.conclude s v).distConfirmed with
        | false => exact .inl ⟨hin, rfl, rfl⟩
        | true =>
          refine .inr ⟨?_, .inl rfl⟩
          rw [← Record.hold_eq _ he]
          exact List.mem_map_of_mem hin
      | true => exact .inr ⟨heardRecords_keeps (List.mem_append_left _ (hheld.2 hb)) (by simp), .inr rfl⟩
    · rw [hrec, heardRecords_length, List.length_append, List.length_singleton] at hlen
      omega

/-- The same where the answer has been placed. -/
theorem State.conclude_changed_answered {r' : Record} (hb : bearers v.table.records = bearers s.table.records)
    (hn : v.noneReleasing) (he : r'.state = .engaging) (heng : v.distConfirmed = false → r' ∈ v.table.records)
    (hheld : { r' with state := .held } ∈ v.table.records ↔ v.distConfirmed = true) (a : Answer)
    (ht : t = State.conclude s (v.withSlot a)) :
    ((r' ∈ t.table.records ∧ t.distConfirmed = false ∧ v.distConfirmed = false) ∨
      ({ r' with state := .held } ∈ t.table.records ∧ (t.distConfirmed = true ∨ v.distConfirmed = true))) ∧
    (t.table.records.length = s.table.records.length →
      ({ r' with state := .held } ∈ t.table.records ↔ t.distConfirmed = true)) :=
  ht ▸ State.conclude_changed (v := v.withSlot a) hb hn he heng hheld

/-- What follows a change whose answer is placed, told of the change. -/
theorem Sequel.answered {a : Answer} (h : Sequel (v.withSlot a) t) (hn : v.noneReleasing) (hf : v.freshForce)
    (hr : v.table.relief = .stopped) :
    t.link.slot = a ∧ holdSet v.table.records <+: holdSet t.table.records ∧ t.freshForce ∧ t.table.relief = .stopped ∧
      v.keepsRest t ∧ t.ctl = v.ctl ∧ t.meas = v.meas :=
  ⟨h.slot, h.holds hn, h.freshForce (State.freshForce_congr rfl rfl rfl rfl rfl hf), h.relief hr, h.keepsRest, h.ctl, h.meas⟩

/-- What an amend of the class of a live record leaves, whatever the part opens after it (R10, R16). -/
theorem State.amended_leaves (hs : s.holdsSound) {r : Record} (hr : r ∈ s.table.records) (hrel : r.state ≠ .releasing)
    {f : Record → Record} (hf : ∀ y, (f y).handle = y.handle) (he : ∀ y, (f y).state = .engaging) (a : Answer)
    (hq : Sequel ((s.changed r.handle f).withSlot a) t) :
    t.link.slot = a ∧
      ((holdSet s.table.records).map fun x => if x.1 = r.handle then (x.1, (f r).cls) else x) <+:
        holdSet t.table.records ∧
      t.freshForce ∧ t.table.relief = .stopped ∧ s.keepsRest t ∧ t.ctl = s.ctl ∧ t.meas = s.meas := by
  obtain ⟨-, hn⟩ := State.noneReleasing_over hs hr hrel
  have hset : holdSet (s.changed r.handle f).table.records =
      (holdSet s.table.records).map fun x => if x.1 = r.handle then (x.1, (f r).cls) else x := by
    rw [State.changed_table, heardRecords_holdSet, holdSet_updateRecord hs.1 hr hf]
  have hrelief : (s.changed r.handle f).table.relief = .stopped := by rw [State.changed_table]
  obtain ⟨hslot, hholds, hfresh, hrel, hrest, hctl, hmeas⟩ :=
    hq.answered (State.changed_noneReleasing hn fun y _ => by simp [he y]) (State.changed_freshForce s _ _) hrelief
  rw [hset] at hholds
  exact ⟨hslot, hholds, hfresh, hrel, State.keepsRest_trans (State.changed_keepsRest s _ _) hrest,
    hctl.trans (State.changed_ctl s _ _), hmeas.trans (State.changed_meas s _ _)⟩

/-- Settles O28: the checks by their codes; an amend of the expiry alone, and one of the class. -/
theorem amendHoldChecksAndAmends : Obligations.AmendHoldChecksAndAmends := by
  intro s owner handle cls action value ht hm
  have hexec : exec (.amendHold owner handle cls action value) s =
      .next (s.amendHoldRule (requestOwner owner) handle.toNat (classOf cls) (expiryActionOf action value)) := by
    rw [exec_own (r := .amendHold) ht rfl (by rw [hm]; rfl)]
  have hrefused : ∀ reason, s.amendHoldCheck (requestOwner owner) handle.toNat (classOf cls) (expiryActionOf action value) =
      .inl reason → exec (.amendHold owner handle cls action value) s = .next (s.withSlot (refusedAnswer 0x21 reason)) := by
    intro reason hr
    rw [hexec, State.amendHoldRule, hr]
    rfl
  refine ⟨fun hb => hrefused _ (amendCheck_bad hm hb _ _), fun hb hno => ?_, fun hb hs r hr hh => ?_⟩
  · obtain ⟨k, act, hck, -, hact, hbv, -⟩ := amend_fields hb
    refine hrefused _ ?_
    unfold State.amendHoldCheck
    rw [if_neg (by simp [hm]), hck, hact]
    dsimp only
    rw [if_neg (by simp [hbv])]
    rcases hno with rfl | hno
    · cases hrec : s.record (0 : Byte).toNat with
      | none => rfl
      | some r => rfl
    · rw [State.record_none hno]
  · obtain ⟨k, act, hck, hkc, hact, hbv, happly⟩ := amend_fields hb
    have hlive := amendCheck_live hm hs.1 hr hbv (requestOwner owner) k
    rw [hh, ← hck, ← hact] at hlive
    refine ⟨fun hno => hrefused _ ?_, fun hoc hlt => ⟨fun hst => hrefused _ ?_, fun hst => ⟨fun hp he => hrefused _ ?_, fun hpe => ?_⟩⟩⟩
    · rw [hlive, if_pos]
      rw [ne_eq, requestOwner_iff]
      rintro ⟨h1, h2⟩
      rcases hno with hno | hno
      · exact hno h1
      · omega
    · rw [hlive, if_neg (by simp [requestOwner_iff, hoc, hlt]), if_pos (by simp [Record.isReleasing, hst])]
    · rw [hlive, if_neg (by simp [requestOwner_iff, hoc, hlt]), if_neg (by simp [Record.isReleasing, hst]), if_pos]
      refine ⟨(HoldClass.code_park k).2 (hkc.trans hp), ?_⟩
      rw [happly]
      exact Option.isSome_iff_ne_none.2 he
    · have hok : s.amendHoldCheck (requestOwner owner) handle.toNat (classOf cls) (expiryActionOf action value) =
          .inr (r, k, act) := by
        rw [hlive, if_neg (by simp [requestOwner_iff, hoc, hlt]), if_neg (by simp [Record.isReleasing, hst]), if_neg]
        rintro ⟨hkp, hsome⟩
        rw [happly, hpe (hkc.symm.trans ((HoldClass.code_park k).1 hkp))] at hsome
        cases hsome
      have hres : exec (.amendHold owner handle cls action value) s =
          .next (State.conclude s ((s.amend r k act).withSlot (doneAnswer 0x21 [handle]))) := by
        rw [hexec, State.amendHoldRule, hok]
        simp only [State.done_eq]
        rw [show byteOf handle.toNat = handle by simp [byteOf]]
      refine ⟨fun hsame => ?_, fun hne => ?_⟩
      · have hkr : k = r.cls := HoldClass.code_inj (hkc.trans hsame.symm)
        have ham : s.amend r k act = s.changing r.handle (Record.amended k act false) := by
          rw [State.amend_eq, if_neg (by simp [hkr])]
        have hrec : updateRecord s.table.records r.handle (Record.amended k act false) =
            s.table.records.map fun x =>
              if x.handle = r.handle then { x with expiry := amendedExpiry action value r.expiry } else x := by
          refine List.map_congr_left fun x hx => ?_
          split
          · rename_i he
            rw [HoldTable.sound_unique hs.1 hx hr he]
            simp [Record.amended, hkr, happly]
          · rfl
        refine ⟨((s.amend r k act).withSlot (doneAnswer 0x21 [handle])).warnNext, hres.trans (congrArg _ ((State.conclude_of_bearers ?_ ?_).trans ?_))⟩
        · rw [ham]
          exact State.changing_holdSet hs.1 hr hkr rfl
        · rw [ham]
          exact bearers_updateRecord (f := Record.amended k act false) (fun _ => rfl) (fun _ => rfl) _
        · rw [ham, State.changing, hrec]
          rfl
      · have ham : s.amend r k act = s.changed r.handle (Record.amended k act true) := by
          rw [State.amend_eq, if_pos]
          rw [bne_iff_ne]
          rintro rfl
          exact hne hkc
        obtain ⟨hslot, hpre, hfresh, hrel, hrest, hctl, hmeas⟩ := State.amended_leaves hs hr hst
          (f := Record.amended k act true) (fun _ => rfl) (fun _ => rfl) (doneAnswer 0x21 [handle]) (sequel_conclude s _)
        obtain ⟨-, hn⟩ := State.noneReleasing_over hs hr hst
        obtain ⟨heng, hheld⟩ := State.changed_mem hs.1 hr (f := Record.amended k act true) (fun _ => rfl) rfl
        have hdc := State.withHold_distConfirmed hs.1 hr (Record.amended k act true) rfl
        obtain ⟨hmem, hlen⟩ := State.conclude_changed_answered
          (r' := Record.amended k act true r) (s := s) (v := s.changed r.handle (Record.amended k act true))
          (State.changed_bearers s (fun _ => rfl) (fun _ => rfl))
          (State.changed_noneReleasing hn fun _ _ => by simp [Record.amended]) rfl heng hheld (doneAnswer 0x21 [handle]) rfl
        rw [← hdc] at hmem
        have hform : Record.amended k act true r = { r with
            cls := k, expiry := amendedExpiry action value r.expiry, state := .engaging } := by
          simp [Record.amended, happly]
        exact ⟨k, _, _, hres.trans (by rw [ham]), hkc, hslot, hpre, hform, hmem, hlen, hfresh, hrel, hrest, hctl, hmeas⟩

end Sys2Proof.Machine

/-! # The release of a hold, and the gate over the last one -/

namespace Sys2Proof.Machine

variable {s t v : State}

/-! ## The gate's conditions -/

/-- The gate condition over the latest run and the drive force is the one of R108. -/
theorem State.gateMet_iff (s : State) : s.gateMet = true ↔ s.letsGo s.force s.meas.drive := by
  unfold State.gateMet gateCondition State.letsGo
  split
  · rename_i h
    simp [h]
  · rename_i h
    split
    · rename_i hd
      simp only [decide_eq_true_eq, h, false_or]
      omega
    · split
      · simp only [decide_eq_true_eq, h, false_or]
        omega
      · simp only [Bool.false_eq_true, h, false_or, false_iff]
        omega

theorem mem_allChans (c : Chan) : c ∈ allChans := by fin_cases c <;> decide

theorem State.mem_inE {c : Chan} : c ∈ s.inE ↔ s.eligible c = true := by simp [State.inE, mem_allChans]

theorem State.lowSpring_iff (s : State) :
    (s.inE.any fun c => (s.items c).springs && s.lowSupply c) = true ↔ s.lowSpring := by
  simp [State.lowSpring, State.mem_inE, List.any_eq_true]

/-! ## A release (R19) -/

/-- The release of a record beside others retires it (R19). -/
theorem State.release_retires (hs : s.table.sound) (hn : s.noneReleasing) {r : Record} (hr : r ∈ s.table.records)
    (hl : 1 < s.table.records.length) : s.releaseRetires r = true ∧ s.release r = s.retire r.handle false := by
  have hrel : r.isReleasing = false := by simpa [Record.isReleasing] using hn r hr
  have hany : (s.table.records.any fun x => x.handle != r.handle && !x.isReleasing) = true := by
    by_contra hno
    have hall : ∀ x ∈ s.table.records, x = r := by
      intro x hx
      refine HoldTable.sound_unique hs hx hr ?_
      by_contra hne
      have hxr : x.isReleasing = false := by simpa [Record.isReleasing] using hn x hx
      exact hno (List.any_eq_true.2 ⟨x, hx, by simp [hne, hxr]⟩)
    have hle := (List.nodup_iff_count_le_one.1 hs.2.1.of_map) r
    rw [List.eq_replicate_of_mem hall, List.count_replicate_self] at hle
    omega
  exact ⟨by simp [State.releaseRetires, hrel, hany], by simp [State.release, hrel, hany]⟩

/-- The release of the last record arms the gate over it, which decides and judges (R107). -/
theorem State.release_last {r : Record} (hr : s.table.records = [r]) (hrel : r.state ≠ .releasing) :
    s.releaseRetires r = false ∧ s.release r = (s.armed r.handle).gateDecide.gateEvaluate := by
  have hi : r.isReleasing = false := by simpa [Record.isReleasing] using hrel
  exact ⟨by simp [State.releaseRetires, hr], by
    unfold State.release
    rw [if_neg (by simp [hi]), if_neg (by simp [hr])]
    rfl⟩

/-- The last record RELEASING, alone in the table. -/
theorem State.armed_records {r : Record} (hr : s.table.records = [r]) :
    (s.armed r.handle).table = { s.table with records := [{ r with state := .releasing }] } := by
  simp [State.armed, hr, updateRecord]

theorem State.armed_gate (s : State) (h : Nat) : (s.armed h).gate =
    ⟨true, h, some (Config.ms s.vehicle.releaseTimeout.toNat), false, s.ctl.mode != .run⟩ := rfl

/-- The supply cause over the last record: it is PARK, and a spring channel in E is supply-low (R112). -/
theorem State.armed_supplyCause {r : Record} (hr : s.table.records = [r]) :
    (s.armed r.handle).supplyCauseHolds = true ↔ r.cls = .park ∧ s.lowSpring := by
  have hrec : (s.armed r.handle).record r.handle = some { r with state := .releasing } := by
    simp [State.record, State.armed_records hr]
  have hlow : ((s.armed r.handle).inE.any fun c => ((s.armed r.handle).items c).springs && (s.armed r.handle).lowSupply c) =
      (s.inE.any fun c => (s.items c).springs && s.lowSupply c) := rfl
  unfold State.supplyCauseHolds
  rw [hlow, show (s.armed r.handle).gate.handle = r.handle from rfl, hrec]
  simp [State.armed_gate, ← State.lowSpring_iff]

/-- The three ways of the gate over the last record (R107, R112, R114): under a supply cause it is suspended with SUPPLY raised;
without one it stays armed, or the truck drives off. -/
theorem State.armed_judged {r : Record} (hr : s.table.records = [r]) :
    (r.cls = .park ∧ s.lowSpring →
        (s.armed r.handle).gateDecide.gateEvaluate =
          ((s.armed r.handle).withGate { (s.armed r.handle).gate with supplyCause := true }).raise .supply) ∧
      (¬(r.cls = .park ∧ s.lowSpring) → ¬(s.ctl.mode = .run ∧ s.letsGo s.force s.meas.drive) →
        (s.armed r.handle).gateDecide.gateEvaluate = s.armed r.handle) ∧
      (¬(r.cls = .park ∧ s.lowSpring) → s.ctl.mode = .run ∧ s.letsGo s.force s.meas.drive →
        (s.armed r.handle).gateDecide.gateEvaluate = (s.armed r.handle).driveOff) := by
  have hdecide : ¬(r.cls = .park ∧ s.lowSpring) → (s.armed r.handle).gateDecide = s.armed r.handle := by
    intro h
    have hf : (s.armed r.handle).supplyCauseHolds = false := by
      rw [Bool.eq_false_iff, ne_eq, State.armed_supplyCause hr]
      exact h
    simp [State.gateDecide, State.armed_gate, hf]
  have hmet : (s.armed r.handle).gateMet = s.gateMet := rfl
  refine ⟨fun h => ?_, fun h hn => ?_, fun h hg => ?_⟩
  · have ht := (State.armed_supplyCause hr).2 h
    have hd : (s.armed r.handle).gateDecide =
        ((s.armed r.handle).withGate { (s.armed r.handle).gate with supplyCause := true }).raise .supply := by
      simp [State.gateDecide, State.armed_gate, ht]
    rw [hd]
    unfold State.gateEvaluate
    rw [if_neg]
    simp [Gate.suspended]
  · rw [hdecide h]
    unfold State.gateEvaluate
    rw [if_neg]
    rw [hmet, State.armed_gate]
    simp only [Gate.suspended, Bool.true_and, Bool.false_or, Bool.and_eq_true, Bool.not_eq_true', bne_eq_false_iff_eq,
      State.gateMet_iff]
    exact hn
  · rw [hdecide h]
    unfold State.gateEvaluate
    rw [if_pos]
    rw [hmet, State.armed_gate]
    simp only [Gate.suspended, Bool.true_and, Bool.false_or, Bool.and_eq_true, Bool.not_eq_true', bne_eq_false_iff_eq,
      State.gateMet_iff]
    exact hg

/-! ## A drive-off (R116) -/

/-- Whose records can follow: the part's own and the pendant's. -/
theorem Follow.owners (h : Follow s t) {p : Owner → Prop} (hm : p .monitor) (hp : p .pendant)
    (hs : ∀ x ∈ s.table.records, p x.owner) : ∀ x ∈ t.table.records, p x.owner := by
  have hopen : ∀ make : Nat → Record, (∀ n, p (make n).owner) → ∀ x ∈ (s.openRecord make).table.records, p x.owner := by
    intro make hmk x hx
    rw [State.openRecord_records] at hx
    obtain ⟨y, hy, hxy⟩ := mem_heardRecords hx
    have hpy : p y.owner := by
      rcases List.mem_append.1 hy with hk | hn
      · exact hs y (mem_notReleasing.1 hk).1
      · rw [List.mem_singleton.1 hn]
        exact hmk _
    rcases hxy with rfl | rfl
    · exact hpy
    · simpa using hpy
  cases h with
  | cause c _ => simpa using hopen (monitorRecord c) fun n => by simpa [monitorRecord] using hm
  | pendant _ _ => simpa using hopen pendantRecord fun n => by simpa [pendantRecord] using hp
  | want w => simpa using hs
  | warn => simpa using hs

theorem Sequel.owners (h : Sequel s t) {p : Owner → Prop} (hm : p .monitor) (hp : p .pendant)
    (hs : ∀ x ∈ s.table.records, p x.owner) : ∀ x ∈ t.table.records, p x.owner := by
  induction h with
  | refl => exact hs
  | tail _ hf ih => exact hf.owners hm hp ih

/-- A drive-off leaves the gate idle, HOLDS told, the forces fresh, every counter at 0 and the reference CLEAR where it empties
the table (R116, R126). -/
theorem State.driveOff_leaves {x : Record} (hx : v.table.records = [x]) (hg : v.gate.handle = x.handle) :
    v.driveOff.table.records = [] ∧ v.driveOff.gate = .idle ∧ v.driveOff.link.pending.getLsbD 0 = true ∧
      v.driveOff.freshForce ∧ v.driveOff.countersAtZero ∧ v.driveOff.mon.ref = .clear ∧
      v.driveOff.mon.watchAfter = .stopped ∧
      v.driveOff.mon.inhibit = (v.mon.inhibit || x.cause == some .autopark) ∧ v.driveOff.mon.aside = v.mon.aside ∧
      v.driveOff.link.slot = v.link.slot := by
  have hgone : othersThan v.table.records v.gate.handle = [] := by simp [hx, hg, othersThan]
  obtain ⟨b, -, ht⟩ := v.retire_table v.gate.handle true
  obtain ⟨href, hwatch⟩ := v.retire_reference v.gate.handle true hgone
  refine ⟨by simp [State.driveOff, ht, hgone], by simp [State.driveOff], by simp [State.driveOff], ?_, ?_,
    by simp [State.driveOff, href], by simp [State.driveOff, hwatch], ?_, by simp [State.driveOff],
    by simpa [State.driveOff] using State.linksTo_slot (v.retire_linksTo v.gate.handle true)⟩
  · exact State.freshForce_congr (by simp [State.driveOff]) (by simp [State.driveOff]) (by simp [State.driveOff])
      (by simp [State.driveOff]) (by simp [State.driveOff]) (v.retire_freshForce v.gate.handle true)
  · have hm : v.driveOff.mon =
        ((v.parting v.gate.handle).holdSetChange (parkLive v.table.records)).mon.dropReference := by
      simp [State.driveOff, State.retire_eq, hgone, Monitor.emptied]
    intro c
    rw [hm]
    simp [Monitor.dropReference, Monitor.zeroCounters]
  · simp [State.driveOff, State.retire_inhibit, hx, hg]

/-- The end of an event in which the truck drives off (R116, R126, R138, R139). -/
theorem State.drivenOff_of {x r : Record} (hx : v.table.records = [x]) (hg : v.gate.handle = x.handle)
    (hr : s.table.records = [r]) (hc : x.cause = r.cause) (hi : v.mon.inhibit = s.mon.inhibit)
    (hnf : s.nothingFollows → v.nothingFollows) : s.drivenOff (State.conclude s v.driveOff) := by
  obtain ⟨hrec, hgate, hbit, hfresh, hzero, href, hwatch, hinh, haside, -⟩ := State.driveOff_leaves hx hg
  have hq := sequel_conclude s v.driveOff
  have hn : v.driveOff.noneReleasing := by simp [State.noneReleasing, hrec]
  refine ⟨hq.gate hgate, hq.bits 0 hbit, hq.freshForce hfresh, hq.countersAtZero hzero, ?_, fun he => ?_, fun hf => ?_⟩
  · intro y hy
    obtain rfl : y = r := by simpa [hr] using hy
    rw [State.inhibitedBy, hq.inhibit hn, hinh, hc, hi]
    exact ⟨fun h => by simp [h], fun h => by simp [h]⟩
  · obtain ⟨w, z, hw⟩ := hq.of_empty hn he
    have happ := (hq.freshForce hfresh).2
    have hcalc := (hq.freshForce hfresh).1
    rw [happ, hcalc]
    exact ⟨by rw [hw]; exact href, by rw [hw]; exact hwatch, by simp [State.calculate, he, greatest]⟩
  · rw [State.conclude_of_nothingFollows (State.nothingFollows_congr haside (hnf hf))]
    simpa using hrec

end Sys2Proof.Machine

/-! # RELEASE HOLD (O29) -/

namespace Sys2Proof.Machine

variable {s t v : State}

/-! ## The checks (R17) -/

/-- The ownership table tells what a sound record's release is refused with, by the owner's code (R17). -/
theorem State.releaseVerdict_tells {r : Record} (hs : r.sound) {o : Owner} {b : Byte} (ho : requestOwner b = some o) :
    (s.mayRelease b r → s.releaseVerdict o r = none) ∧
      (¬s.mayRelease b r →
        s.releaseVerdict o r = some (if b = 1 ∧ r.cause = some .rollaway then .state else .notOwner)) := by
  obtain ⟨hcode, -⟩ := (requestOwner_iff b o).1 ho
  have hcab : b = 1#8 ↔ o = .cab := by
    rw [← hcode]
    cases o <;> decide
  obtain ⟨-, hmon, -⟩ := hs
  unfold State.mayRelease State.releaseVerdict
  cases hr : r.owner with
  | monitor =>
    obtain ⟨c, hc⟩ := Option.isSome_iff_exists.1 (hmon.1 hr)
    cases c <;> by_cases hoc : o = .cab <;> simp [hc, hcab, hoc, State.atStandstill]
  | pendant =>
    have hc : r.cause = none := by
      rw [← Option.not_isSome_iff_eq_none, ← hmon, hr]
      decide
    simp [hc]
  | cab | drum | service =>
    have hc : r.cause = none := by
      rw [← Option.not_isSome_iff_eq_none, ← hmon, hr]
      decide
    rw [← hcode]
    cases o <;> simp [hc, Owner.code]

theorem releaseCheck_live (hm : s.ctl.mode = .run) (hs : s.table.sound) {r : Record} (hr : r ∈ s.table.records)
    (o : Owner) :
    s.releaseHoldCheck (some o) r.handle = (s.releaseVerdict o r).elim (.inr r) .inl := by
  have h0 : r.handle ≠ 0 := by have := (hs.1 r hr).1; omega
  unfold State.releaseHoldCheck
  rw [if_neg (by simp [hm])]
  simp only [State.record_of_mem hs hr, h0, if_false]
  cases hv : s.releaseVerdict o r
  · simp
  · simp

/-! ## The retirement beside others -/

theorem State.retire_keepsRest (s : State) (h : Nat) (b : Bool) : s.keepsRest (s.retire h b) := by
  simp [State.keepsRest]

theorem State.retire_noneReleasing (hn : s.noneReleasing) (h : Nat) (b : Bool) : (s.retire h b).noneReleasing := by
  obtain ⟨c, -, ht⟩ := s.retire_table h b
  rw [State.noneReleasing, ht]
  exact heardRecords_noneReleasing fun x hx => hn x (mem_othersThan.1 hx).1

/-- The inhibit after the retirement of a sound table's record (R139). -/
theorem State.retire_inhibitedBy (hs : s.table.sound) {r : Record} (hr : r ∈ s.table.records) (b : Bool) :
    (s.retire r.handle b).inhibitedBy s r := by
  have hany : (s.table.records.any fun x => x.handle == r.handle && x.cause == some .autopark) =
      (r.cause == some .autopark) := by
    rw [Bool.eq_iff_iff, List.any_eq_true]
    constructor
    · rintro ⟨x, hx, hp⟩
      simp only [Bool.and_eq_true, beq_iff_eq] at hp
      obtain ⟨hh, hc⟩ := hp
      rw [HoldTable.sound_unique hs hx hr hh] at hc
      simpa using hc
    · intro h
      exact ⟨r, hr, by simpa using h⟩
  rw [State.inhibitedBy, State.retire_inhibit, hany]
  exact ⟨fun h => by simp [h], fun h => by simp [h]⟩

/-- What a retirement leaves, whatever the part opens after it (R12, R19). -/
theorem State.retired_leaves (hs : s.holdsSound) {r : Record} (hr : r ∈ s.table.records) (hrel : r.state ≠ .releasing)
    (h : Sequel (s.retire r.handle false) t) :
    t.link.slot = s.link.slot ∧ holdSet (othersThan s.table.records r.handle) <+: holdSet t.table.records ∧
      t.freshForce ∧ t.table.relief = .stopped ∧ t.inhibitedBy s r ∧ s.keepsRest t ∧ t.ctl = s.ctl ∧ t.meas = s.meas := by
  obtain ⟨-, hn⟩ := State.noneReleasing_over hs hr hrel
  have hn' := State.retire_noneReleasing hn r.handle false
  refine ⟨h.slot.trans (State.linksTo_slot (s.retire_linksTo _ _)), ?_, h.freshForce (s.retire_freshForce _ _),
    h.relief (s.retire_relief _ _), ?_, State.keepsRest_trans (s.retire_keepsRest _ _) h.keepsRest,
    h.ctl.trans (s.retire_ctl _ _), h.meas.trans (s.retire_meas _ _)⟩
  · have := h.holds hn'
    rwa [State.retire_holdSet] at this
  · obtain ⟨h1, h2⟩ := State.retire_inhibitedBy hs.1 hr false
    exact ⟨fun hc => (h.inhibit hn').trans (h1 hc), fun hc => (h.inhibit hn').trans (h2 hc)⟩

/-! ## The last hold -/

/-- The armed gate over the last hold, to the end of its event: no hold follows (R107, R112). -/
theorem State.conclude_armed {r : Record} (hr : s.table.records = [r]) (ht : t.table.records = [{ r with state := .releasing }]) :
    State.conclude s t = t.refreshWarn :=
  State.conclude_of_bearers (by simp [ht, hr, holdSet]) (by simp [ht, hr, bearers])

/-- Settles O29: the checks by the ownership table; a release beside others, and of the last hold by what the gate decides. -/
theorem releaseHoldChecksAndReleases : Obligations.ReleaseHoldChecksAndReleases := by
  intro s owner handle ht hm hs
  have hexec : exec (.releaseHold owner handle) s = .next (s.releaseHoldRule (requestOwner owner) handle.toNat) := by
    rw [exec_own (r := .releaseHold) ht rfl (by rw [hm]; rfl)]
  have hrefused : ∀ reason, s.releaseHoldCheck (requestOwner owner) handle.toNat = .inl reason →
      exec (.releaseHold owner handle) s = .next (s.withSlot (refusedAnswer 0x22 reason)) := by
    intro reason hr
    rw [hexec, State.releaseHoldRule, hr]
    rfl
  refine ⟨fun ho => hrefused _ ?_, fun h1 h3 => ⟨fun hno => hrefused _ ?_, fun r hr hh => ?_⟩⟩
  · simp [State.releaseHoldCheck, hm, requestOwner_none ho]
  · obtain ⟨o, ho, -, -⟩ := requestOwner_some h1 h3
    simp [State.releaseHoldCheck, hm, ho, State.record_none hno]
  · obtain ⟨o, ho, -, -⟩ := requestOwner_some h1 h3
    have hlive := releaseCheck_live hm hs.1 hr o
    rw [hh, ← ho] at hlive
    obtain ⟨hok, hbad⟩ := State.releaseVerdict_tells (s := s) (hs.1.1 r hr) ho
    have hbyte : byteOf handle.toNat = handle := by simp [byteOf]
    refine ⟨fun hno => hrefused _ ?_, fun hmay => ?_⟩
    · rw [hlive, hbad hno, Option.elim_some]
    · rw [hok hmay, Option.elim_none] at hlive
      refine ⟨fun hrel => ?_, fun hrel hlen => ?_, fun hrel hone => ?_⟩
      · rw [hexec, State.releaseHoldRule, hlive]
        simp only [Record.isReleasing, hrel, hbyte]
        rfl
      · have hi : r.isReleasing = false := by simpa [Record.isReleasing] using hrel
        obtain ⟨-, hn⟩ := State.noneReleasing_over hs hr hrel
        obtain ⟨hret, -⟩ := State.release_retires hs.1 hn hr hlen
        obtain ⟨-, hrl⟩ := State.release_retires (s := s.withSlot (doneAnswer 0x22 [handle])) hs.1 hn hr hlen
        obtain ⟨hslot, hpre, hfresh, hrelief, hinh, hrest, hctl, hmeas⟩ :=
          State.retired_leaves (s := s.withSlot (doneAnswer 0x22 [handle])) hs hr hrel
            (sequel_conclude s ((s.withSlot (doneAnswer 0x22 [handle])).retire r.handle false))
        refine ⟨_, ?_, hslot, hpre, hfresh, hrelief, hinh, hrest, hctl, hmeas⟩
        rw [hexec, State.releaseHoldRule, hlive]
        simp only [hi, hret, hbyte, State.done_eq, Bool.false_eq_true, if_false, if_true]
        rw [hrl]
      · have hi : r.isReleasing = false := by simpa [Record.isReleasing] using hrel
        set v := s.withSlot ⟨0x22, .pending, .none, [handle, 0, 0, 0, 0, 0, 0, 0]⟩ with hv
        obtain ⟨hret, -⟩ := State.release_last hone hrel
        obtain ⟨-, hrl⟩ := State.release_last (s := v) hone hrel
        obtain ⟨hsupply, hstays, hgoes⟩ := State.armed_judged (s := v) hone
        have hrecords := State.armed_records (s := v) hone
        have hres : exec (.releaseHold owner handle) s =
            .next (State.conclude s (v.armed r.handle).gateDecide.gateEvaluate) := by
          rw [hexec, State.releaseHoldRule, hlive]
          simp only [hi, hret, hbyte, ← hrl]
          rfl
        have hlow : v.lowSpring ↔ s.lowSpring := Iff.rfl
        have hlets : v.letsGo v.force v.meas.drive ↔ s.letsGo s.force s.meas.drive := Iff.rfl
        have hrun : v.ctl.mode = .run := hm
        rw [hlow] at hsupply hstays hgoes
        rw [hlets] at hstays hgoes
        by_cases hsup : r.cls = .park ∧ s.lowSpring
        · have hend : State.conclude s (v.armed r.handle).gateDecide.gateEvaluate =
              (((v.armed r.handle).withGate { (v.armed r.handle).gate with supplyCause := true }).raise .supply).refreshWarn := by
            rw [hsupply hsup, State.conclude_armed hone (by simp [hrecords])]
          refine ⟨_, hres.trans (congrArg _ hend), rfl, ⟨rfl, rfl, rfl, rfl, rfl, rfl⟩, rfl, rfl, fun _ => ?_,
            fun hn => absurd hsup hn⟩
          refine ⟨hrecords, ⟨true, ?_, by simp [hsup]⟩, fun _ => by simp [Source.bit],
            fun hn => absurd hsup hn, rfl, rfl, rfl⟩
          simp [State.armed_gate, hv, State.withSlot, hm, State.vehicle]
        · by_cases hgo : s.letsGo s.force s.meas.drive
          · have hend := hgoes hsup ⟨hrun, hgo⟩
            have hx : (v.armed r.handle).table.records = [{ r with state := .releasing }] := by simp [hrecords]
            have hq := sequel_conclude s (v.armed r.handle).driveOff
            obtain ⟨hrec, -, -, -, -, -, -, -, -, hslot⟩ := State.driveOff_leaves hx rfl
            refine ⟨_, hres.trans (by rw [hend]), hq.slot.trans hslot, ?_, ?_, ?_, fun hn => ?_, fun _ _ => ⟨?_, ?_⟩⟩
            · exact State.keepsRest_trans (by simp [State.keepsRest, State.armed, hv, State.withSlot]) hq.keepsRest
            · exact hq.ctl.trans (by simp [State.armed, hv, State.withSlot])
            · exact hq.meas.trans (by simp [State.armed, hv, State.withSlot])
            · rcases hn with hn | hn
              · exact absurd hn hsup
              · exact absurd hgo hn
            · exact State.drivenOff_of hx rfl hone rfl rfl id
            · exact hq.owners (p := fun o => o = .monitor ∨ o = .pendant) (.inl rfl) (.inr rfl) (by simp [hrec])
          · have hend : State.conclude s (v.armed r.handle).gateDecide.gateEvaluate = (v.armed r.handle).refreshWarn := by
              rw [hstays hsup fun h => hgo h.2, State.conclude_armed hone (by simp [hrecords])]
            refine ⟨_, hres.trans (congrArg _ hend), rfl, ⟨rfl, rfl, rfl, rfl, rfl, rfl⟩, rfl, rfl, fun _ => ?_,
              fun _ hg => absurd hg hgo⟩
            refine ⟨hrecords, ⟨false, ?_, by simp [hsup]⟩, fun h => absurd h hsup,
              fun _ => rfl, rfl, rfl, rfl⟩
            simp [State.armed_gate, hv, State.withSlot, hm, State.vehicle]

end Sys2Proof.Machine

/-! # The expiries of holds -/

namespace Sys2Proof.Machine

variable {s t u v : State}

/-! ## What ends an event with nothing told of it -/

/-- What an event ends with is WARN following its causes, after what the part opened of its own. -/
theorem State.conclude_refreshes (before s : State) : ∃ u, Sequel s u ∧ State.conclude before s = u.refreshWarn := by
  have hif : ∀ {c : Prop} [Decidable c] {u v : State}, Sequel u v → Sequel u (if c then v else u) := by
    intro c _ u v h
    split
    · exact h
    · exact .refl
  exact ⟨_, (hif (sequel_autoparkEvaluate s)).trans (hif (sequel_pendantRetry _)), rfl⟩

/-- While the expiry train runs, in an awake mode, WARN is not off (R144, R145). -/
theorem State.refreshWarn_train (hm : s.ctl.mode ≠ .sleep) (ht : s.mon.train.isRunning = true) :
    s.refreshWarn.mon.warn ≠ .off := by
  have hp : s.warnPulses = true := by simp [State.warnPulses, ht]
  show s.warnNext ≠ .off
  unfold State.warnNext
  rw [if_neg hm, if_pos hp]
  split
  · decide
  · split <;> simp

theorem State.conclude_train (before : State) (hm : s.ctl.mode ≠ .sleep) (ht : s.mon.train = .running 0) :
    (State.conclude before s).mon.train = .running 0 ∧ (State.conclude before s).mon.warn ≠ .off := by
  obtain ⟨u, hu, hc⟩ := State.conclude_refreshes before s
  have hut : u.mon.train = .running 0 := hu.train.trans ht
  rw [hc]
  exact ⟨hut, State.refreshWarn_train (by rw [hu.ctl]; exact hm) (by simp [hut, Timer.isRunning])⟩

/-- The last HOLDS event of a link. -/
def State.told (s : State) : Nat × Reason := (s.link.lastHandle, s.link.lastReason)

theorem State.linksTo_told (h : s.linksTo t) : t.told = s.told := by
  simp [State.told, State.linksTo_lastHandle h, State.linksTo_lastReason h]

/-- Where no autopark is owed, nothing is told after the event: a retry of the pendant's raises no notice. -/
theorem State.conclude_told (before : State) (hm : s.autoparkMet = false) : (State.conclude before s).told = s.told := by
  have hpark : s.autoparkEvaluate = s := by simp [State.autoparkEvaluate, hm]
  have hopen : ∀ u : State, (u.pendantOpen true).told = u.told := by
    intro u
    unfold State.pendantOpen State.pendantTry
    split
    · split
      · rfl
      · split
        · exact State.linksTo_told (u.openRecord_linksTo pendantRecord)
        · rfl
    · rfl
  have hretry : s.pendantRetry.told = s.told := by
    unfold State.pendantRetry
    split
    · exact hopen s
    · rfl
  unfold State.conclude
  simp only [hpark, ite_self]
  split
  · exact hretry
  · rfl

/-- With a PARK hold live no autopark is owed (R138). -/
theorem State.autoparkMet_park (h : parkLive s.table.records = true) : s.autoparkMet = false := by
  simp [State.autoparkMet, h]

/-- With the driver present no autopark is owed in RUN (R138). -/
theorem State.autoparkMet_driver (hm : s.ctl.mode = .run) (hd : s.mon.driverPresent = true) : s.autoparkMet = false := by
  simp [State.autoparkMet, hm, hd]

/-- The end of an event that keeps every bearer and leaves a PARK hold live. -/
theorem State.conclude_of_park (hb : bearers t.table.records = bearers s.table.records)
    (hp : parkLive t.table.records = true) : State.conclude s t = t.refreshWarn := by
  have hpark : t.autoparkEvaluate = t := by simp [State.autoparkEvaluate, State.autoparkMet_park hp]
  have hr : retiredSince s.table.records t.table.records = false := retiredSince_of_bearers fun x hx => by rwa [hb]
  unfold State.conclude
  simp only [hpark, ite_self, hr]
  simp

/-! ## One expiry -/

theorem Record.lastUnit_iff {r : Record} (hs : r.sound) : r.lastUnit = true ↔ r.endsNext := by
  have h0 : r.expiry ≠ some 0 := by
    obtain ⟨-, -, -, -, -, -, h0, -⟩ := hs
    exact h0
  unfold Record.lastUnit Record.counts Record.endsNext
  cases he : r.expiry with
  | none => simp
  | some n =>
    have hn : n ≠ 0 := by rintro rfl; exact h0 he
    simp only [Option.any_some, Bool.and_eq_true, bne_iff_ne, decide_eq_true_eq, Option.some.injEq]
    constructor
    · rintro ⟨h1, h2⟩
      exact ⟨h1, by omega⟩
    · rintro ⟨h1, rfl⟩
      exact ⟨h1, le_rfl⟩

/-- What any expiry leaves: HOLDS told of its record, the forces fresh and the relief timer stopped (R22, R28, R30). -/
theorem State.expire_leaves (s : State) (h : Nat) :
    (s.expire h).link.pending.getLsbD 0 = true ∧ (s.expire h).told = (h, .none) ∧ (s.expire h).freshForce ∧
      (s.expire h).table.relief = .stopped := by
  unfold State.expire
  split
  · exact ⟨by simp [State.retireExpired], by simp [State.retireExpired, State.told],
      State.freshForce_congr (by simp [State.retireExpired]) (by simp [State.retireExpired]) (by simp [State.retireExpired])
        (by simp [State.retireExpired]) (by simp [State.retireExpired]) (s.retire_freshForce h false),
      by simp [State.retireExpired]⟩
  · exact ⟨by simp [State.convertToPark_eq], by simp [State.convertToPark_eq, State.told],
      State.freshForce_congr (by simp [State.convertToPark_eq]) (by simp [State.convertToPark_eq])
        (by simp [State.convertToPark_eq]) (by simp [State.convertToPark_eq]) (by simp [State.convertToPark_eq])
        (s.changed_freshForce h Record.parked), by simp⟩

/-- What any expiry leaves alone of the table and the monitor. -/
theorem State.expire_keepsAside (s : State) (h : Nat) :
    (s.expire h).table.beat = s.table.beat ∧ (s.expire h).mon.driverPresent = s.mon.driverPresent ∧
      (s.expire h).mon.autopark = s.mon.autopark ∧ (s.expire h).mon.pendantWant = s.mon.pendantWant := by
  have haside : ({ (s.expire h).mon.aside with train := .stopped } : Monitor.Aside) = { s.mon.aside with train := .stopped } := by
    unfold State.expire
    split
    · have := s.retire_aside h false
      simp only [State.retireExpired, State.raiseHolds_mon, State.withMon_mon]
      show ({ (s.retire h false).mon.aside with train := .stopped } : Monitor.Aside) = _
      rw [this]
    · simp [State.convertToPark_eq]
  refine ⟨?_, congrArg Monitor.Aside.driverPresent haside, congrArg Monitor.Aside.autopark haside,
    congrArg Monitor.Aside.pendantWant haside⟩
  unfold State.expire
  split
  · simp [State.retireExpired]
  · simp [State.convertToPark_eq, State.changed_table]

theorem State.expire_present (hd : s.mon.driverPresent = true) (h : Nat) : s.expire h = s.retireExpired h := by
  simp [State.expire, hd]

theorem State.expire_absent (hd : s.mon.driverPresent = false) (h : Nat) : s.expire h = s.convertToPark h := by
  simp [State.expire, hd]

/-- With the driver present an expiry takes its record out and starts the train (R24). -/
theorem State.retireExpired_records (s : State) (h : Nat) :
    ∃ b, (s.retireExpired h).table.records = heardRecords b (othersThan s.table.records h) := by
  obtain ⟨b, -, ht⟩ := s.retire_table h false
  exact ⟨b, by simp [State.retireExpired, ht]⟩

@[simp] theorem State.retireExpired_train (s : State) (h : Nat) : (s.retireExpired h).mon.train = .running 0 := rfl

/-- An expiry that empties the table begins the watch-after (R126). -/
theorem State.retireExpired_reference {h : Nat} (hk : othersThan s.table.records h = []) :
    (s.retireExpired h).mon.ref = .watch ∧ (s.retireExpired h).mon.watchAfter = .running 0 :=
  s.retire_reference h false hk

/-- Without the driver an expiry makes its record PARK, and the report is heard of (R23). -/
theorem State.convertToPark_records (s : State) (h : Nat) :
    (s.convertToPark h).table.records =
      heardRecords (s.convertToPark h).distConfirmed (updateRecord s.table.records h Record.parked) := by
  have hd : (s.convertToPark h).distConfirmed = (s.changed h Record.parked).distConfirmed :=
    State.distConfirmed_congr (by simp [State.convertToPark_eq]) (by simp [State.convertToPark_eq])
  rw [hd]
  simp [State.convertToPark_eq, State.changed_table]

theorem State.convertToPark_bearers (s : State) (h : Nat) :
    bearers (s.convertToPark h).table.records = bearers s.table.records := by
  rw [State.convertToPark_records, bearers_heardRecords]
  exact bearers_updateRecord (f := Record.parked) (fun _ => rfl) (fun _ => rfl) _

/-! ## The expiries of one beat -/

/-- The expiries leave the blocks that one expiry leaves. -/
theorem State.foldl_expire_keepsAside (handles : List Nat) (s : State) :
    (handles.foldl State.expire s).table.beat = s.table.beat ∧
      (handles.foldl State.expire s).mon.driverPresent = s.mon.driverPresent ∧
      (handles.foldl State.expire s).mon.autopark = s.mon.autopark ∧
      (handles.foldl State.expire s).mon.pendantWant = s.mon.pendantWant := by
  induction handles generalizing s with
  | nil => exact ⟨rfl, rfl, rfl, rfl⟩
  | cons h hs ih =>
    obtain ⟨h1, h2, h3, h4⟩ := ih (s.expire h)
    obtain ⟨g1, g2, g3, g4⟩ := s.expire_keepsAside h
    exact ⟨h1.trans g1, h2.trans g2, h3.trans g3, h4.trans g4⟩

/-- The records whose handle is not in a list. -/
def besides (records : List Record) (handles : List Nat) : List Record := records.filter fun r => r.handle ∉ handles

theorem heardRecords_heard (b c : Bool) (records : List Record) :
    heardRecords b (heardRecords c records) = heardRecords (b || c) records := by
  cases b <;> cases c <;> simp [List.map_map, Function.comp_def]

/-- With the driver present the expiries take their records out (R24). -/
theorem State.foldl_expire_present (hd : s.mon.driverPresent = true) (handles : List Nat) :
    ∃ b, (handles.foldl State.expire s).table.records = heardRecords b (besides s.table.records handles) := by
  induction handles generalizing s with
  | nil => exact ⟨false, by simp [besides]⟩
  | cons h hs ih =>
    obtain ⟨-, hd', -⟩ := s.expire_keepsAside h
    obtain ⟨b, hb⟩ := ih (s := s.expire h) (hd'.trans hd)
    obtain ⟨c, hc⟩ := s.retireExpired_records h
    have hfilter : ∀ records : List Record, besides (heardRecords c records) hs = heardRecords c (besides records hs) := by
      intro records
      cases c
      · rfl
      · simp [heardRecords, besides, List.filter_map, Function.comp_def]
    refine ⟨b || c, ?_⟩
    rw [List.foldl_cons, hb, State.expire_present hd, hc, hfilter, heardRecords_heard]
    congr 1
    rw [besides, othersThan, List.filter_filter]
    refine List.filter_congr fun r _ => ?_
    by_cases h1 : r.handle = h <;> by_cases h2 : r.handle ∈ hs <;> simp [h1, h2]

theorem Record.parked_hold (r : Record) : r.hold.parked = r.parked := by
  unfold Record.hold Record.parked; split <;> rfl

theorem Record.parked_parked (r : Record) : r.parked.parked = r.parked := rfl

/-- Without the driver the expiries make their records PARK, and leave the others (R23). -/
theorem State.foldl_expire_absent (hd : s.mon.driverPresent = false) (handles : List Nat) :
    bearers (handles.foldl State.expire s).table.records = bearers s.table.records ∧
      holdSet (handles.foldl State.expire s).table.records =
        (holdSet s.table.records).map (fun x => if x.1 ∈ handles then (x.1, .park) else x) ∧
      ∀ r ∈ s.table.records,
        let r' := if r.handle ∈ handles then r.parked else r
        r' ∈ (handles.foldl State.expire s).table.records ∨ r'.hold ∈ (handles.foldl State.expire s).table.records := by
  induction handles generalizing s with
  | nil => exact ⟨rfl, by simp, fun r hr => .inl (by simpa using hr)⟩
  | cons h hs ih =>
    obtain ⟨-, hd', -⟩ := s.expire_keepsAside h
    obtain ⟨hb, hh, hr⟩ := ih (s := s.expire h) (hd'.trans hd)
    rw [State.expire_absent hd] at hb hh hr
    rw [List.foldl_cons, State.expire_absent hd]
    refine ⟨hb.trans (s.convertToPark_bearers h), ?_, fun r hmem => ?_⟩
    · rw [hh, State.convertToPark_holdSet, List.map_map]
      refine List.map_congr_left fun x _ => ?_
      by_cases hx : x.1 = h <;> by_cases hy : x.1 ∈ hs <;> simp [hx, hy]
    · have hone : ∀ y : Record, y ∈ (s.convertToPark h).table.records →
          ∀ z : Record, z.handle = y.handle → z.parked = y.parked → (y = z ∨ y = z.hold) →
          (if y.handle ∈ hs then z.parked else z) ∈ (hs.foldl State.expire (s.convertToPark h)).table.records ∨
            (if y.handle ∈ hs then z.parked else z).hold ∈ (hs.foldl State.expire (s.convertToPark h)).table.records := by
        intro y hy z hz hp hyz
        have := hr y hy
        dsimp only at this
        split
        · rename_i hin
          rwa [if_pos hin, ← hp] at this
        · rename_i hin
          rw [if_neg hin] at this
          rcases hyz with rfl | rfl
          · exact this
          · right
            simpa using this
      have hstep : ∀ z ∈ updateRecord s.table.records h Record.parked,
          z ∈ (s.convertToPark h).table.records ∨ z.hold ∈ (s.convertToPark h).table.records := by
        intro z hz
        rw [State.convertToPark_records]
        exact mem_heardRecords_of hz
      dsimp only
      by_cases hrh : r.handle = h
      · have hz : r.parked ∈ updateRecord s.table.records h Record.parked := hrh ▸ mem_updateRecord_self hmem
        rw [if_pos (by simp [hrh])]
        rcases hstep _ hz with hy | hy
        · have := hone _ hy r.parked rfl rfl (.inl rfl)
          simpa [Record.parked_parked] using this
        · have := hone _ hy r.parked (by simp) (by rw [Record.parked_hold]) (.inr rfl)
          simpa [Record.parked_parked] using this
      · have hz : r ∈ updateRecord s.table.records h Record.parked := mem_updateRecord hmem hrh
        have hif : (if r.handle ∈ h :: hs then r.parked else r) = if r.handle ∈ hs then r.parked else r := by
          simp [hrh]
        rw [hif]
        rcases hstep _ hz with hy | hy
        · exact hone _ hy r rfl rfl (.inl rfl)
        · simpa using hone _ hy r (by simp) (by rw [Record.parked_hold]) (.inr rfl)

/-- The state of the beat is that of its expiries, but for the free values' count. -/
theorem State.countExpiries_free (s : State) :
    ∃ k, s.countExpiries = { (arrange s.freeCount s.lastUnits).foldl State.expire s.beaten with freeCount := k } := by
  rw [State.countExpiries_eq]
  split
  · exact ⟨_, rfl⟩
  · exact ⟨_, rfl⟩

end Sys2Proof.Machine

/-! # Expiry (O30) -/

namespace Sys2Proof.Machine

variable {s t u v : State}

/-! ## The beat -/

theorem State.beatDue_iff : s.beatDue = true ↔ s.ctl.mode ≠ .sleep ∧ Config.ms 100 ≤ s.table.beat := by
  simp [State.beatDue, State.awake]

theorem State.expiryDue_of (hm : s.ctl.mode ≠ .sleep) (hb : Config.ms 100 ≤ s.table.beat) (hs : s.table.sound) {r : Record}
    (hr : r ∈ s.table.records) (he : r.endsNext) : s.expiryDue r.handle = true := by
  simp [State.expiryDue, State.beatDue_iff.2 ⟨hm, hb⟩, State.record_of_mem hs hr, (Record.lastUnit_iff (hs.1 r hr)).2 he]

theorem mem_dueEvents_of_holds {i : Instr} (h : i ∈ s.dueOfHolds) : i ∈ s.dueEvents := by
  simp [State.dueEvents, h]

theorem State.holdExpiry_due (hm : s.ctl.mode ≠ .sleep) (hb : Config.ms 100 ≤ s.table.beat) (hs : s.table.sound) {r : Record}
    (hr : r ∈ s.table.records) (he : r.endsNext) : Instr.holdExpiry r.handle ∈ s.dueEvents := by
  have hmem : r.handle ∈ s.lastUnits := State.mem_lastUnits.2 ⟨r, hr, rfl, (Record.lastUnit_iff (hs.1 r hr)).2 he⟩
  have hin : Instr.holdExpiry r.handle ∈ s.dueOfExpiries := by
    unfold State.dueOfExpiries
    rw [if_pos (State.beatDue_iff.2 ⟨hm, hb⟩)]
    cases hl : s.lastUnits with
    | nil => simp [hl] at hmem
    | cons h hs => exact List.mem_map.2 ⟨_, hl ▸ hmem, rfl⟩
  exact mem_dueEvents_of_holds (by simp [State.dueOfHolds, hin])

/-- A record that expires is not the part's own, nor PARK (R1, R22). -/
theorem Record.endsNext_asker {r : Record} (hs : r.sound) (he : r.endsNext) : r.cause = none := by
  obtain ⟨-, hmon, hpark, -, -, hexp, -⟩ := hs
  rw [← Option.not_isSome_iff_eq_none, ← hmon]
  intro ho
  have := hexp (.inl (hpark ho))
  rw [he.2] at this
  cases this

/-! ## One expiry to the end of its event -/

/-- The holds after an expiry, whatever its way. -/
theorem State.expire_noneReleasing (hn : s.noneReleasing) (h : Nat) : (s.expire h).noneReleasing := by
  unfold State.expire
  split
  · obtain ⟨b, hb⟩ := s.retireExpired_records h
    rw [State.noneReleasing, hb]
    exact heardRecords_noneReleasing fun x hx => hn x (mem_othersThan.1 hx).1
  · rw [State.noneReleasing, State.convertToPark_records]
    refine heardRecords_noneReleasing fun x hx => ?_
    obtain ⟨y, hy, rfl⟩ := List.mem_map.1 hx
    split
    · simp [Record.parked]
    · exact hn y hy

theorem State.foldl_expire_noneReleasing (hn : s.noneReleasing) (handles : List Nat) :
    (handles.foldl State.expire s).noneReleasing := by
  induction handles generalizing s with
  | nil => exact hn
  | cons h hs ih => exact ih (State.expire_noneReleasing hn h)

theorem State.expire_keepsRest (s : State) (h : Nat) : s.keepsRest (s.expire h) := by
  unfold State.expire
  split
  · simp [State.keepsRest]
  · simpa [State.keepsRest, State.convertToPark_eq] using State.changed_keepsRest s h Record.parked

/-- A table that an expiry leaves empty had that record alone, and its retirement leaves the wheels (R126). -/
theorem State.retireExpired_wheels {r : Record} (hr : s.table.records = [r]) (hc : r.cause = none) :
    (s.retireExpired r.handle).mon.wheels = s.mon.wheels := by
  have hk : othersThan s.table.records r.handle = [] := by simp [othersThan, hr]
  have hgone : s.mon.retired (s.table.records.filter fun x => x.handle == r.handle) = s.mon := by
    simp [Monitor.retired, hr, Record.isRollaway, hc]
  have hm : ((s.parting r.handle).holdSetChange (parkLive s.table.records)).mon = s.mon := by
    rw [State.holdSetChange_mon_of_empty _ (by simpa using hk), State.parting_mon, hgone]
  have : (s.retire r.handle false).mon = s.mon.beginWatch := by
    rw [State.retire_eq, if_pos hk, State.withMon_mon, hm]
    rfl
  simp [State.retireExpired, this, Monitor.beginWatch]

/-- A table left empty has A at 0 where the forces are fresh (R28). -/
theorem State.freshForce_empty (h : s.freshForce) (he : s.table.records = []) : s.table.applied = 0 := by
  obtain ⟨hf, ha⟩ := h
  rw [ha, hf]
  simp [State.calculate, he, greatest]

/-- Settles the first clause of O30: a beat that ends no count. -/
theorem exec_expiryCountdown_none (hp : s.powered = true) (hm : s.ctl.mode ≠ .sleep) (hb : Config.ms 100 ≤ s.table.beat)
    (h : ∀ r ∈ s.table.records, r.state ≠ .releasing → ∀ n, r.expiry = some n → 1 < n) :
    ∃ warn, exec .expiryCountdown s =
      .next
        { s with
          table := { s.table with beat := 0, records := s.table.records.map fun r => { r with expiry := r.countedTo } }
          mon := { s.mon with warn := warn } } := by
  have hnone : ∀ r ∈ s.table.records, r.lastUnit = false := by
    intro r hr
    rw [Bool.eq_false_iff]
    intro hl
    simp only [Record.lastUnit, Record.counts, Bool.and_eq_true, bne_iff_ne, ne_eq, Option.any_eq_true,
      decide_eq_true_eq] at hl
    obtain ⟨hst, n, hn, hle⟩ := hl
    have := h r hr hst n hn
    omega
  have he : exec .expiryCountdown s = .next (State.conclude s s.countExpiries) := by
    show Host.Outcome.next (s.event fun t => if t.beatDue then _ else t) = _
    rw [State.event_powered hp, if_pos (State.beatDue_iff.2 ⟨hm, hb⟩)]
  refine ⟨s.countExpiries.warnNext, he.trans (congrArg _ ?_)⟩
  rw [State.countExpiries_of_none s hnone, State.conclude_of_bearers]
  · rfl
  · exact holdSet_map (f := fun r => { r with expiry := r.countedTo }) (fun _ => rfl) (fun _ => rfl) _
  · exact bearers_map (f := fun r => { r with expiry := r.countedTo }) (fun _ => rfl) (fun _ => rfl) _

/-! ## The beat that ends counts -/

/-- The handles whose records expire with the beat, in their order. -/
def State.expiring (s : State) : List Nat := arrange s.freeCount s.lastUnits

theorem State.mem_expiring (hs : s.table.sound) {r : Record} (hr : r ∈ s.table.records) :
    r.handle ∈ s.expiring ↔ r.endsNext := by
  rw [State.expiring, (arrange_perm _ _).mem_iff, State.mem_lastUnits, ← Record.lastUnit_iff (hs.1 r hr)]
  constructor
  · rintro ⟨x, hx, hh, hl⟩
    rwa [← HoldTable.sound_unique hs hx hr hh]
  · exact fun h => ⟨r, hr, rfl, h⟩

theorem State.expiring_of (hs : s.table.sound) {h : Nat} (hh : h ∈ s.expiring) :
    ∃ r ∈ s.table.records, r.endsNext ∧ r.handle = h := by
  rw [State.expiring, (arrange_perm _ _).mem_iff, State.mem_lastUnits] at hh
  obtain ⟨r, hr, hrh, hl⟩ := hh
  exact ⟨r, hr, (Record.lastUnit_iff (hs.1 r hr)).1 hl, hrh⟩

/-- The part after the expiries of its beat, but for the free values' count. -/
def State.expired (s : State) : State := s.expiring.foldl State.expire s.beaten

theorem State.beaten_records (s : State) : s.beaten.table.records = s.table.records.map Record.countDown := rfl

theorem State.beaten_noneReleasing (hn : s.noneReleasing) : s.beaten.noneReleasing := by
  intro x hx
  obtain ⟨y, hy, rfl⟩ := List.mem_map.1 hx
  simpa using hn y hy

theorem State.beaten_bearers (s : State) : bearers s.beaten.table.records = bearers s.table.records :=
  bearers_map Record.countDown_handle (by intro r; unfold Record.countDown; split <;> rfl) _

/-- A record whose count does not end is in the table after the beat, counted (R22). -/
theorem State.mem_beaten_counted (hs : s.table.sound) {r : Record} (hr : r ∈ s.table.records) (he : ¬r.endsNext) :
    { r with expiry := r.countedTo } ∈ s.beaten.table.records := by
  have hl : r.lastUnit = false := by
    rw [Bool.eq_false_iff, ne_eq, Record.lastUnit_iff (hs.1 r hr)]
    exact he
  rw [← Record.countDown_eq r hl]
  exact List.mem_map_of_mem hr

/-- The last expiry of a beat, after which nothing else of the beat comes. -/
theorem State.expired_last (h : s.expiring ≠ []) :
    ∃ (u : State) (k : Nat), k ∈ s.expiring ∧ s.expired = u.expire k ∧ u.mon.driverPresent = s.mon.driverPresent := by
  refine ⟨s.expiring.dropLast.foldl State.expire s.beaten, s.expiring.getLast h, List.getLast_mem h, ?_, ?_⟩
  · conv_lhs => rw [State.expired, ← List.dropLast_append_getLast h, List.foldl_append]
    rfl
  · obtain ⟨-, hd, -⟩ := State.foldl_expire_keepsAside s.expiring.dropLast s.beaten
    exact hd

/-- What the expiries of a beat leave, whatever the driver (R22, R28, R30). -/
theorem State.expired_leaves (h : s.expiring ≠ []) :
    s.expired.link.pending.getLsbD 0 = true ∧ (∃ k ∈ s.expiring, s.expired.told = (k, .none)) ∧ s.expired.freshForce ∧
      s.expired.table.relief = .stopped ∧ s.expired.table.beat = 0 ∧ s.expired.ctl = s.ctl ∧ s.expired.meas = s.meas ∧
      s.expired.store = s.store ∧ s.expired.mon.driverPresent = s.mon.driverPresent ∧
      s.expired.mon.autopark = s.mon.autopark ∧ s.expired.mon.pendantWant = s.mon.pendantWant := by
  obtain ⟨u, k, hk, hu, -⟩ := State.expired_last h
  obtain ⟨hbit, htold, hfresh, hrel⟩ := u.expire_leaves k
  obtain ⟨-, -, hmeas, -, -, hctl, hstore, -⟩ := State.foldl_expire_frame s.beaten s.expiring
  obtain ⟨hbeat, hdriver, hauto, hwant⟩ := State.foldl_expire_keepsAside s.expiring s.beaten
  rw [← hu] at hbit htold hfresh hrel
  exact ⟨hbit, ⟨k, hk, htold⟩, hfresh, hrel, hbeat, hctl, hmeas, hstore, hdriver, hauto, hwant⟩

/-- A record whose count does not end stays through the expiries, counted, and moved to HELD at most (R9, R22). -/
theorem State.expired_stays (hs : s.table.sound) {r : Record} (hr : r ∈ s.table.records) (he : ¬r.endsNext) :
    { r with expiry := r.countedTo } ∈ s.expired.table.records ∨
      ({ r with expiry := r.countedTo } : Record).hold ∈ s.expired.table.records := by
  have hmem := State.mem_beaten_counted hs hr he
  have hnot : r.handle ∉ s.expiring := fun h => he ((State.mem_expiring hs hr).1 h)
  cases hd : s.mon.driverPresent with
  | true =>
    obtain ⟨b, hb⟩ := State.foldl_expire_present (s := s.beaten) hd s.expiring
    rw [State.expired, hb]
    exact mem_heardRecords_of (List.mem_filter.2 ⟨hmem, by simpa using hnot⟩)
  | false =>
    obtain ⟨-, -, hstay⟩ := State.foldl_expire_absent (s := s.beaten) hd s.expiring
    have := hstay _ hmem
    dsimp only at this
    rwa [if_neg hnot] at this

/-- The holds of a beat's expiries without the driver: the expired ones PARK, in their places (R3, R23). -/
theorem State.expired_absent (hs : s.table.sound) (hd : s.mon.driverPresent = false) (h : s.expiring ≠ []) :
    bearers s.expired.table.records = bearers s.table.records ∧
      holdSet s.expired.table.records =
        s.table.records.map (fun r => (r.handle, if r.endsNext then .park else r.cls)) ∧
      parkLive s.expired.table.records = true ∧
      ∀ r ∈ s.table.records, r.endsNext →
        { r with cls := .park, expiry := none, state := .held } ∈ s.expired.table.records ∨
          ({ r with cls := .park, expiry := none, state := .engaging } ∈ s.expired.table.records ∧
            s.expired.distConfirmed = false) := by
  obtain ⟨hb, hh, hstay⟩ := State.foldl_expire_absent (s := s.beaten) hd s.expiring
  have hset : holdSet s.expired.table.records =
      s.table.records.map (fun r => (r.handle, if r.endsNext then .park else r.cls)) := by
    rw [State.expired, hh, State.beaten_records, holdSet_map Record.countDown_handle Record.countDown_cls]
    simp only [holdSet, List.map_map]
    refine List.map_congr_left fun r hr => ?_
    by_cases he : r.endsNext
    · simp [(State.mem_expiring hs hr).2 he, he]
    · simp only [Function.comp_apply, if_neg he, if_neg fun h => he ((State.mem_expiring hs hr).1 h)]
  refine ⟨hb.trans s.beaten_bearers, hset, ?_, fun r hr he => ?_⟩
  · obtain ⟨k, hk⟩ := List.exists_mem_of_ne_nil _ h
    obtain ⟨r, hr, he, -⟩ := State.expiring_of hs hk
    have hin : (r.handle, HoldClass.park) ∈ holdSet s.expired.table.records := by
      rw [hset]
      exact List.mem_map.2 ⟨r, hr, by rw [if_pos he]⟩
    obtain ⟨x, hx, hxe⟩ := List.mem_map.1 hin
    exact List.any_eq_true.2 ⟨x, hx, by simpa using congrArg Prod.snd hxe⟩
  · obtain ⟨u, k, -, hu, hdu⟩ := State.expired_last h
    have hmem : r.countDown ∈ s.beaten.table.records := List.mem_map_of_mem hr
    have hin := hstay _ hmem
    dsimp only at hin
    rw [if_pos (by simpa using (State.mem_expiring hs hr).2 he),
      Record.countDown_lastUnit ((Record.lastUnit_iff (hs.1 r hr)).2 he)] at hin
    have hrecords := u.convertToPark_records k
    rw [← State.expire_absent (hdu.trans hd), ← hu] at hrecords
    rcases hin with hin | hin
    · cases hc : s.expired.distConfirmed with
      | false => exact .inr ⟨hin, rfl⟩
      | true =>
        rw [hc] at hrecords
        have hin' : r.parked ∈ s.expired.table.records := hin
        rw [hrecords] at hin'
        obtain ⟨x, -, hx⟩ := List.mem_map.1 hin'
        have : x.hold.state ≠ .engaging := x.hold_engaging
        rw [hx] at this
        exact absurd rfl this
    · exact .inl hin

/-- The holds of a beat's expiries with the driver: the expired ones gone, and the train begun (R24, R126). -/
theorem State.expired_present (hs : s.table.sound) (hd : s.mon.driverPresent = true) (h : s.expiring ≠ []) :
    holdSet s.expired.table.records = holdSet (s.table.records.filter fun r => ¬r.endsNext) ∧
      s.expired.mon.train = .running 0 ∧
      (s.expired.table.records = [] → s.expired.mon.ref = .watch ∧ s.expired.mon.watchAfter = .running 0) := by
  obtain ⟨b, hb⟩ := State.foldl_expire_present (s := s.beaten) hd s.expiring
  obtain ⟨u, k, -, hu, hdu⟩ := State.expired_last h
  have hu' : s.expired = u.retireExpired k := hu.trans (State.expire_present (hdu.trans hd) k)
  refine ⟨?_, by rw [hu']; rfl, fun he => ?_⟩
  · rw [State.expired, hb, heardRecords_holdSet, besides, State.beaten_records, List.filter_map, Function.comp_def,
      holdSet_map Record.countDown_handle Record.countDown_cls]
    congr 1
    refine List.filter_congr fun r hr => ?_
    simp [State.mem_expiring hs hr]
  · rw [hu']
    refine State.retireExpired_reference ?_
    obtain ⟨c, hc⟩ := u.retireExpired_records k
    rw [hu', hc] at he
    simpa using he

/-! ## The clauses of O30 -/

/-- The part after its expiries and the free values' count. -/
theorem exec_expiryCountdown (hp : s.powered = true) (hm : s.ctl.mode ≠ .sleep) (hb : Config.ms 100 ≤ s.table.beat) :
    ∃ k, exec .expiryCountdown s = .next (State.conclude s { s.expired with freeCount := k }) := by
  obtain ⟨k, hk⟩ := s.countExpiries_free
  refine ⟨k, ?_⟩
  show Host.Outcome.next (s.event fun t => if t.beatDue then _ else t) = _
  rw [State.event_powered hp, if_pos (State.beatDue_iff.2 ⟨hm, hb⟩), hk]
  rfl

/-- With no autopark owed in RUN, what an event told stays told (R138, R185). -/
theorem State.expired_told (hs : s.table.sound) (h : s.expiring ≠ []) (hm : s.ctl.mode = .run) :
    s.expired.autoparkMet = false := by
  obtain ⟨-, -, -, -, -, hctl, -, -, hdriver, -, -⟩ := State.expired_leaves h
  cases hd : s.mon.driverPresent with
  | true => exact State.autoparkMet_driver (by rw [hctl, hm]) (hdriver.trans hd)
  | false =>
    obtain ⟨-, -, hpark, -⟩ := State.expired_absent hs hd h
    exact State.autoparkMet_park hpark

/-- A record that has stayed, as it was or HELD, stays so through what follows. -/
theorem Sequel.stays_or (h : Sequel s t) (hs : s.noneReleasing) {r : Record}
    (hr : r ∈ s.table.records ∨ r.hold ∈ s.table.records) : r ∈ t.table.records ∨ r.hold ∈ t.table.records := by
  rcases hr with hr | hr
  · exact h.stays hs hr
  · right
    simpa using h.stays hs hr

theorem Record.hold_cases (r : Record) : r.hold = r ∨ (r.state = .engaging ∧ r.hold = { r with state := .held }) := by
  unfold Record.hold
  split
  · rename_i h
    exact .inr ⟨h, rfl⟩
  · exact .inl rfl

/-- The beat that ends counts, to the end of its event. -/
theorem State.countdown_leaves (hs : s.holdsSound) (hm : s.ctl.mode ≠ .sleep)
    (hex : ∃ r ∈ s.table.records, r.endsNext) (hv : v = { s.expired with freeCount := v.freeCount })
    (ht : t = State.conclude s v) :
    t.table.beat = 0 ∧ t.link.pending.getLsbD 0 = true ∧
      (s.ctl.mode = .run →
        (∃ r ∈ s.table.records, r.endsNext ∧ t.link.lastHandle = r.handle) ∧ t.link.lastReason = .none) ∧
      t.freshForce ∧ t.table.relief = .stopped ∧ t.ctl = s.ctl ∧ t.meas = s.meas ∧ t.store = s.store ∧
      (∀ r ∈ s.table.records, ¬r.endsNext →
        ∃ st, { r with expiry := r.countedTo, state := st } ∈ t.table.records ∧
          (st = r.state ∨ (r.state = .engaging ∧ st = .held))) ∧
      (s.mon.driverPresent = false →
        holdSet t.table.records =
            s.table.records.map (fun r => (r.handle, if r.endsNext then .park else r.cls)) ∧
          ∀ r ∈ s.table.records, r.endsNext →
            { r with cls := .park, expiry := none, state := .held } ∈ t.table.records ∨
              ({ r with cls := .park, expiry := none, state := .engaging } ∈ t.table.records ∧
                t.distConfirmed = false)) ∧
      (s.mon.driverPresent = true →
        holdSet (s.table.records.filter fun r => ¬r.endsNext) <+: holdSet t.table.records ∧
          t.mon.train = .running 0 ∧ t.mon.warn ≠ .off ∧
          ((∀ r ∈ s.table.records, r.endsNext) → s.nothingFollows →
            t.table.records = [] ∧ t.mon.ref = .watch ∧ t.mon.watchAfter = .running 0 ∧ t.table.applied = 0)) := by
  obtain ⟨x, hx, hxe⟩ := hex
  have hne : s.expiring ≠ [] := List.ne_nil_of_mem ((State.mem_expiring hs.1 hx).2 hxe)
  obtain ⟨-, hn⟩ := State.noneReleasing_over hs hx hxe.1
  obtain ⟨hbit, ⟨k, hk, htold⟩, hfresh, hrel, hbeat, hctl, hmeas, hstore, hdriver, hauto, hwant⟩ := State.expired_leaves hne
  have hfields : v.link = s.expired.link ∧ v.table = s.expired.table ∧ v.ctl = s.expired.ctl ∧ v.meas = s.expired.meas ∧
      v.store = s.expired.store ∧ v.force = s.expired.force ∧ v.mon = s.expired.mon ∧ v.chans = s.expired.chans := by
    rw [hv]
    exact ⟨rfl, rfl, rfl, rfl, rfl, rfl, rfl, rfl⟩
  obtain ⟨hvl, hvt, hvc, hvm, hvs, hvf, hvmon, hvch⟩ := hfields
  have hvn : v.noneReleasing := by
    rw [State.noneReleasing, hvt]
    exact State.foldl_expire_noneReleasing (State.beaten_noneReleasing hn) s.expiring
  have hq : Sequel v t := ht ▸ sequel_conclude s v
  have hvfresh : v.freshForce := State.freshForce_congr hvf (by rw [hvt]) hvm hvs (by rw [hvt]) hfresh
  have hvmet : v.autoparkMet = s.expired.autoparkMet := by
    simp only [State.autoparkMet, hvmon, hvt, hvc]
  refine ⟨hq.beat.trans (by rw [hvt, hbeat]), hq.bits 0 (by rw [hvl]; exact hbit), fun hrun => ?_, hq.freshForce hvfresh,
    hq.relief (by rw [hvt]; exact hrel), hq.ctl.trans (hvc.trans hctl), hq.meas.trans (hvm.trans hmeas),
    hq.store.trans (hvs.trans hstore), fun r hr he => ?_, fun hd => ?_, fun hd => ?_⟩
  · have htt : t.told = (k, .none) := by
      rw [ht, State.conclude_told s (hvmet.trans (State.expired_told hs.1 hne hrun)), State.told, hvl]
      exact htold
    obtain ⟨h1, h2⟩ := Prod.mk.inj htt
    obtain ⟨r, hr, hre, hrk⟩ := State.expiring_of hs.1 hk
    exact ⟨⟨r, hr, hre, h1.trans hrk.symm⟩, h2⟩
  · have hstay := State.expired_stays hs.1 hr he
    rw [← hvt] at hstay
    rcases hq.stays_or hvn hstay with hin | hin
    · exact ⟨r.state, hin, .inl rfl⟩
    · rcases Record.hold_cases { r with expiry := r.countedTo } with hh | ⟨hst, hh⟩
      · exact ⟨r.state, hh ▸ hin, .inl rfl⟩
      · exact ⟨.held, hh ▸ hin, .inr ⟨hst, rfl⟩⟩
  · obtain ⟨hbear, hset, hpark, hstate⟩ := State.expired_absent hs.1 hd hne
    have hend : t = v.refreshWarn := ht.trans (State.conclude_of_park (by rw [hvt]; exact hbear) (by rw [hvt]; exact hpark))
    have hdc : t.distConfirmed = s.expired.distConfirmed := by
      rw [hend]
      exact State.distConfirmed_congr (by simpa using hvch) (by simpa using hvs)
    rw [hdc, show t.table = s.expired.table by rw [hend, State.refreshWarn_table, hvt]]
    exact ⟨hset, hstate⟩
  · obtain ⟨hset, htrain, hempty⟩ := State.expired_present hs.1 hd hne
    have hvtrain : v.mon.train = .running 0 := by rw [hvmon]; exact htrain
    obtain ⟨h1, h2⟩ := State.conclude_train s (by rw [hvc, hctl]; exact hm) hvtrain
    rw [← ht] at h1 h2
    refine ⟨?_, h1, h2, fun hall hnf => ?_⟩
    · rw [← hset, ← hvt]
      exact hq.holds hvn
    · have hnil : s.expired.table.records = [] := by
        rw [← holdSet_eq_nil, hset, holdSet_eq_nil]
        exact List.filter_eq_nil_iff.2 fun r hr => by simp [hall r hr]
      obtain ⟨hna, hnp⟩ := hnf
      have hend : t = v.refreshWarn := ht.trans (State.conclude_of_nothingFollows
        ⟨by rw [hvmon, hauto]; exact hna, by rw [hvmon, hwant]; exact hnp⟩)
      obtain ⟨href, hwatch⟩ := hempty hnil
      have happ := State.freshForce_empty hvfresh (by rw [hvt]; exact hnil)
      rw [hend]
      exact ⟨by rw [State.refreshWarn_table, hvt]; exact hnil, by rw [← href, ← hvmon]; rfl, by rw [← hwatch, ← hvmon]; rfl, happ⟩

/-- One expiry without the driver, to the end of its event (R23). -/
theorem State.parked_leaves (hs : s.holdsSound) {r : Record} (hr : r ∈ s.table.records)
    (ht : t = State.conclude s (s.convertToPark r.handle)) :
    (holdSet t.table.records = (holdSet s.table.records).map fun x => if x.1 = r.handle then (x.1, .park) else x) ∧
      (({ r with cls := .park, expiry := none, state := .engaging } ∈ t.table.records ∧ t.distConfirmed = false) ∨
        ({ r with cls := .park, expiry := none, state := .held } ∈ t.table.records ∧ t.distConfirmed = true)) ∧
      t.link.pending.getLsbD 0 = true ∧ t.link.lastHandle = r.handle ∧ t.link.lastReason = .none ∧
      t.freshForce ∧ t.table.relief = .stopped ∧ s.keepsRest t ∧ t.ctl = s.ctl ∧ t.meas = s.meas := by
  have hset := s.convertToPark_holdSet r.handle
  have hpark : parkLive (s.convertToPark r.handle).table.records = true := by
    have hin : (r.handle, HoldClass.park) ∈ holdSet (s.convertToPark r.handle).table.records := by
      rw [hset]
      exact List.mem_map.2 ⟨(r.handle, r.cls), List.mem_map.2 ⟨r, hr, rfl⟩, by simp⟩
    obtain ⟨x, hx, hxe⟩ := List.mem_map.1 hin
    exact List.any_eq_true.2 ⟨x, hx, by simpa using congrArg Prod.snd hxe⟩
  have hend : t = (s.convertToPark r.handle).refreshWarn :=
    ht.trans (State.conclude_of_park (s.convertToPark_bearers r.handle) hpark)
  have hchanged : (s.convertToPark r.handle).distConfirmed = (s.changed r.handle Record.parked).distConfirmed :=
    State.distConfirmed_congr (by simp [State.convertToPark_eq]) (by simp [State.convertToPark_eq])
  have hrecs : (s.convertToPark r.handle).table.records = (s.changed r.handle Record.parked).table.records := by
    simp [State.convertToPark_eq]
  have hdc : t.distConfirmed = (s.changed r.handle Record.parked).distConfirmed := by
    rw [hend, ← hchanged]
    exact State.distConfirmed_congr (by simp) (by simp)
  obtain ⟨heng, hheld⟩ := State.changed_mem hs.1 hr (f := Record.parked) (fun _ => rfl) rfl
  have htable : t.table = (s.convertToPark r.handle).table := by rw [hend, State.refreshWarn_table]
  rw [hdc, htable, hrecs]
  obtain ⟨-, h2, -, -, h5, h6⟩ := State.changed_keepsRest s r.handle Record.parked
  refine ⟨by rw [← hrecs]; exact hset, ?_, by rw [hend]; simp [State.convertToPark_eq], by rw [hend]; simp [State.convertToPark_eq],
    by rw [hend]; simp [State.convertToPark_eq], ?_, by simp, ?_, by rw [hend]; simp, by rw [hend]; simp⟩
  · cases hc : (s.changed r.handle Record.parked).distConfirmed with
    | false => exact .inl ⟨heng hc, rfl⟩
    | true => exact .inr ⟨hheld.2 hc, rfl⟩
  · rw [hend]
    exact State.freshForce_congr (by simp [State.convertToPark_eq]) (by simp [State.convertToPark_eq])
      (by simp [State.convertToPark_eq]) (by simp [State.convertToPark_eq]) (by simp [State.convertToPark_eq])
      (s.changed_freshForce r.handle Record.parked)
  · rw [hend]
    simp [State.keepsRest, State.convertToPark_eq, h2, h5, h6]

/-- One expiry with the driver, to the end of its event (R24, R126). -/
theorem State.retiredExpired_leaves (hs : s.holdsSound) (hm : s.ctl.mode ≠ .sleep) (hd : s.mon.driverPresent = true)
    {r : Record} (hr : r ∈ s.table.records) (he : r.endsNext) (ht : t = State.conclude s (s.retireExpired r.handle)) :
    holdSet (s.table.records.filter fun x => x.handle != r.handle) <+: holdSet t.table.records ∧
      t.link.pending.getLsbD 0 = true ∧
      (s.ctl.mode = .run → t.link.lastHandle = r.handle ∧ t.link.lastReason = .none) ∧
      t.mon.train = .running 0 ∧ t.mon.warn ≠ .off ∧ t.freshForce ∧ t.table.relief = .stopped ∧
      (s.table.records = [r] →
        (t.table.records = [] →
            t.mon.ref = .watch ∧ t.mon.watchAfter = .running 0 ∧ t.mon.wheels = s.mon.wheels ∧ t.table.applied = 0) ∧
          (s.nothingFollows → t.table.records = [])) ∧
      s.keepsRest t ∧ t.ctl = s.ctl ∧ t.meas = s.meas := by
  obtain ⟨-, hn⟩ := State.noneReleasing_over hs hr he.1
  have hexp := State.expire_present hd r.handle
  have hvn : (s.retireExpired r.handle).noneReleasing := hexp ▸ State.expire_noneReleasing hn r.handle
  have hq : Sequel (s.retireExpired r.handle) t := ht ▸ sequel_conclude s _
  obtain ⟨hbit, htold, hfresh, hrel⟩ := s.expire_leaves r.handle
  obtain ⟨-, hdriver, hauto, hwant⟩ := s.expire_keepsAside r.handle
  rw [hexp] at hbit htold hfresh hrel hdriver hauto hwant
  obtain ⟨b, hb⟩ := s.retireExpired_records r.handle
  obtain ⟨h1, h2⟩ := State.conclude_train (s := s.retireExpired r.handle) s (by simpa using hm) rfl
  rw [← ht] at h1 h2
  refine ⟨?_, hq.bits 0 hbit, fun hrun => ?_, h1, h2, hq.freshForce hfresh, hq.relief hrel, fun hone => ⟨fun hnil => ?_, fun hnf => ?_⟩,
    State.keepsRest_trans (hexp ▸ s.expire_keepsRest r.handle) hq.keepsRest, hq.ctl.trans (by simp), hq.meas.trans (by simp)⟩
  · have := hq.holds hvn
    rwa [hb, heardRecords_holdSet] at this
  · have htt : t.told = (r.handle, .none) := by
      rw [ht, State.conclude_told s (State.autoparkMet_driver (by simpa using hrun) (hdriver.trans hd)), htold]
    exact Prod.mk.inj htt
  · obtain ⟨w, x, hw⟩ := hq.of_empty hvn hnil
    obtain ⟨href, hwatch⟩ := State.retireExpired_reference (s := s) (h := r.handle) (by simp [othersThan, hone])
    have hwheels := State.retireExpired_wheels hone (Record.endsNext_asker (hs.1.1 r hr) he)
    exact ⟨by rw [hw]; exact href, by rw [hw]; exact hwatch, by rw [hw]; exact hwheels,
      State.freshForce_empty (hq.freshForce hfresh) hnil⟩
  · obtain ⟨hna, hnp⟩ := hnf
    rw [ht, State.conclude_of_nothingFollows ⟨by rw [hauto]; exact hna, by rw [hwant]; exact hnp⟩]
    simp [hb, othersThan, hone]

/-- Settles O30: the beat by whether a count ends with it, and one expiry by the driver. -/
theorem holdsExpire : Obligations.HoldsExpire := by
  intro s hp
  refine ⟨fun hm hb h => exec_expiryCountdown_none hp hm hb h, fun hm hb hs hex => ?_, fun hm hb hs r hr he => ⟨?_, fun hd => ?_, fun hd => ?_⟩,
    fun n htr hn => ?_⟩
  · obtain ⟨k, hk⟩ := exec_expiryCountdown hp hm hb
    exact ⟨_, hk, State.countdown_leaves hs hm hex rfl rfl⟩
  · exact State.holdExpiry_due hm hb hs.1 hr he
  · refine ⟨_, ?_, State.parked_leaves hs hr rfl⟩
    show Host.Outcome.next (s.event fun t => if t.expiryDue r.handle then _ else t) = _
    rw [State.event_powered hp, if_pos (State.expiryDue_of hm hb hs.1 hr he), State.expire_absent hd]
  · refine ⟨_, ?_, State.retiredExpired_leaves hs hm hd hr he rfl⟩
    show Host.Outcome.next (s.event fun t => if t.expiryDue r.handle then _ else t) = _
    rw [State.event_powered hp, if_pos (State.expiryDue_of hm hb hs.1 hr he), State.expire_present hd]
  · refine ⟨(s.withMon { s.mon with train := .stopped }).warnNext, ?_⟩
    show Host.Outcome.next (s.event fun t => if t.trainDue then _ else t) = _
    rw [State.event_powered hp, if_pos (by simp [State.trainDue, htr, hn]), State.conclude_of_table (by simp)]
    rfl

end Sys2Proof.Machine

/-! # The entries into DEGRADED and SAFE, and the first standstill in SAFE -/

namespace Sys2Proof.Machine

variable {s t u v y : State}

/-! ## What an opening leaves at a channel -/

/-- What later states keep of a channel whatever command it takes: whether it is FAULTED, and its FAILSAFE mark. -/
def State.sameMarks (s t : State) : Prop :=
  ∀ c, ((t.chans.get c).state = .faulted ↔ (s.chans.get c).state = .faulted) ∧
    (t.chans.get c).failsafeMarked = (s.chans.get c).failsafeMarked

theorem State.sameMarks_of_chans (h : t.chans = s.chans) : s.sameMarks t := fun c => by rw [h]; exact ⟨Iff.rfl, rfl⟩

theorem State.sameMarks_trans (h : s.sameMarks u) (h' : u.sameMarks t) : s.sameMarks t := fun c =>
  ⟨(h' c).1.trans (h c).1, (h' c).2.trans (h c).2⟩

theorem ChanState.faulted_tested {x : ChanState} (h : x.tested = true) : x ≠ .faulted := by
  rintro rfl
  cases h

theorem State.handOver_sameMarks (s : State) (loads : Six Nat) (fresh : Bool) (c : Chan) :
    ((((s.handOver (s.distribution loads) fresh).get c).state = .faulted ↔ (s.chans.get c).state = .faulted)) ∧
      ((s.handOver (s.distribution loads) fresh).get c).failsafeMarked = (s.chans.get c).failsafeMarked := by
  have ht := s.handOver_tested loads fresh c
  refine ⟨?_, ?_⟩
  · cases hs : (s.chans.get c).state.tested with
    | true =>
      rw [hs] at ht
      exact ⟨fun h => absurd h (ChanState.faulted_tested ht), fun h => absurd h (ChanState.faulted_tested hs)⟩
    | false =>
      have hsame : (s.handOver (s.distribution loads) fresh).get c = s.chans.get c := by
        have he : s.eligible c = false := by
          rw [Bool.eq_false_iff, ne_eq, State.eligible_iff]
          rintro ⟨-, h⟩
          rw [hs] at h
          cases h
        have hreq : ((s.distribution loads).cmds.get c).requested = none := by
          rw [← Option.not_isSome_iff_eq_none]
          simp [State.distribution, State.commandOf_requested, he]
        simp [State.handOver, hreq]
      rw [hsame]
  · unfold State.handOver
    rw [Six.get_ofFn]
    dsimp only
    split
    · split <;> rfl
    · rfl

theorem State.distributeWith_sameMarks (s : State) (loads : Six Nat) (fresh : Bool) :
    s.sameMarks (s.distributeWith loads fresh) := fun c => by
  rw [State.distributeWith_chans]
  exact s.handOver_sameMarks loads fresh c

theorem State.holdSetChange_sameMarks (s : State) (parkBefore : Bool) : s.sameMarks (s.holdSetChange parkBefore) := by
  rcases s.holdSetChange_cases parkBefore with ⟨he, -⟩ | he
  · exact State.sameMarks_of_chans (by simp [he])
  · rw [he]
    exact State.sameMarks_trans (State.sameMarks_of_chans (by simp)) (State.distributeWith_sameMarks _ _ _)

theorem State.openRecord_sameMarks (s : State) (make : Nat → Record) : s.sameMarks (s.openRecord make) := by
  obtain ⟨m, hm⟩ := s.opening_withMon make
  refine State.sameMarks_trans (State.sameMarks_of_chans (t := s.seating make) rfl)
    (State.sameMarks_trans (State.holdSetChange_sameMarks _ (parkLive s.table.records)) (State.sameMarks_of_chans ?_))
  rw [State.openRecord_eq, hm]
  simp

theorem Sequel.sameMarks (h : Sequel s t) : s.sameMarks t :=
  h.keep (P := s.sameMarks) (State.sameMarks_of_chans rfl)
    (fun _ _ hu => State.sameMarks_trans hu (State.openRecord_sameMarks _ _))
    (fun _ _ _ hu => State.sameMarks_trans hu (State.sameMarks_of_chans (by simp)))
    fun _ _ _ hu => State.sameMarks_trans hu (State.sameMarks_of_chans rfl)

/-- A gate that is not armed is not armed by what follows (R118). -/
theorem Sequel.unarmed (h : Sequel s t) (hg : s.gate.armed = false) : t.gate.armed = false :=
  h.keep (P := fun t => t.gate.armed = false) hg
    (fun _ _ hu => by rw [State.openRecord_gate]; split; exact hu; rfl) (fun _ _ _ hu => by simpa using hu)
    fun _ _ _ hu => hu

/-! ## The first standstill in SAFE (R161) -/

theorem markFailsafe_get (chans : Six Channel) (c : Chan) (h : (chans.get c).state ≠ .faulted) :
    ((markFailsafe chans).get c).failsafeMarked = true := by
  simp [markFailsafe, h]

theorem State.hasCause_iff {c : Cause} : s.hasCause c = true ↔ ∃ r ∈ s.table.records, r.cause = some c := by
  simp [State.hasCause]

/-- After the opening of a cause a record of it is live. -/
theorem State.openRecord_hasCause (s : State) (c : Cause) :
    ∃ r ∈ (s.openRecord (monitorRecord c)).table.records, r.cause = some c ∧ r.state ≠ .releasing := by
  rcases s.openRecord_mem (monitorRecord c) with h | h
  · exact ⟨_, h, rfl, monitorRecord_state c _⟩
  · exact ⟨_, h, by simp [monitorRecord], by simp [monitorRecord]⟩

/-- A live record of a cause stays live through what follows. -/
theorem Sequel.cause (h : Sequel s t) (hs : s.noneReleasing) {c : Cause} (hc : ∃ r ∈ s.table.records, r.cause = some c) :
    ∃ r ∈ t.table.records, r.cause = some c := by
  obtain ⟨r, hr, hrc⟩ := hc
  rcases h.stays hs hr with hm | hm
  · exact ⟨r, hm, hrc⟩
  · exact ⟨r.hold, hm, by simpa using hrc⟩

/-- The part once failsafe is done and its channels are marked (R161). -/
def State.failsafed (s : State) : State :=
  (s.withCtl { s.ctl with failsafeDone := true }).withChans (markFailsafe s.chans)

theorem State.firstStandstillInSafe_eq (s : State) : s.firstStandstillInSafe = (s.monitorOpening .failsafe).failsafed := rfl

theorem State.failsafed_marked (s : State) (c : Chan) (h : (s.chans.get c).state ≠ .faulted) :
    (s.failsafed.chans.get c).failsafeMarked = true := markFailsafe_get _ _ h

/-- The first standstill in SAFE, to the end of its event (R161). -/
theorem State.firstStandstill_leaves (hh : holdSet y.table.records = holdSet s.table.records)
    (hb : bearers y.table.records = bearers s.table.records) (ht : t = State.conclude s y.firstStandstillInSafe) :
    y.keepsRest t ∧ t.ctl = { y.ctl with failsafeDone := true } ∧ t.meas = y.meas ∧
      (∀ n, y.link.pending.getLsbD n = true → t.link.pending.getLsbD n = true) ∧
      (y.ctl.mode ≠ .run → t.link.rollawayDeadline = y.link.rollawayDeadline ∧ t.link.shortDeadline = y.link.shortDeadline) ∧
      (y.gate.armed = false → t.gate.armed = false) ∧ (y.gate = .idle → t.gate = .idle) ∧
      (y.noneReleasing → ∀ r ∈ y.table.records, r.state ≠ .engaging → r ∈ t.table.records) ∧
      (∃ r ∈ t.table.records, r.cause = some .failsafe) ∧
      (∀ c, (y.chans.get c).state ≠ .faulted → (t.chans.get c).failsafeMarked = true) ∧
      ({ t.mon.aside with pendantWant := .none } : Monitor.Aside) = { y.mon.aside with pendantWant := .none } := by
  set a := y.monitorOpening .failsafe with ha
  have hqa : Sequel y a := sequel_monitorOpening y .failsafe
  have hqt : Sequel a.failsafed t := by rw [ht, State.firstStandstillInSafe_eq, ← ha]; exact sequel_conclude s _
  refine ⟨State.keepsRest_trans hqa.keepsRest hqt.keepsRest, ?_, hqt.meas.trans hqa.meas,
    fun n hn => hqt.bits n (hqa.bits n hn), fun hm => ?_, fun hg => hqt.unarmed (hqa.unarmed hg),
    fun hg => hqt.gate (hqa.gate hg), fun hn r hr he => ?_, ?_, fun c hc => ?_, hqt.aside.trans hqa.aside⟩
  · rw [hqt.ctl, ← hqa.ctl]
    rfl
  · obtain ⟨h1, h2⟩ := hqa.deadlines hm
    obtain ⟨g1, g2⟩ := hqt.deadlines (show a.ctl.mode ≠ .run by rw [hqa.ctl]; exact hm)
    exact ⟨g1.trans h1, g2.trans h2⟩
  · exact hqt.stays_held (hqa.noneReleasing hn) (hqa.stays_held hn hr he) he
  · cases hc : y.hasCause .failsafe with
    | true =>
      have hay : a = y := by rw [ha]; simp [State.monitorOpening, hc]
      have hend : t = a.failsafed.refreshWarn := by
        rw [ht, State.firstStandstillInSafe_eq, ← ha]
        exact State.conclude_of_bearers (by rw [hay]; exact hh) (by rw [hay]; exact hb)
      rw [hend, hay]
      exact State.hasCause_iff.1 hc
    | false =>
      have hay : a = (y.openRecord (monitorRecord .failsafe)).raiseHolds y.table.newHandle .none := by
        rw [ha]; simp [State.monitorOpening, hc]
      have hn : a.failsafed.noneReleasing := by
        show a.noneReleasing
        rw [hay]
        exact State.openRecord_noneReleasing y (monitorRecord_state .failsafe)
      refine hqt.cause hn ?_
      show ∃ r ∈ a.table.records, _
      rw [hay]
      obtain ⟨r, hr, hrc, -⟩ := y.openRecord_hasCause .failsafe
      exact ⟨r, hr, hrc⟩
  · rw [(hqt.sameMarks c).2]
    exact a.failsafed_marked c fun hf => hc ((hqa.sameMarks c).1.1 hf)

/-! ## The overrides before the first standstill (R102, R161) -/

/-- A channel whose override is ZERO, or that is FAULTED and keeps its own. -/
def State.zeroed (s : State) (c : Chan) : Prop := (s.chans.get c).state ≠ .faulted → (s.chans.get c).override = .zero

theorem Channel.command_override (ch : Channel) (v : ChannelItems) (forced : Bool) (r : Requested) (duty frozen : Nat) :
    (ch.command v forced r duty frozen).override = ch.override := rfl

theorem State.overrideChannel_self (s : State) (c : Chan) : (s.overrideChannel c .zero).zeroed c := by
  unfold State.overrideChannel State.zeroed
  dsimp only
  split
  · rename_i h
    exact fun hf => h.resolve_left hf
  · split
    · split <;> simp [Channel.command_override]
    · simp

theorem State.overrideChannel_other (s : State) {b c : Chan} (h : b ≠ c) (o : Override) :
    (s.overrideChannel c o).chans.get b = s.chans.get b := by
  unfold State.overrideChannel
  dsimp only
  split
  · rfl
  · split
    · split <;> simp [Six.get_put_other, h]
    · simp [Six.get_put_other, h]

theorem State.overrideChannel_zeroed (s : State) {b : Chan} (c : Chan) (h : s.zeroed b) : (s.overrideChannel c .zero).zeroed b := by
  by_cases hb : b = c
  · subst hb
    exact s.overrideChannel_self b
  · rw [State.zeroed, s.overrideChannel_other hb]
    exact h

/-- A channel that an override leaves not FAULTED was not FAULTED, and one that was is left. -/
theorem State.overrideChannel_faulted (s : State) (c b : Chan) (o : Override) :
    ((s.overrideChannel c o).chans.get b).state = .faulted ↔ (s.chans.get b).state = .faulted := by
  by_cases hb : b = c
  · subst hb
    unfold State.overrideChannel
    dsimp only
    split
    · rfl
    · rename_i h
      simp only [not_or] at h
      split
      · split
        · rename_i r _ _
          simp only [State.withChan_chans, Six.get_put_same]
          exact ⟨fun hf => absurd hf (ChanState.faulted_tested (Channel.command_tested _ _ _ _ _ _)), fun hf => absurd hf h.1⟩
        · simp
      · simp
  · rw [s.overrideChannel_other hb]

theorem State.foldl_overrideChannel (cs : List Chan) (s : State) (P : State → Prop) (hs : P s)
    (hstep : ∀ u c, P u → P (u.overrideChannel c .zero)) : P (cs.foldl (fun t c => t.overrideChannel c .zero) s) := by
  induction cs generalizing s with
  | nil => exact hs
  | cons c cs ih => exact ih _ (hstep s c hs)

theorem State.foldl_overrideChannel_zeroed (cs : List Chan) (s : State) {c : Chan} (hc : c ∈ cs) :
    (cs.foldl (fun t c => t.overrideChannel c .zero) s).zeroed c := by
  induction cs generalizing s with
  | nil => cases hc
  | cons b cs ih =>
    rcases List.mem_cons.1 hc with rfl | hc
    · exact State.foldl_overrideChannel cs _ (fun u => u.zeroed c) (s.overrideChannel_self c)
        fun u d hu => u.overrideChannel_zeroed d hu
    · exact ih _ hc

/-- The part with every channel's override ZERO, before the first standstill (R161). -/
def State.zeroing (s : State) : State := allChans.foldl (fun t c => t.overrideChannel c .zero) s

theorem State.zeroing_chans (s : State) : ∃ x, s.zeroing = s.withChans x ∧
    ∀ c, (s.chans.get c).state ≠ .faulted → (x.get c).override = .zero := by
  obtain ⟨⟨x, hx⟩, hf⟩ := State.foldl_overrideChannel allChans s
    (fun u => (∃ x, u = s.withChans x) ∧ ∀ c, (u.chans.get c).state = .faulted ↔ (s.chans.get c).state = .faulted)
    ⟨⟨s.chans, rfl⟩, fun _ => Iff.rfl⟩ fun u c hu => by
      obtain ⟨⟨x, rfl⟩, hf⟩ := hu
      refine ⟨?_, fun b => (State.overrideChannel_faulted _ c b _).trans (hf b)⟩
      unfold State.overrideChannel
      dsimp only
      split
      · exact ⟨x, rfl⟩
      · split
        · split <;> exact ⟨_, rfl⟩
        · exact ⟨_, rfl⟩
  refine ⟨x, hx, fun c hc => ?_⟩
  have hz := State.foldl_overrideChannel_zeroed allChans s (mem_allChans c)
  have hne : ((s.withChans x).chans.get c).state ≠ .faulted := by
    rw [← hx]
    exact fun h => hc ((hf c).1 h)
  rw [hx] at hz
  exact hz hne

/-! ## A cancelled release (R119) -/

theorem Record.backToHeld_of_releasing {r : Record} (h : r.state = .releasing) : r.backToHeld = { r with state := .held } := by
  simp [Record.backToHeld, h]

/-- What the cancelling of a release leaves, for any gate. -/
theorem State.gateCancel_leaves (s : State) :
    s.gateCancel.gate.armed = false ∧ holdSet s.gateCancel.table.records = holdSet s.table.records ∧
      bearers s.gateCancel.table.records = bearers s.table.records ∧
      (∀ n, s.link.pending.getLsbD n = true → s.gateCancel.link.pending.getLsbD n = true) ∧
      s.gateCancel.link.rollawayDeadline = s.link.rollawayDeadline ∧ s.gateCancel.link.shortDeadline = s.link.shortDeadline ∧
      s.gateCancel.mon.aside = s.mon.aside := by
  obtain ⟨⟨hh, -⟩, hg⟩ := s.gateCancel_stands
  refine ⟨hg, hh, ?_, ?_, ?_, ?_, ?_⟩ <;> unfold State.gateCancel <;> split
  · rw [State.releaseFails_table]
    exact bearers_map Record.backToHeld_handle Record.backToHeld_owner _
  · rfl
  · intro n hn
    simp [State.releaseFails, hn]
  · exact fun n hn => hn
  · simp [State.releaseFails, State.raiseHolds, State.raise, State.withLink]
  · rfl
  · simp [State.releaseFails, State.raiseHolds, State.raise, State.withLink]
  · rfl
  · simp [State.releaseFails]
  · rfl

/-- The cancelling of an armed release leaves an idle gate and nothing RELEASING (R11, R119). -/
theorem State.gateCancel_idle (ha : s.gate.armed = true) : s.gateCancel.gate = .idle ∧ s.gateCancel.noneReleasing := by
  have hc : s.gateCancel = s.releaseFails .mode := by simp [State.gateCancel, ha]
  rw [hc]
  refine ⟨by simp [State.releaseFails], fun r hr => ?_⟩
  rw [State.releaseFails_table] at hr
  obtain ⟨x, -, rfl⟩ := List.mem_map.1 hr
  exact x.backToHeld_releasing

/-- A release cancelled at the entry into a mode, whatever follows it in the event. -/
theorem State.releaseCancelled_of {p : Prop} (ha : s.gate.armed = true) (hs : s.gateSound) (hv : v.gate = s.gate) (hvt : v.table = s.table)
    (hvf : v.force = s.force) (hvd : v.dist = s.dist) (hgate : t.gate = .idle)
    (hbits : ∀ n, v.gateCancel.link.pending.getLsbD n = true → t.link.pending.getLsbD n = true)
    (hstay : ∀ r ∈ v.gateCancel.table.records, r.state ≠ .engaging → r ∈ t.table.records)
    (hquiet : p → t.table = v.gateCancel.table ∧ t.link = v.gateCancel.link ∧ t.force = v.gateCancel.force ∧
      t.dist = v.gateCancel.dist) : s.releaseCancelled t p := by
  have hrel : ∀ r ∈ v.table.records, r.state = .releasing := by
    unfold State.gateSound at hs
    rw [if_pos ha] at hs
    obtain ⟨hr, -⟩ := hs
    rw [hvt]
    exact fun r h => (hr r h).1
  have htable : v.gateCancel.table = { s.table with records := s.table.records.map fun r => { r with state := .held } } := by
    have : v.gateCancel.table = { v.table with records := v.table.records.map Record.backToHeld } := by
      simp [State.gateCancel, hv, ha, State.releaseFails_table]
    rw [this, List.map_congr_left fun r hr => Record.backToHeld_of_releasing (hrel r hr), hvt]
  have hcancel : v.gateCancel = v.releaseFails .mode := by simp [State.gateCancel, hv, ha]
  refine ⟨hgate, fun r hr => hstay _ ?_ (by simp), hbits 0 (by simp [hcancel, State.releaseFails]), fun hp => ?_⟩
  · rw [htable]
    exact List.mem_map.2 ⟨r, hr, rfl⟩
  · obtain ⟨h1, h2, h3, h4⟩ := hquiet hp
    exact ⟨h1.trans htable, by rw [h2, hcancel]; simp [State.releaseFails, hv], by rw [h2, hcancel]; simp [State.releaseFails],
      by rw [h3]; simp [hvf], by rw [h4]; simp [hvd]⟩

end Sys2Proof.Machine

/-! # Supervision faults, the mode timers and the motion timers (O19, O21, O52) -/

namespace Sys2Proof.Machine

variable {s t u v y : State}

/-! ## The entry into SAFE (R160) -/

/-- The part in SAFE, before it cancels a release and overrides its channels. -/
def State.securing (v : State) : State :=
  { v with
    ctl := { v.ctl with mode := .safe, timer := .stopped, phase := .none, window := none, sleepPending := false }
    link :=
      { v.link with pending := v.link.pending ||| 0x40, rollawayDeadline := .stopped, shortDeadline := .stopped } }

theorem State.enterSafe_eq (v : State) : v.enterSafe = v.securing.gateCancel.safeOverrides := rfl

/-- What either entry into a mode keeps of the part it finds. -/
def State.linksFrom (s v : State) : Prop := ∃ l, v = s.withLink l

/-- WARN is steady in SAFE (R144). -/
theorem State.refreshWarn_safe (h : s.ctl.mode = .safe) : s.refreshWarn.mon.warn = .steady := by
  show s.warnNext = .steady
  simp [State.warnNext, State.warnSteady, h]

theorem State.conclude_safe (before : State) (h : s.ctl.mode = .safe) : (State.conclude before s).mon.warn = .steady := by
  obtain ⟨u, hu, hc⟩ := State.conclude_refreshes before s
  rw [hc]
  exact State.refreshWarn_safe (by rw [hu.ctl]; exact h)

/-- The entry into SAFE before the first standstill, to the end of its event (R160, R161). -/
theorem State.enterSafe_moving (hv : v.table = s.table) (hm : v.mon.motion ≠ .standstill) :
    State.conclude s v.enterSafe = v.securing.gateCancel.zeroing.refreshWarn := by
  have hmot : v.securing.gateCancel.atStandstill = false := by
    have : v.securing.gateCancel.mon.motion = v.mon.motion := by
      obtain ⟨-, -, -, -, -, -, ha⟩ := v.securing.gateCancel_leaves
      exact congrArg Monitor.Aside.motion ha
    simp [State.atStandstill, this, hm]
  have he : v.enterSafe = v.securing.gateCancel.zeroing := by
    rw [State.enterSafe_eq, State.safeOverrides, hmot]
    rfl
  obtain ⟨x, hx, -⟩ := v.securing.gateCancel.zeroing_chans
  obtain ⟨-, hh, hb, -⟩ := v.securing.gateCancel_leaves
  rw [he, State.conclude_of_bearers]
  · rw [hx, State.withChans_table, hh]
    exact congrArg (fun x => holdSet x.records) hv
  · rw [hx, State.withChans_table, hb]
    exact congrArg (fun x => bearers x.records) hv

/-- The entry into SAFE at standstill is the first standstill in SAFE (R161). -/
theorem State.enterSafe_standstill (hm : v.mon.motion = .standstill) :
    v.enterSafe = v.securing.gateCancel.firstStandstillInSafe := by
  have : v.securing.gateCancel.mon.motion = v.mon.motion := by
    obtain ⟨-, -, -, -, -, -, ha⟩ := v.securing.gateCancel_leaves
    exact congrArg Monitor.Aside.motion ha
  rw [State.enterSafe_eq, State.safeOverrides, if_pos (by simp [State.atStandstill, this, hm])]

/-- The entry into SAFE, to the end of its event (R160, R161, R119). -/
theorem State.safe_leaves (hl : s.linksFrom u) (hv : ∃ c, v = u.withCtl c) (ht : t = State.conclude s v.enterSafe) :
    s.keepsRest t ∧ t.meas = s.meas ∧ (t.ctl.mode = .safe ∧ t.ctl.phase = .none ∧ t.ctl.timer = .stopped ∧
      t.ctl.window = none ∧ t.ctl.sleepPending = false ∧ t.ctl.degradations = v.ctl.degradations ∧
      t.ctl.token = v.ctl.token) ∧ t.link.pending.getLsbD 6 = true ∧
      (t.link.rollawayDeadline = .stopped ∧ t.link.shortDeadline = .stopped) ∧ t.gate.armed = false ∧
      t.mon.warn = .steady ∧ (s.gate.armed = true → s.gateSound → s.releaseCancelled t (s.mon.motion ≠ .standstill)) ∧
      (s.mon.motion ≠ .standstill → t.ctl.failsafeDone = v.ctl.failsafeDone ∧
        ∀ c, (s.chans.get c).state ≠ .faulted → (t.chans.get c).override = .zero) ∧
      (s.mon.motion = .standstill → t.ctl.failsafeDone = true ∧ (∃ r ∈ t.table.records, r.cause = some .failsafe) ∧
        ∀ c, (s.chans.get c).state ≠ .faulted → (t.chans.get c).failsafeMarked = true) := by
  obtain ⟨l, rfl⟩ := hl
  obtain ⟨c, rfl⟩ := hv
  set v := (s.withLink l).withCtl c with hv
  set y := v.securing.gateCancel with hy
  obtain ⟨hg, hh, hb, hbits, hd1, hd2, haside⟩ := v.securing.gateCancel_leaves
  rw [← hy] at hg hh hb hbits hd1 hd2 haside
  have hyf : s.keepsRest y ∧ y.meas = s.meas ∧ y.chans = s.chans ∧ y.ctl = v.securing.ctl := by
    rw [hy]
    simp [State.keepsRest, State.securing, hv]
  obtain ⟨hrest, hmeas, hchans, hctl⟩ := hyf
  have hbit6 : y.link.pending.getLsbD 6 = true := hbits 6 (by simp [State.securing])
  have hidle : s.gate.armed = true → y.gate = .idle ∧ y.noneReleasing := fun ha => State.gateCancel_idle ha
  by_cases hm : s.mon.motion = .standstill
  · have he : t = State.conclude s y.firstStandstillInSafe := by
      rw [ht, State.enterSafe_standstill (v := v) hm]
    obtain ⟨h1, h2, h3, h4, h5, h6, h7, h8, h9, h10, -⟩ := State.firstStandstill_leaves (y := y) hh hb he
    have hmode : y.ctl.mode ≠ .run := by rw [hctl]; exact fun h => nomatch h
    obtain ⟨g1, g2⟩ := h5 hmode
    refine ⟨State.keepsRest_trans hrest h1, h3.trans hmeas, ?_, h4 6 hbit6, ⟨g1.trans hd1, g2.trans hd2⟩, h6 hg, ?_,
      fun ha hs => ?_, fun hn => absurd hm hn, fun _ => ⟨by rw [h2], h9, fun c hc => h10 c (by rw [hchans]; exact hc)⟩⟩
    · rw [h2, hctl]
      exact ⟨rfl, rfl, rfl, rfl, rfl, rfl, rfl⟩
    · rw [he]
      refine State.conclude_safe s ?_
      rw [State.firstStandstillInSafe_eq]
      show (y.monitorOpening .failsafe).ctl.mode = .safe
      rw [State.monitorOpening_ctl, hctl]
      rfl
    · obtain ⟨hi, hn⟩ := hidle ha
      exact State.releaseCancelled_of (v := v.securing) ha hs rfl rfl rfl rfl (h7 hi) h4 (h8 hn) fun hn => absurd hm hn
  · have he : t = y.zeroing.refreshWarn := ht.trans (State.enterSafe_moving rfl hm)
    obtain ⟨x, hx, hzero⟩ := y.zeroing_chans
    rw [hx] at he
    have hlink : t.link = y.link := by rw [he]; rfl
    have htable : t.table = y.table := by rw [he]; rfl
    have hgate : t.gate = y.gate := by rw [he]; rfl
    have htc : t.ctl = y.ctl := by rw [he]; rfl
    refine ⟨State.keepsRest_trans hrest (by rw [he]; exact ⟨rfl, rfl, rfl, rfl, rfl, rfl⟩), by rw [he]; exact hmeas, ?_,
      by rw [hlink]; exact hbit6, ⟨by rw [hlink, hd1]; rfl, by rw [hlink, hd2]; rfl⟩, by rw [hgate]; exact hg, ?_,
      fun ha hs => ?_, fun _ => ⟨by rw [htc, hctl]; rfl, fun c hc => ?_⟩, fun hn => absurd hn hm⟩
    · rw [htc, hctl]
      exact ⟨rfl, rfl, rfl, rfl, rfl, rfl, rfl⟩
    · rw [he]
      refine State.refreshWarn_safe ?_
      show y.ctl.mode = .safe
      rw [hctl]
      rfl
    · obtain ⟨hi, hn⟩ := hidle ha
      exact State.releaseCancelled_of (v := v.securing) ha hs rfl rfl rfl rfl (hgate.trans hi)
        (fun n hn => by rw [hlink]; exact hn) (fun r hr _ => by rw [htable]; exact hr)
        fun _ => ⟨htable, hlink, by rw [he]; rfl, by rw [he]; rfl⟩
    · have : t.chans = x := by rw [he]; rfl
      rw [this]
      exact hzero c (by rw [hchans]; exact hc)

/-! ## The entry into DEGRADED (R156) -/

/-- The part in DEGRADED, before it cancels a release. -/
def State.degrading (v : State) : State :=
  { v with
    ctl := { v.ctl with mode := .degraded, timer := .running 0, phase := .awaitResync, window := none, sleepPending := false }
    link :=
      { v.link with pending := v.link.pending ||| 0x40, rollawayDeadline := .stopped, shortDeadline := .stopped } }

theorem State.enterDegraded_eq (v : State) : v.enterDegraded = v.degrading.gateCancel.autoparkEvaluate := rfl

/-- The entry into DEGRADED, to the end of its event (R156, R119, R138). -/
theorem State.degraded_leaves (hl : s.linksFrom u) (hv : ∃ c, v = u.withCtl c) (ht : t = State.conclude s v.enterDegraded) :
    s.keepsRest t ∧ t.meas = s.meas ∧ (t.ctl.mode = .degraded ∧ t.ctl.phase = .awaitResync ∧ t.ctl.timer = .running 0 ∧
      t.ctl.window = none ∧ t.ctl.sleepPending = false ∧ t.ctl.degradations = v.ctl.degradations ∧
      t.ctl.token = v.ctl.token) ∧ t.link.pending.getLsbD 6 = true ∧
      (t.link.rollawayDeadline = .stopped ∧ t.link.shortDeadline = .stopped) ∧ t.gate.armed = false ∧
      (s.gate.armed = true → s.gateSound →
        s.releaseCancelled t (s.mon.autopark ≠ .ranOut ∨ ∃ r ∈ s.table.records, r.cls = .park) ∧
          ((s.mon.autopark ≠ .ranOut ∨ ∃ r ∈ s.table.records, r.cls = .park) → t.chans = s.chans)) := by
  obtain ⟨l, rfl⟩ := hl
  obtain ⟨c, rfl⟩ := hv
  set v := (s.withLink l).withCtl c with hv
  set y := v.degrading.gateCancel with hy
  obtain ⟨hg, hh, hb, hbits, hd1, hd2, haside⟩ := v.degrading.gateCancel_leaves
  rw [← hy] at hg hh hb hbits hd1 hd2 haside
  have hyf : s.keepsRest y ∧ y.meas = s.meas ∧ y.chans = s.chans ∧ y.ctl = v.degrading.ctl := by
    rw [hy]
    simp [State.keepsRest, State.degrading, hv]
  obtain ⟨hrest, hmeas, hchans, hctl⟩ := hyf
  have hq : Sequel y t := by
    rw [ht, State.enterDegraded_eq, ← hy]
    exact (sequel_autoparkEvaluate y).trans (sequel_conclude s _)
  have hmode : y.ctl.mode ≠ .run := by rw [hctl]; exact fun h => nomatch h
  obtain ⟨g1, g2⟩ := hq.deadlines hmode
  have hquiet : (s.mon.autopark ≠ .ranOut ∨ ∃ r ∈ s.table.records, r.cls = .park) → t = y.refreshWarn := by
    intro h
    have hmet : y.autoparkMet = false := by
      rcases h with h | ⟨r, hr, hrc⟩
      · have hauto : y.mon.autopark = s.mon.autopark := congrArg Monitor.Aside.autopark haside
        have hrun : y.mon.autopark.hasRunOut = false := by
          rw [hauto]
          cases hk : s.mon.autopark <;> simp_all [Timer.hasRunOut]
        simp [State.autoparkMet, hrun]
      · refine State.autoparkMet_park ?_
        rw [parkLive_of_holdSet hh]
        exact List.any_eq_true.2 ⟨r, hr, by simp [hrc]⟩
    have hev : y.autoparkEvaluate = y := by simp [State.autoparkEvaluate, hmet]
    rw [ht, State.enterDegraded_eq, ← hy, hev]
    exact State.conclude_of_bearers hh hb
  refine ⟨State.keepsRest_trans hrest hq.keepsRest, hq.meas.trans hmeas, ?_, hq.bits 6 (hbits 6 (by simp [State.degrading])),
    ⟨g1.trans hd1, g2.trans hd2⟩, hq.unarmed hg, fun ha hs => ?_⟩
  · rw [hq.ctl, hctl]
    exact ⟨rfl, rfl, rfl, rfl, rfl, rfl, rfl⟩
  · obtain ⟨hi, hn⟩ := State.gateCancel_idle (s := v.degrading) ha
    refine ⟨State.releaseCancelled_of (v := v.degrading) ha hs rfl rfl rfl rfl (hq.gate hi) hq.bits
      (fun r hr he => hq.stays_held hn hr he) fun hp => ?_, fun hp => ?_⟩
    · rw [hquiet hp]
      exact ⟨rfl, rfl, rfl, rfl⟩
    · rw [hquiet hp]
      exact hchans

/-! ## Supervision faults (R152) -/

/-- A supervision fault is one over the part with its link alone changed. -/
theorem State.faultsBy_exec {i : Instr} (h : s.faultsBy i) :
    ∃ u, s.linksFrom u ∧ exec i s = .next (State.conclude s u.supervisionFault) := by
  obtain ⟨hp, hm, hc⟩ := h
  rcases hc with ⟨a, rfl, hsl, hph⟩ | ⟨rfl, hph, w, hw, hcl⟩ | ⟨src, n, rfl, hd, hn⟩
  · have ht : s.takes := ⟨hp, by simp [hm], hsl⟩
    have he : exec (.keepalive a) s = .next (s.keepaliveRun a) := by
      rw [exec_own (r := .keepalive) ht rfl (by rw [hm]; rfl)]
      simp only [State.keepaliveRule, hm]
    rcases hph with hph | ⟨hph, ha⟩
    · exact ⟨s.refuse 0x10 .window, ⟨_, rfl⟩, by rw [he]; simp [State.keepaliveRun, hph, Phase.isOpen]⟩
    · refine ⟨s.refuse 0x10 .token, ⟨_, rfl⟩, ?_⟩
      rw [he, State.keepaliveRun, if_neg (by simp [hph, Phase.isOpen]), if_pos (show a ≠ s.expectedAnswer from ha)]
  · refine ⟨s, ⟨s.link, rfl⟩, ?_⟩
    show Host.Outcome.next (s.event fun t => if t.windowClosesDue then _ else t) = _
    rw [State.event_powered hp, if_pos (by simp [State.windowClosesDue, hw, hph, hcl, Phase.isOpen]), if_pos hm]
  · refine ⟨s.stopDeadline src, ?_, ?_⟩
    · cases src <;> exact ⟨_, rfl⟩
    · show Host.Outcome.next (s.event fun t => if t.deadlineDue src then _ else t) = _
      have hmode : (s.stopDeadline src).ctl.mode = .run := by cases src <;> exact hm
      rw [State.event_powered hp, if_pos (by simp [State.deadlineDue, hd, hn])]
      dsimp only
      rw [if_pos hmode]

/-- Settles O19: DEGRADED below the third fault, and SAFE from it on. -/
theorem supervisionFault : Obligations.SupervisionFault := by
  intro s i h
  obtain ⟨u, hl, hexec⟩ := State.faultsBy_exec h
  have huc : u.ctl = s.ctl := by obtain ⟨l, rfl⟩ := hl; rfl
  by_cases hd : s.ctl.degradations < 2
  · have he : u.supervisionFault = (u.withCtl { u.ctl with degradations := u.ctl.degradations + 1 }).enterDegraded := by
      unfold State.supervisionFault
      dsimp only
      rw [if_neg (by simp [huc]; omega)]
    rw [he] at hexec
    obtain ⟨hrest, hmeas, ⟨h1, h2, h3, h4, h5, h6, h7⟩, hbit, ⟨hd1, hd2⟩, hg, hcancel⟩ :=
      State.degraded_leaves hl ⟨_, rfl⟩ rfl
    refine ⟨_, hexec, by rw [h6]; simp [huc], by rw [h7]; simp [huc], h4, h5, hbit, hd1, hd2, hg, fun _ => ⟨h1, h2, h3⟩,
      fun hn => by omega, fun ha hs => ⟨fun _ => hcancel ha hs.2, fun hn => by omega⟩, hrest, hmeas⟩
  · have he : u.supervisionFault = (u.withCtl { u.ctl with degradations := u.ctl.degradations + 1 }).enterSafe := by
      unfold State.supervisionFault
      dsimp only
      rw [if_pos (by simp [huc]; omega)]
    rw [he] at hexec
    obtain ⟨hrest, hmeas, ⟨h1, h2, h3, h4, h5, h6, h7⟩, hbit, ⟨hd1, hd2⟩, hg, -, hcancel, -, -⟩ :=
      State.safe_leaves hl ⟨_, rfl⟩ rfl
    refine ⟨_, hexec, by rw [h6]; simp [huc], by rw [h7]; simp [huc], h4, h5, hbit, hd1, hd2, hg,
      fun hn => by omega, fun _ => ⟨h1, h2, h3⟩, fun ha hs => ⟨fun hn => by omega, fun _ => hcancel ha hs.2⟩, hrest, hmeas⟩

/-! ## The mode timers (R153, R154, R159) -/

/-- Settles O21: START into RETRY with the rest standing; RETRY and DEGRADED by the entry into SAFE. -/
theorem modeTimersRunOut : Obligations.ModeTimersRunOut := by
  intro s n hp ht
  refine ⟨fun hm hn => ?_, fun i hi => ?_⟩
  · have hexec : exec .startTimerExpiry s =
        .next ((s.withCtl { s.ctl with mode := .retry, timer := .running 0 }).raise .mode).refreshWarn := by
      show Host.Outcome.next (s.event fun t => if t.modeTimerDue .start 2000 then _ else t) = _
      rw [State.event_powered hp, if_pos (by simp [State.modeTimerDue, hm, ht, hn]), State.conclude_of_table (by simp)]
      rfl
    exact ⟨_, hexec, rfl, rfl, rfl, rfl, rfl⟩
  · have hexec : exec i s = .next (State.conclude s s.enterSafe) := by
      rcases hi with ⟨rfl, hm, hn⟩ | ⟨rfl, hm, hn⟩
      · show Host.Outcome.next (s.event fun t => if t.modeTimerDue .retry 4000 then _ else t) = _
        rw [State.event_powered hp, if_pos (by simp [State.modeTimerDue, hm, ht, hn])]
      · show Host.Outcome.next (s.event fun t => if t.modeTimerDue .degraded 30000 then _ else t) = _
        rw [State.event_powered hp, if_pos (by simp [State.modeTimerDue, hm, ht, hn])]
    obtain ⟨hrest, -, ⟨h1, h2, h3, h4, -, h6, -⟩, hbit, -, hg, hwarn, hcancel, hmoving, hstill⟩ :=
      State.safe_leaves (s := s) (u := s) ⟨s.link, rfl⟩ ⟨s.ctl, rfl⟩ rfl
    exact ⟨_, hexec, h1, h2, h3, h4, h6, hbit, hg, hwarn, hrest, fun ha hs => hcancel ha hs.2, hmoving, hstill⟩

end Sys2Proof.Machine

/-! # The motion timers, and the pendant's opening (O52) -/

namespace Sys2Proof.Machine

variable {s t u x : State}

/-! ## The pendant's opening -/

/-- With no PENDANT record live but a RELEASING one, an opening is not needless (R26). -/
theorem State.pendantFree_of (h : s.noPendant) : s.pendantFree = true := by
  unfold State.pendantFree State.pendantLive
  cases hf : s.table.records.find? fun r => r.owner == .pendant with
  | none => rfl
  | some r =>
    have hr := h r (List.mem_of_find?_eq_some hf) (by simpa using List.find?_some hf)
    simp [Record.isReleasing, hr]

theorem State.pendantFree_not (hs : s.holdsSound) (h : ¬s.noPendant) : s.pendantFree = false := by
  have hlim : ownedBy s.table.records .pendant ≤ 1 := by
    obtain ⟨⟨-, -, -, -, -, -, -, -, hp, -⟩, -⟩ := hs
    exact hp
  rw [Bool.eq_false_iff, ne_eq, State.pendantFree_iff s hlim]
  exact h

/-- What the pendant wants is changed at the end of an event where an opening is owed for lack of room alone (R26). -/
theorem State.conclude_wants (before : State) (h : s.mon.pendantWant ≠ .untilRoom) :
    (State.conclude before s).mon.pendantWant = s.mon.pendantWant := by
  have hpark : s.autoparkEvaluate.mon.pendantWant = s.mon.pendantWant := by
    rcases s.autoparkEvaluate_cases with he | he
    · rw [he]
    · rw [he, State.raiseHolds_mon]
      exact congrArg Monitor.Aside.pendantWant (s.openRecord_aside (monitorRecord .autopark))
  have hretry : ∀ u : State, u.mon.pendantWant = s.mon.pendantWant → u.pendantRetry = u := by
    intro u hu
    simp [State.pendantRetry, hu, h]
  unfold State.conclude
  dsimp only
  rw [hretry]
  · split <;> split
    · exact hpark
    · exact hpark
    · rfl
    · rfl
  · split
    · exact hpark
    · rfl

/-- What the pendant wants is no part of the holds, the gate, the forces or the reference. -/
theorem State.want_noneReleasing (h : s.noneReleasing) (w : PendantWant) : (s.want w).noneReleasing := h

theorem State.want_freshForce (h : s.freshForce) (w : PendantWant) : (s.want w).freshForce := State.freshForce_withMon _ h

@[simp] theorem State.want_ref (s : State) (w : PendantWant) : (s.want w).mon.ref = s.mon.ref := rfl

/-- The pendant's hold once opened, whatever the part opens after it (R5, R26). -/
theorem State.pendantOpened_of {kept : List Record} (hx : x.table.sound) (hg : (x.openRecord pendantRecord).gate = .idle)
    (hq : Sequel ((x.openRecord pendantRecord).want .none) t) (hw : t.mon.pendantWant = .none)
    (he : s.table.records = [] → x.table.records = [])
    (hk : (holdSet kept).Sublist (holdSet (notReleasing x.table.records))) : t.pendantOpened s kept := by
  obtain ⟨hrec, -, hrange, hlim⟩ := hx
  have hlen : x.table.records.length < 255 := by have := hlim.1; omega
  have hn : ((x.openRecord pendantRecord).want .none).noneReleasing :=
    State.want_noneReleasing (State.openRecord_noneReleasing x pendantRecord_state) .none
  have htable : ((x.openRecord pendantRecord).want .none).table = (x.openRecord pendantRecord).table := State.want_table _ _
  obtain ⟨st, hst, hmem⟩ := hq.stays_as (r := pendantRecord x.table.newHandle) hn
    (by rw [htable]; exact State.openRecord_mem x pendantRecord) (pendantRecord_state _)
  refine ⟨⟨x.table.newHandle, st, HoldTable.newHandle_range hrange hlen, fun r hr => ?_, hst, hmem, ?_⟩, hq.noneReleasing hn,
    by rw [hq.gate (by rw [State.want_gate, hg])]; rfl,
    hq.freshForce (State.want_freshForce (x.openRecord_freshForce pendantRecord) .none), hw,
    fun hnil => hq.holding (by rw [State.want_ref, State.openRecord_ref, if_pos (he hnil)])⟩
  · have hin : (r.handle, r.cls) ∈ holdSet (notReleasing x.table.records) :=
      hk.subset (List.mem_map.2 ⟨r, hr, rfl⟩)
    obtain ⟨y, hy, hye⟩ := List.mem_map.1 hin
    obtain ⟨hh, -⟩ := Prod.mk.inj hye
    rw [← hh]
    exact HoldTable.newHandle_fresh hrange hlen y (mem_notReleasing.1 hy).1
  · have hpre : holdSet (notReleasing x.table.records) ++ [(x.table.newHandle, HoldClass.firm)] <+: holdSet t.table.records := by
      have := hq.holds hn
      rw [htable, State.openRecord_records, heardRecords_holdSet, holdSet_append] at this
      exact this
    exact (hk.append (List.Sublist.refl _)).trans hpre.sublist

/-! ## The moving timer (R124) -/

/-- The part when the moving timer has run out: CREEPING. -/
def State.creeping (s : State) : State := s.withMon { s.mon with moving := none, motion := .creeping }

theorem exec_movingTimerExpiry (hp : s.powered = true) (hm : s.mon.moving = some 0) :
    exec .movingTimerExpiry s = .next (State.conclude s s.stopMoving) := by
  show Host.Outcome.next (s.event fun t => if t.movingDue then _ else t) = _
  rw [State.event_powered hp, if_pos (by simp [State.movingDue, hm])]

/-- With no opening waiting, or none to make, the motion alone changes. -/
theorem State.stopMoving_creeping
    (h : (∀ told, s.mon.pendantWant ≠ .untilStill told) ∨ s.ctl.mode = .sleep ∨ s.lines.pair = .notAsking) :
    s.stopMoving = s.creeping := by
  have hno : ¬(s.creeping.awake = true ∧ s.creeping.lines.pair.asks = true) ∨ ∀ told, s.mon.pendantWant ≠ .untilStill told := by
    rcases h with h | h | h
    · exact .inr h
    · exact .inl (by simp [State.awake, State.creeping, h])
    · exact .inl (by simp [State.creeping, h, PairState.asks])
  unfold State.stopMoving
  dsimp only
  split
  · rename_i told hw
    rcases hno with hno | hno
    · exact if_neg hno
    · exact absurd hw (hno told)
  · rfl

/-- An opening that waited for the end of the moving timer is tried (R141). -/
theorem State.stopMoving_opens {told : Bool} (hw : s.mon.pendantWant = .untilStill told) (hm : s.ctl.mode ≠ .sleep)
    (hp : s.lines.pair ≠ .notAsking) : s.stopMoving = (s.creeping.want .none).pendantOpen told := by
  have hask : s.creeping.awake = true ∧ s.creeping.lines.pair.asks = true :=
    ⟨by simp [State.awake, State.creeping, hm], by rw [PairState.asks_iff]; exact hp⟩
  unfold State.stopMoving
  simp only [State.withMon_mon, hw]
  exact if_pos hask

/-- A try of the pendant's that finds no room, to the end of its event (R26). -/
theorem State.turnedAway_of (told : Bool) (hx : x.table = s.table) (hl : told = true → x.link = s.link) (hc : x.chans = s.chans)
    (ht : t = State.conclude s ((if told then x else x.raiseHolds 0 .full).want .untilRoom)) :
    s.pendantTurnedAway t told ∧ t.chans = s.chans := by
  have hend : t = ((if told then x else x.raiseHolds 0 .full).want .untilRoom).refreshWarn := by
    rw [ht]
    refine State.conclude_of_table ?_
    cases told <;> simp [hx]
  rw [hend]
  cases told
  · exact ⟨⟨by simpa using hx, rfl, fun _ => ⟨by simp, rfl, rfl⟩, fun h => nomatch h⟩, by simpa using hc⟩
  · exact ⟨⟨by simpa using hx, rfl, (fun h => nomatch h), fun _ => by simpa using hl rfl⟩, by simpa using hc⟩

theorem exec_movingTimerExpiry_opens (hp : s.powered = true) (hm : s.mon.moving = some 0) {told : Bool}
    (hw : s.mon.pendantWant = .untilStill told) (hz : s.ctl.mode ≠ .sleep) (ha : s.lines.pair ≠ .notAsking) :
    ∃ t, exec .movingTimerExpiry s = .next t ∧ Sequel ((s.creeping.want .none).pendantOpen told) t ∧
      (s.holdsSound → ¬s.noPendant →
        t.table = s.table ∧ t.link = s.link ∧ t.chans = s.chans ∧ t.mon.pendantWant = .none) ∧
      (s.noPendant → 12 ≤ nonMonitorCount s.table.records → s.pendantTurnedAway t told ∧ t.chans = s.chans) ∧
      (s.noPendant → nonMonitorCount s.table.records < 12 → s.holdsSound →
        t.pendantOpened s (s.table.records.filter fun r => r.state != .releasing)) := by
  set x := s.creeping.want .none with hx
  have hfree : x.pendantFree = s.pendantFree := rfl
  have hopen : x.pendantFree = true → x.pendantOpen told = x.pendantTry told := by
    intro h
    unfold State.pendantOpen
    rw [if_pos h, if_neg]
    simp [hx, State.creeping, State.want]
  refine ⟨State.conclude s (x.pendantOpen told), ?_, sequel_conclude _ _, fun hs hno => ?_, fun hno hn => ?_, fun hno hn hs => ?_⟩
  · rw [exec_movingTimerExpiry hp hm, State.stopMoving_opens hw hz ha]
  · have he : x.pendantOpen told = x.want .none := by
      unfold State.pendantOpen
      rw [hfree, State.pendantFree_not hs hno, if_neg (by simp)]
    rw [he, State.conclude_of_table (s := s) (t := x.want .none) rfl]
    exact ⟨rfl, rfl, rfl, rfl⟩
  · have he : x.pendantOpen told = (if told then x else x.raiseHolds 0 .full).want .untilRoom := by
      rw [hopen (State.pendantFree_of hno), State.pendantTry, if_neg]
      exact Nat.not_lt.2 hn
    exact State.turnedAway_of (s := s) (x := x) told rfl (fun _ => rfl) rfl (by rw [he])
  · have he : x.pendantOpen told = (x.openRecord pendantRecord).want .none := by
      rw [hopen (State.pendantFree_of hno), State.pendantTry, if_pos]
      exact hn
    rw [he]
    exact State.pendantOpened_of (s := s) (x := x) hs.1 (State.openRecord_idle (s := x) hs.2 pendantRecord) (sequel_conclude s _)
      (State.conclude_wants s (by simp [State.want])) id (List.Sublist.refl _)

theorem State.want_aside (s : State) (w : PendantWant) :
    ({ (s.want w).mon.aside with pendantWant := .none } : Monitor.Aside) = { s.mon.aside with pendantWant := .none } := rfl

/-- A try of the pendant's leaves the rest of the monitor's aside (R26). -/
theorem State.pendantOpen_aside (s : State) (told : Bool) :
    ({ (s.pendantOpen told).mon.aside with pendantWant := .none } : Monitor.Aside) =
      { s.mon.aside with pendantWant := .none } := by
  unfold State.pendantOpen State.pendantTry
  split
  · split
    · rfl
    · split
      · rw [State.want_aside, State.openRecord_aside]
      · cases told <;> rfl
  · rfl

/-- Settles O52: the moving timer by what waited for it, the standstill timer by the mode, and the watch-after timer. -/
theorem motionTimersRunOut : Obligations.MotionTimersRunOut := by
  intro s hp
  refine ⟨fun hm => ?_, fun n hst hn => ?_, fun n hw hn => ?_⟩
  · by_cases hq : (∀ told, s.mon.pendantWant ≠ .untilStill told) ∨ s.ctl.mode = .sleep ∨ s.lines.pair = .notAsking
    · refine ⟨s.creeping.refreshWarn, ?_, rfl, rfl, rfl, ⟨rfl, rfl, rfl, rfl, rfl, rfl⟩, fun _ => ⟨rfl, rfl, rfl, rfl⟩,
        fun told hw hz ha => ?_⟩
      · rw [exec_movingTimerExpiry hp hm, State.stopMoving_creeping hq, State.conclude_of_table (by rfl)]
      · rcases hq with hq | hq | hq
        · exact absurd hw (hq told)
        · exact absurd hq hz
        · exact absurd hq ha
    · simp only [not_or, not_forall, not_not] at hq
      obtain ⟨⟨told, hw⟩, hz, ha⟩ := hq
      obtain ⟨t, hexec, hseq, hopen⟩ := exec_movingTimerExpiry_opens hp hm hw hz ha
      have haside := hseq.aside.trans ((s.creeping.want .none).pendantOpen_aside told)
      refine ⟨t, hexec, congrArg Monitor.Aside.motion haside, congrArg Monitor.Aside.moving haside,
        hseq.ctl.trans (State.pendantOpen_ctl _ _), State.keepsRest_trans ?_ hseq.keepsRest, fun hno => ?_, fun told' hw' _ _ => ?_⟩
      · simp [State.keepsRest, State.creeping]
      · rcases hno with hno | hno | hno
        · exact absurd hw (hno told)
        · exact absurd hno hz
        · exact absurd hno ha
      · rw [hw] at hw'
        obtain rfl := PendantWant.untilStill.inj hw'
        exact hopen
  · set y := s.withMon { s.mon with standstill := .ranOut, motion := .standstill, autopark := .running 0 } with hy
    have hexec : exec .standstillTimerExpiry s = .next (State.conclude s
        (if y.ctl.mode = .safe ∧ y.ctl.failsafeDone = false then y.firstStandstillInSafe else y)) := by
      show Host.Outcome.next (s.event fun t => if t.standstillDue then _ else t) = _
      rw [State.event_powered hp, if_pos (by simp [State.standstillDue, hst, hn])]
      rfl
    by_cases hsafe : s.ctl.mode = .safe ∧ s.ctl.failsafeDone = false
    · rw [if_pos (show y.ctl.mode = .safe ∧ y.ctl.failsafeDone = false from hsafe)] at hexec
      obtain ⟨h1, h2, -, -, -, -, -, -, h9, h10, haside⟩ := State.firstStandstill_leaves (s := s) (y := y) rfl rfl rfl
      refine ⟨_, hexec, congrArg Monitor.Aside.motion haside, congrArg Monitor.Aside.standstill haside,
        congrArg Monitor.Aside.autopark haside, by rw [h2]; rfl, h1, fun hno => ?_, fun _ _ => ⟨by rw [h2], h9, h10⟩⟩
      rcases hno with hno | hno
      · exact absurd hsafe.1 hno
      · rw [hsafe.2] at hno
        cases hno
    · rw [if_neg (show ¬(y.ctl.mode = .safe ∧ y.ctl.failsafeDone = false) from hsafe), State.conclude_of_table (by rfl)] at hexec
      exact ⟨_, hexec, rfl, rfl, rfl, rfl, ⟨rfl, rfl, rfl, rfl, rfl, rfl⟩, fun _ => ⟨rfl, rfl, rfl, rfl⟩,
        fun h1 h2 => absurd ⟨h1, h2⟩ hsafe⟩
  · have hexec : exec .watchAfterExpiry s = .next (s.withMon s.mon.dropReference).refreshWarn := by
      show Host.Outcome.next (s.event fun t => if t.watchDue then _ else t) = _
      rw [State.event_powered hp, if_pos (by simp [State.watchDue, hw, hn]), State.conclude_of_table (by rfl)]
    refine ⟨_, hexec, rfl, rfl, fun c => ?_, rfl, rfl, rfl, rfl, ⟨rfl, rfl, rfl, rfl, rfl, rfl⟩⟩
    simp [State.refreshWarn, Monitor.dropReference, Monitor.zeroCounters]

end Sys2Proof.Machine

/-! # What runs of the Distribution Unit and the gate leave of a channel outside E -/

namespace Sys2Proof.Machine

variable {s t u : State} {c : Chan}

/-- What runs, openings and the gate make of a part: the motion stands and no notice is taken back, a channel comes neither into
E nor out of it, and one outside it stands, without a command where it had none (R61). -/
structure State.runsTo (s t : State) : Prop where
  motion : t.mon.motion = s.mon.motion
  bits : ∀ n, s.link.pending.getLsbD n = true → t.link.pending.getLsbD n = true
  tested : ∀ c, (t.chans.get c).state.tested = (s.chans.get c).state.tested
  stands : ∀ c, (s.chans.get c).state.tested = false → t.chans.get c = s.chans.get c
  outside : ∀ c, (s.chans.get c).state.tested = false → s.dist.cmds.get c = .outside → t.dist.cmds.get c = .outside

theorem State.runsTo_refl : s.runsTo s := ⟨rfl, fun _ h => h, fun _ => rfl, fun _ _ => rfl, fun _ _ h => h⟩

theorem State.runsTo_trans (h : s.runsTo u) (h' : u.runsTo t) : s.runsTo t where
  motion := h'.motion.trans h.motion
  bits n hn := h'.bits n (h.bits n hn)
  tested c := (h'.tested c).trans (h.tested c)
  stands c hc := (h'.stands c ((h.tested c).trans hc)).trans (h.stands c hc)
  outside c hc ho := h'.outside c ((h.tested c).trans hc) (h.outside c hc ho)

/-- A change that leaves the channels and the distribution. -/
theorem State.runsTo_of (hm : t.mon.motion = s.mon.motion)
    (hb : ∀ n, s.link.pending.getLsbD n = true → t.link.pending.getLsbD n = true) (hc : t.chans = s.chans)
    (hd : t.dist = s.dist) : s.runsTo t where
  motion := hm
  bits := hb
  tested c := by rw [hc]
  stands c _ := by rw [hc]
  outside c _ ho := by rw [hd, ho]

theorem State.runsTo_withMon {m : Monitor} (hm : m.motion = s.mon.motion) : s.runsTo (s.withMon m) :=
  State.runsTo_of hm (fun _ h => h) rfl rfl

/-- A channel in no state of E has no command from a run (R61). -/
theorem State.distribution_outside (s : State) (loads : Six Nat) (hc : (s.chans.get c).state.tested = false) :
    (s.distribution loads).cmds.get c = .outside := by
  have he : s.eligible c = false := by
    rw [Bool.eq_false_iff, ne_eq, State.eligible_iff]
    rintro ⟨-, h⟩
    rw [hc] at h
    cases h
  simp [State.distribution, State.commandOf, he]

theorem State.handOver_stands (s : State) (loads : Six Nat) (fresh : Bool) (hc : (s.chans.get c).state.tested = false) :
    (s.handOver (s.distribution loads) fresh).get c = s.chans.get c := by
  have ho := s.distribution_outside loads hc
  simp [State.handOver, ho, Command.outside]

theorem State.motion_of_aside (h : t.mon.aside = s.mon.aside) : t.mon.motion = s.mon.motion :=
  congrArg Monitor.Aside.motion h

theorem State.distributeWith_runsTo (s : State) (loads : Six Nat) (fresh : Bool) :
    s.runsTo (s.distributeWith loads fresh) where
  motion := State.motion_of_aside (by simp)
  bits := State.linksTo_bits (s.distributeWith_linksTo loads fresh)
  tested c := by rw [State.distributeWith_chans, State.handOver_tested]
  stands c hc := by rw [State.distributeWith_chans, State.handOver_stands _ _ _ hc]
  outside c hc _ := by rw [State.distributeWith_dist, State.distribution_outside _ _ hc]

/-- A run leaves a channel in no state of E without a command (R61). -/
theorem State.distributeWith_outside (s : State) (loads : Six Nat) (fresh : Bool)
    (hc : (s.chans.get c).state.tested = false) : (s.distributeWith loads fresh).dist.cmds.get c = .outside := by
  rw [State.distributeWith_dist, State.distribution_outside _ _ hc]

theorem State.reportConfirmed_runsTo (s : State) : s.runsTo s.reportConfirmed :=
  State.runsTo_of (State.motion_of_aside (by simp)) (fun _ h => by simpa using h) (by simp) (by simp)

theorem State.holdSetChange_runsTo (s : State) (parkBefore : Bool) : s.runsTo (s.holdSetChange parkBefore) := by
  have hu : s.runsTo ((s.withForce s.calculate).withTable
      { s.table with applied := s.calculate.fReq, relief := .stopped }) :=
    State.runsTo_of rfl (fun _ h => h) rfl rfl
  rcases s.holdSetChange_cases parkBefore with ⟨he, -⟩ | he
  · rwa [he]
  · rw [he]
    exact State.runsTo_trans hu (State.distributeWith_runsTo _ _ _)

theorem State.retire_runsTo (s : State) (h : Nat) (driveOff : Bool) : s.runsTo (s.retire h driveOff) := by
  have ha : (s.retire h driveOff).mon.aside = s.mon.aside := by simp
  obtain ⟨m, hm⟩ := s.retire_withMon h driveOff
  have hp : s.runsTo (s.parting h) :=
    State.runsTo_of (State.motion_of_aside (by simp)) (fun _ h => h) rfl rfl
  have hc := State.runsTo_trans hp (State.holdSetChange_runsTo (s.parting h) (parkLive s.table.records))
  refine State.runsTo_trans hc ?_
  rw [hm] at ha ⊢
  exact State.runsTo_withMon ((State.motion_of_aside ha).trans hc.motion.symm)

theorem State.openRecord_runsTo (s : State) (make : Nat → Record) : s.runsTo (s.openRecord make) := by
  have ha : (s.openRecord make).mon.aside = s.mon.aside := by simp
  obtain ⟨m, hm⟩ := s.opening_withMon make
  have hp : s.runsTo (s.seating make) :=
    State.runsTo_of (State.motion_of_aside (by simp)) (fun _ h => h) rfl rfl
  have hc := State.runsTo_trans hp (State.holdSetChange_runsTo (s.seating make) (parkLive s.table.records))
  rw [State.openRecord_eq, State.reportConfirmed_aside, hm] at ha
  rw [State.openRecord_eq, hm]
  exact State.runsTo_trans hc (State.runsTo_trans
    (State.runsTo_withMon ((State.motion_of_aside ha).trans hc.motion.symm)) (State.reportConfirmed_runsTo _))

theorem State.runsTo_raiseHolds (h : Nat) (reason : Reason) : s.runsTo (s.raiseHolds h reason) :=
  State.runsTo_of (by simp) (fun n hn => by simp [hn]) (by simp) (by simp)

theorem Sequel.runsTo (h : Sequel s t) : s.runsTo t :=
  h.keep (P := s.runsTo) State.runsTo_refl
    (fun _ _ hu => State.runsTo_trans hu (State.openRecord_runsTo _ _))
    (fun _ _ _ hu => State.runsTo_trans hu (State.runsTo_raiseHolds _ _))
    fun _ _ _ hu => State.runsTo_trans hu (State.runsTo_withMon rfl)

theorem State.gateEvaluate_runsTo (s : State) : s.runsTo s.gateEvaluate := by
  unfold State.gateEvaluate
  split
  · exact State.runsTo_trans (State.retire_runsTo s s.gate.handle true)
      (State.runsTo_trans (State.runsTo_of (t := (s.retire s.gate.handle true).withGate .idle) rfl (fun _ h => h) rfl rfl)
        (State.runsTo_raiseHolds _ _))
  · exact State.runsTo_refl

theorem State.gateDecide_runsTo (s : State) : s.runsTo s.gateDecide := by
  unfold State.gateDecide
  split
  · dsimp only
    split
    · exact State.runsTo_refl
    · have hr : s.runsTo ((s.withGate { s.gate with supplyCause := s.supplyCauseHolds }).raise .supply) :=
        State.runsTo_of rfl (fun n hn => by simp [hn]) rfl rfl
      split
      · exact hr
      · exact State.runsTo_trans hr (State.gateEvaluate_runsTo _)
  · exact State.runsTo_refl

theorem State.applyForce_runsTo (s : State) (a : Nat) : s.runsTo (s.applyForce a) := by
  have hr : s.runsTo (s.withTable { s.table with applied := a }) := State.runsTo_of rfl (fun _ h => h) rfl rfl
  unfold State.applyForce
  dsimp only
  split
  · exact hr
  · exact State.runsTo_trans hr (State.distributeWith_runsTo _ _ _)

theorem State.runAndOffer_runsTo (s : State) : s.runsTo s.runAndOffer := by
  unfold State.runAndOffer State.offer
  dsimp only
  exact State.runsTo_trans (State.runsTo_of (by simp) (fun _ h => by simpa using h) (by simp) (by simp))
    (State.applyForce_runsTo _ _)

/-- The static loads see the profile and whether a channel is LIFTED or ABSENT alone (R79). -/
theorem State.runsTo_staticLoads (h : s.runsTo t) (hp : t.store = s.store) : t.staticLoads = s.staticLoads := by
  unfold State.staticLoads
  congr 1
  funext c
  have hsame : (t.chans.get c).state = .absent ∨ (t.chans.get c).state = .lifted ↔
      (s.chans.get c).state = .absent ∨ (s.chans.get c).state = .lifted := by
    cases hs : (s.chans.get c).state.tested with
    | false => rw [h.stands c hs]
    | true =>
      have ht := (h.tested c).trans hs
      constructor
      · rintro (he | he) <;> simp [he, ChanState.tested] at ht
      · rintro (he | he) <;> simp [he, ChanState.tested] at hs
  simp only [hsame, State.items, hp]

/-! ## The tests on a sample -/

theorem Channel.testPressure_state (ch : Channel) (p k : Nat) : (ch.testPressure p k).state = ch.state := by
  unfold Channel.testPressure
  dsimp only
  repeat' split
  all_goals rfl

theorem State.testPressures_get (s : State) (c : Chan) :
    s.testPressures.chans.get c =
      ((s.meas.psv.get c).value.elim (s.chans.get c) fun p =>
        if (s.chans.get c).pressureTested (s.items c) then (s.chans.get c).testPressure p (s.dist.cmds.get c).pressure
        else s.chans.get c) := by
  unfold State.testPressures
  simp only [State.withChans_chans, Six.get_ofFn]
  cases (s.meas.psv.get c).value <;> rfl

theorem State.testPressures_runsTo (s : State) : s.runsTo s.testPressures where
  motion := by simp
  bits n hn := by simpa using hn
  tested c := by
    rw [State.testPressures_get]
    cases (s.meas.psv.get c).value with
    | none => rfl
    | some p =>
      simp only [Option.elim]
      split
      · rw [Channel.testPressure_state]
      · rfl
  stands c hc := by
    have hn : (s.chans.get c).pressureTested (s.items c) = false := by
      cases hs : (s.chans.get c).state <;> simp_all [ChanState.tested, Channel.pressureTested]
    rw [State.testPressures_get]
    cases (s.meas.psv.get c).value <;> simp [hn]
  outside c _ ho := by simpa using ho

theorem State.supplyOnSample_runsTo (s : State) (lowChanged first : Bool) :
    s.runsTo (s.supplyOnSample lowChanged first) := by
  unfold State.supplyOnSample
  split
  · exact State.distributeWith_runsTo _ _ _
  · split
    · exact State.distributeWith_runsTo _ _ _
    · exact State.runsTo_refl

end Sys2Proof.Machine

/-! # The SENSOR faults of a sample (R94) -/

namespace Sys2Proof.Machine

variable {s t u : State} {c d : Chan} {before : Six Sensor}

/-- The service sensor of a channel in a state of E has turned INVALID against the sensors before the sample (R94). -/
def State.sensorTurned (s : State) (before : Six Sensor) (c : Chan) : Bool :=
  (s.meas.psv.get c).isInvalid && !(before.get c).isInvalid && (s.chans.get c).state.tested

/-- One channel's turn among the SENSOR faults of a sample. -/
def State.sensorStep (before : Six Sensor) (s : State) (c : Chan) : State :=
  if s.sensorTurned before c then s.faultChannel c .sensor else s

theorem State.sensorFaults_eq (s : State) (before : Six Sensor) :
    s.sensorFaults before = allChans.foldl (State.sensorStep before) s := rfl

/-- The part with a channel's record FAULTED and the notice raised, before the run (R95 steps 1 to 3). -/
def State.faulting (s : State) (c : Chan) (cause : FaultCause) : State :=
  (s.withChan c ((s.chans.get c).fault (s.items c) cause)).raise .channel

theorem State.faultChannel_eq (s : State) (c : Chan) (cause : FaultCause) :
    s.faultChannel c cause = (s.faulting c cause).distribute.gateDecide := rfl

theorem State.faulting_runsTo (s : State) (c : Chan) (cause : FaultCause) :
    (s.faulting c cause).runsTo (s.faultChannel c cause) :=
  State.runsTo_trans (State.distributeWith_runsTo _ _ _) (State.gateDecide_runsTo _)

theorem State.faulting_get_other (s : State) (cause : FaultCause) (h : d ≠ c) :
    (s.faulting c cause).chans.get d = s.chans.get d := by
  simp [State.faulting, Six.get_put_other, h]

theorem State.faulting_get_same (s : State) (c : Chan) (cause : FaultCause) :
    (s.faulting c cause).chans.get c = (s.chans.get c).fault (s.items c) cause := by
  simp [State.faulting, Six.get_put_same]

/-- A channel's fault leaves another in E, or outside it as it was. -/
theorem State.sensorStep_tested (s : State) (before : Six Sensor) (h : d ≠ c) :
    ((s.sensorStep before c).chans.get d).state.tested = (s.chans.get d).state.tested := by
  unfold State.sensorStep
  split
  · rw [(State.faulting_runsTo s c .sensor).tested, State.faulting_get_other _ _ h]
  · rfl

/-- The channel is FAULTED for its sensor, its outputs as the fail-safe action sets them, without a command, and told
(R94 to R96). -/
structure State.sensorOut (s : State) (c : Chan) : Prop where
  state : (s.chans.get c).state = .faulted
  cause : (s.chans.get c).cause = some .sensor
  confirmed : (s.chans.get c).confirmed = false
  released : (s.items c).failSafe ≠ 2 → (s.chans.get c).latch = false ∧ (s.chans.get c).dutyBuffer = 0
  frozen : (s.items c).failSafe = 2 → (s.chans.get c).dutyBuffer = (s.chans.get c).dutyInForce
  outside : s.dist.cmds.get c = .outside
  told : s.link.pending.getLsbD 3 = true

theorem ChanState.faulted_untested {x : ChanState} (h : x = .faulted) : x.tested = false := by rw [h]; rfl

/-- What leaves a channel outside E leaves it faulted for its sensor. -/
theorem State.sensorOut_of (h : s.sensorOut c) (hi : t.store = s.store) (hc : t.chans.get c = s.chans.get c)
    (ho : t.dist.cmds.get c = .outside) (hb : t.link.pending.getLsbD 3 = true) : t.sensorOut c where
  state := hc ▸ h.state
  cause := hc ▸ h.cause
  confirmed := hc ▸ h.confirmed
  released := by
    have hr := h.released
    rw [hc]
    simpa [State.items, hi] using hr
  frozen := by
    have hf := h.frozen
    rw [hc]
    simpa [State.items, hi] using hf
  outside := ho
  told := hb

theorem State.sensorOut_runsTo (h : s.sensorOut c) (hr : s.runsTo t) (hi : t.store = s.store) : t.sensorOut c :=
  State.sensorOut_of h hi (hr.stands c (ChanState.faulted_untested h.state))
    (hr.outside c (ChanState.faulted_untested h.state) h.outside) (hr.bits 3 h.told)

/-- A channel that faults for its sensor (R94 to R96). -/
theorem State.faultChannel_sensorOut (s : State) (c : Chan) : (s.faultChannel c .sensor).sensorOut c := by
  have hu : ((s.faulting c .sensor).chans.get c).state.tested = false := by rw [State.faulting_get_same]; rfl
  have hr := State.distributeWith_runsTo (s.faulting c .sensor) (s.faulting c .sensor).meas.loads false
  have hget : (s.faulting c .sensor).distribute.chans.get c = (s.chans.get c).fault (s.items c) .sensor :=
    (hr.stands c hu).trans (State.faulting_get_same _ _ _)
  have hitems : (s.faulting c .sensor).distribute.items c = s.items c := by simp [State.items, State.faulting]
  have hrun : (s.faulting c .sensor).distribute.sensorOut c :=
    { state := by rw [hget]; rfl
      cause := by rw [hget]; rfl
      confirmed := by rw [hget]; rfl
      released := fun h => by
        rw [hitems] at h
        have hl : (s.items c).holdsLast = false := beq_eq_false_iff_ne.2 h
        simp [hget, Channel.fault, hl]
      frozen := fun h => by
        rw [hitems] at h
        simp [hget, Channel.fault, h, ChannelItems.holdsLast]
      outside := State.distributeWith_outside _ _ _ hu
      told := hr.bits 3 (by simp [State.faulting, Source.bit]) }
  exact State.sensorOut_runsTo hrun (State.gateDecide_runsTo _) (by simp [State.faulting])

theorem State.sensorTurned_tested (h : s.sensorTurned before c = true) : (s.chans.get c).state.tested = true := by
  simp only [State.sensorTurned, Bool.and_eq_true] at h
  exact h.2

@[simp] theorem State.sensorStep_store (s : State) (c : Chan) : (s.sensorStep before c).store = s.store := by
  unfold State.sensorStep; split <;> simp

@[simp] theorem State.sensorStep_meas (s : State) (c : Chan) : (s.sensorStep before c).meas = s.meas := by
  unfold State.sensorStep; split <;> simp

/-- A channel that has faulted for its sensor stays so through another's fault. -/
theorem State.sensorStep_sensorOut (h : s.sensorOut c) (d : Chan) : (s.sensorStep before d).sensorOut c := by
  by_cases hcd : c = d
  · subst hcd
    have hn : s.sensorTurned before c = false := by
      rw [Bool.eq_false_iff]
      exact fun ht => absurd (State.sensorTurned_tested ht) (by rw [ChanState.faulted_untested h.state]; simp)
    simpa [State.sensorStep, hn] using h
  · unfold State.sensorStep
    split
    · have hf : (s.faulting d .sensor).sensorOut c :=
        State.sensorOut_of h rfl (State.faulting_get_other _ _ hcd) h.outside (by simp [State.faulting, h.told])
      exact State.sensorOut_runsTo hf (State.faulting_runsTo _ _ _) (by simp [State.faulting])
    · exact h

theorem foldl_sensorStep_sensorOut (h : s.sensorOut c) (cs : List Chan) :
    (cs.foldl (State.sensorStep before) s).sensorOut c := by
  induction cs generalizing s with
  | nil => exact h
  | cons d ds ih => exact ih (State.sensorStep_sensorOut h d)

/-- Each channel whose sensor has turned faults at its turn (R94). -/
theorem foldl_sensorStep_turned (h : s.sensorTurned before c = true) {cs : List Chan} (hc : c ∈ cs) :
    (cs.foldl (State.sensorStep before) s).sensorOut c := by
  induction cs generalizing s with
  | nil => cases hc
  | cons d ds ih =>
    by_cases hcd : c = d
    · subst hcd
      refine foldl_sensorStep_sensorOut ?_ ds
      rw [State.sensorStep, if_pos h]
      exact State.faultChannel_sensorOut s c
    · have hstep : (s.sensorStep before d).sensorTurned before c = true := by
        simpa [State.sensorTurned, State.sensorStep_tested s before hcd] using h
      exact ih hstep ((List.mem_cons.1 hc).resolve_left hcd)

theorem State.sensorFaults_turned (h : s.sensorTurned before c = true) : (s.sensorFaults before).sensorOut c :=
  foldl_sensorStep_turned h (mem_allChans c)

/-- Where no sensor has turned, no channel faults. -/
theorem State.sensorFaults_none (h : ∀ c, s.sensorTurned before c = false) : s.sensorFaults before = s := by
  rw [State.sensorFaults_eq]
  induction allChans with
  | nil => rfl
  | cons d ds ih => rw [List.foldl_cons, State.sensorStep, if_neg (by simp [h d]), ih]

/-- The motion and the notices through the SENSOR faults. -/
theorem State.sensorStep_keeps (s : State) (c : Chan) :
    (s.sensorStep before c).mon.motion = s.mon.motion ∧
      ∀ n, s.link.pending.getLsbD n = true → (s.sensorStep before c).link.pending.getLsbD n = true := by
  unfold State.sensorStep
  split
  · have hr := State.faulting_runsTo s c .sensor
    exact ⟨hr.motion, fun n hn => hr.bits n (by simp [State.faulting, hn])⟩
  · exact ⟨rfl, fun _ h => h⟩

theorem State.sensorFaults_keeps (s : State) (before : Six Sensor) :
    (s.sensorFaults before).mon.motion = s.mon.motion ∧
      ∀ n, s.link.pending.getLsbD n = true → (s.sensorFaults before).link.pending.getLsbD n = true := by
  rw [State.sensorFaults_eq]
  induction allChans generalizing s with
  | nil => exact ⟨rfl, fun _ h => h⟩
  | cons d ds ih =>
    obtain ⟨hm, hb⟩ := s.sensorStep_keeps (before := before) d
    obtain ⟨hm', hb'⟩ := ih (s.sensorStep before d)
    exact ⟨hm'.trans hm, fun n hn => hb' n (hb n hn)⟩

/-! ## With the gate idle -/

/-- A run or a report under an idle gate: the table is heard, and nothing else of it, of the forces or of the gate moves. -/
def State.hears (s t : State) : Prop :=
  (∃ b, t.table = { s.table with records := heardRecords b s.table.records }) ∧ t.gate = s.gate ∧ t.force = s.force

theorem State.hears_refl : s.hears s := ⟨⟨false, by simp⟩, rfl, rfl⟩

theorem State.hears_trans (h : s.hears u) (h' : u.hears t) : s.hears t := by
  obtain ⟨⟨b, hb⟩, hg, hf⟩ := h
  obtain ⟨⟨b', hb'⟩, hg', hf'⟩ := h'
  refine ⟨⟨b' || b, ?_⟩, hg'.trans hg, hf'.trans hf⟩
  rw [hb', hb]
  simp [heardRecords_heard]

theorem State.hears_distributeWith (s : State) (loads : Six Nat) (fresh : Bool) : s.hears (s.distributeWith loads fresh) :=
  ⟨⟨_, s.distributeWith_table loads fresh⟩, by simp, by simp⟩

theorem State.hears_reportConfirmed (s : State) : s.hears s.reportConfirmed :=
  ⟨⟨_, s.reportConfirmed_table⟩, by simp, by simp⟩

theorem State.hears_armed (h : s.hears t) (hg : s.gate.armed = false) : t.gate.armed = false := by
  obtain ⟨-, he, -⟩ := h
  rwa [he]

theorem State.gateDecide_idle (h : s.gate.armed = false) : s.gateDecide = s := by simp [State.gateDecide, h]

/-- The distribution in force is the one a run over the loads in force would find. -/
def State.settled (s : State) : Prop := s.dist = s.distribution s.meas.loads

theorem State.distribute_settled (s : State) : s.distribute.settled := by
  unfold State.settled
  rw [State.distribute_meas]
  exact State.distributeWith_settled s s.meas.loads false

theorem State.faultChannel_idle (hg : s.gate.armed = false) (cause : FaultCause) :
    s.faultChannel c cause = (s.faulting c cause).distribute := by
  rw [State.faultChannel_eq, State.gateDecide_idle (by simpa [State.faulting] using hg)]

theorem State.sensorStep_hears (hg : s.gate.armed = false) (c : Chan) : s.hears (s.sensorStep before c) := by
  unfold State.sensorStep
  split
  · have hf : s.hears (s.faulting c .sensor) :=
      ⟨⟨false, by simp [State.faulting]⟩, by simp [State.faulting], by simp [State.faulting]⟩
    rw [State.faultChannel_idle hg]
    exact State.hears_trans hf (State.hears_distributeWith _ _ _)
  · exact State.hears_refl

theorem State.sensorFaults_hears (hg : s.gate.armed = false) : s.hears (s.sensorFaults before) := by
  rw [State.sensorFaults_eq]
  induction allChans generalizing s with
  | nil => exact State.hears_refl
  | cons d ds ih =>
    have h := State.sensorStep_hears (before := before) hg d
    exact State.hears_trans h (ih (State.hears_armed h hg))

theorem State.sensorStep_settled (hg : s.gate.armed = false) (h : s.settled ∨ s.sensorTurned before c = true) :
    (s.sensorStep before c).settled := by
  unfold State.sensorStep
  split
  · rw [State.faultChannel_idle hg]
    exact State.distribute_settled _
  · rename_i hn
    exact h.resolve_right hn

theorem foldl_sensorStep_settled (hg : s.gate.armed = false) {cs : List Chan}
    (h : s.settled ∨ ∃ c ∈ cs, s.sensorTurned before c = true) : (cs.foldl (State.sensorStep before) s).settled := by
  induction cs generalizing s with
  | nil => simpa using h
  | cons d ds ih =>
    refine ih (State.hears_armed (State.sensorStep_hears hg d) hg) ?_
    by_cases hd : s.sensorTurned before d = true
    · exact .inl (State.sensorStep_settled hg (.inr hd))
    · rcases h with h | ⟨c, hc, ht⟩
      · exact .inl (State.sensorStep_settled hg (.inl h))
      · rcases List.mem_cons.1 hc with rfl | hc
        · exact absurd ht hd
        · refine .inr ⟨c, hc, ?_⟩
          rwa [State.sensorStep, if_neg hd]

/-- Each SENSOR fault runs the Distribution Unit, which a settled one keeps (R62, R95). -/
theorem State.sensorFaults_settled (hg : s.gate.armed = false) (h : s.settled ∨ ∃ c, s.sensorTurned before c = true) :
    (s.sensorFaults before).settled :=
  foldl_sensorStep_settled hg (h.imp_right fun ⟨c, hc⟩ => ⟨c, mem_allChans c, hc⟩)

/-- What a run reads, it reads after the tests and the report too. -/
theorem State.settled_of (h : s.settled) (hr : s.runsTo t) (hp : t.store = s.store) (hm : t.meas = s.meas)
    (hd : t.dist = s.dist) (ht : s.hears t) : t.settled := by
  obtain ⟨⟨b, hb⟩, -⟩ := ht
  unfold State.settled
  rw [hd, hm, h]
  exact State.distribution_congr hp.symm hm.symm (by rw [hb]) (by rw [hb]; simp)
    (fun c => State.eligible_congr hp.symm (hr.tested c).symm) _

end Sys2Proof.Machine

/-! # What a sample measures -/

namespace Sys2Proof.Machine

variable {s t : State} {c : Chan}

/-! ## One reading -/

theorem pressureInRange_iff {reading : Int} : pressureInRange reading = true ↔ -20 ≤ reading ∧ reading ≤ 1200 := by
  simp [pressureInRange]

/-- A reading makes of a sensor what R33 says. -/
theorem Sensor.take_reads (old : Sensor) (reading : Int) : sensorReads old reading (old.take reading) := by
  refine ⟨fun hout => ?_, fun hlo hhi => ⟨fun n hold hn => ?_, fun hold => ?_⟩⟩
  · have hr : ¬pressureInRange reading = true := by rw [pressureInRange_iff]; omega
    simp [Sensor.take, hr]
  · subst hold
    simp only [Sensor.take, pressureInRange_iff.2 ⟨hlo, hhi⟩, if_true]
    rw [if_pos (by omega)]
  · simp only [Sensor.take, pressureInRange_iff.2 ⟨hlo, hhi⟩, if_true]
    cases old with
    | invalid n =>
      have hn := hold n rfl
      simp only
      rw [if_neg (by omega)]
    | valid p => rfl
    | unread => rfl

theorem Sensor.not_isInvalid_iff {x : Sensor} : x.isInvalid = false ↔ ∀ n, x ≠ .invalid n := by
  cases x <;> simp [Sensor.isInvalid]

theorem Sensor.value_some {x : Sensor} {p : Nat} : x.value = some p ↔ x = .valid p := by
  cases x <;> simp [Sensor.value]

theorem Sensor.value_none {x : Sensor} : x.value = none ↔ ∀ p, x ≠ .valid p := by
  cases x <;> simp [Sensor.value]

theorem Sensor.turnsInvalid_of {x : Sensor} {reading : Int} (h : x.isInvalid = false)
    (ht : (x.take reading).isInvalid = true) : x.turnsInvalid reading = true := by
  simp [Sensor.turnsInvalid, h, ht]

@[simp] theorem Supply.derive_sensor (x : Sensor) (minSupply : Nat) : (Supply.derive x minSupply).sensor = x := by
  cases x <;> rfl

/-- The figures of a circuit from its reservoir sensor (R41). -/
theorem Supply.derive_reads (x : Sensor) (minSupply : Nat) : supplyReads minSupply (Supply.derive x minSupply) := by
  refine ⟨fun p hp => ?_, fun hn => ?_⟩
  · rw [Supply.derive_sensor] at hp
    subst hp
    simp [Supply.derive]
  · cases x with
    | valid p => exact absurd (Supply.derive_sensor _ _) (hn p)
    | invalid n => exact ⟨rfl, rfl⟩
    | unread => exact ⟨rfl, rfl⟩

/-! ## The Measurement Unit's own state -/

theorem Measure.takeGrade_readings (m : Measure) (x : Int) :
    (m.takeGrade x).psv = m.psv ∧ (m.takeGrade x).psu = m.psu ∧ (m.takeGrade x).supplyA = m.supplyA ∧
      (m.takeGrade x).supplyB = m.supplyB ∧ (m.takeGrade x).inputs = m.inputs := by
  unfold Measure.takeGrade
  dsimp only
  repeat' split
  all_goals exact ⟨rfl, rfl, rfl, rfl, rfl⟩

theorem State.taken_readings (s : State) (r : SampleSet) :
    (s.taken r).psv = takeSensors s.meas.psv r.psv ∧ (s.taken r).psu = takeSensors s.meas.psu r.psu ∧
      (s.taken r).supplyA = Supply.derive (s.meas.supplyA.sensor.take r.pra) s.vehicle.minSupply.toNat ∧
      (s.taken r).supplyB = Supply.derive (s.meas.supplyB.sensor.take r.prb) s.vehicle.minSupply.toNat ∧
      (s.taken r).inputs = s.meas.inputs := by
  unfold State.taken
  dsimp only
  split
  · exact Measure.takeGrade_readings _ _
  · exact ⟨rfl, rfl, rfl, rfl, rfl⟩

theorem State.measured_meas (s : State) (r : SampleSet) :
    (s.measured r).meas =
      { (s.withMeas (s.taken r)).deriveWeight.meas with awaitsFirstSample := false, sampleTimer := .start } := by
  obtain ⟨b, c, h⟩ := s.measure_eq r
  simp only [State.measured, h, State.withMeas_meas, State.raiseIf_meas]

@[simp] theorem State.measured_inputs (s : State) (r : SampleSet) : (s.measured r).meas.inputs = s.meas.inputs := by
  obtain ⟨-, -, -, -, h⟩ := s.taken_readings r
  rw [State.measured_meas]
  exact h

@[simp] theorem State.measured_sampleTimer (s : State) (r : SampleSet) :
    (s.measured r).meas.sampleTimer = .running 0 := by
  rw [State.measured_meas]
  rfl

@[simp] theorem State.measured_psv (s : State) (r : SampleSet) (c : Chan) :
    (s.measured r).meas.psv.get c = (s.meas.psv.get c).take (r.psv.get c) := by
  obtain ⟨h, -⟩ := s.taken_readings r
  rw [State.measured_meas]
  show (s.taken r).psv.get c = _
  rw [h, takeSensors, Six.get_ofFn]

@[simp] theorem State.measured_psu (s : State) (r : SampleSet) (c : Chan) :
    (s.measured r).meas.psu.get c = (s.meas.psu.get c).take (r.psu.get c) := by
  obtain ⟨-, h, -⟩ := s.taken_readings r
  rw [State.measured_meas]
  show (s.taken r).psu.get c = _
  rw [h, takeSensors, Six.get_ofFn]

@[simp] theorem State.measured_supplyA (s : State) (r : SampleSet) :
    (s.measured r).meas.supplyA = Supply.derive (s.meas.supplyA.sensor.take r.pra) s.vehicle.minSupply.toNat := by
  obtain ⟨-, -, h, -⟩ := s.taken_readings r
  rw [State.measured_meas]
  exact h

@[simp] theorem State.measured_supplyB (s : State) (r : SampleSet) :
    (s.measured r).meas.supplyB = Supply.derive (s.meas.supplyB.sensor.take r.prb) s.vehicle.minSupply.toNat := by
  obtain ⟨-, -, -, h, -⟩ := s.taken_readings r
  rw [State.measured_meas]
  exact h

/-- The load of a channel by what its suspension sensor shows (R39). -/
theorem State.loadOf_leaves (s : State) (c : Chan) :
    ((s.chans.get c).state = .absent ∨ (s.chans.get c).state = .lifted → s.loadOf c = 0) ∧
      ((s.chans.get c).state ≠ .absent → (s.chans.get c).state ≠ .lifted →
        (∀ p, s.meas.psu.get c = .valid p → s.loadOf c = (s.items c).loadAt p) ∧
          ((∀ p, s.meas.psu.get c ≠ .valid p) → s.loadOf c = (s.items c).staticLoad.toNat)) := by
  refine ⟨fun h => if_pos h, fun ha hl => ?_⟩
  have hn : ¬((s.chans.get c).state = .absent ∨ (s.chans.get c).state = .lifted) := not_or.2 ⟨ha, hl⟩
  refine ⟨fun p hp => ?_, fun hp => ?_⟩
  · simp [State.loadOf, hn, hp]
  · unfold State.loadOf
    rw [if_neg hn]
    cases hs : s.meas.psu.get c with
    | valid p => exact absurd hs (hp p)
    | invalid n => rfl
    | unread => rfl

/-- The weight is the sum of the fitted channels' loads, or the gross weight (R40). -/
theorem State.weightOf_leaves (s : State) (loads : Six Nat) :
    ((∀ c, (s.items c).isFitted = true → ∃ p, s.meas.psu.get c = .valid p) →
        s.weightOf loads = min ((allChans.filter fun c => (s.items c).isFitted).map loads.get).sum 65000) ∧
      ((∃ c, (s.items c).isFitted = true ∧ ∀ p, s.meas.psu.get c ≠ .valid p) →
        s.weightOf loads = s.vehicle.grossWeight.toNat) := by
  unfold State.weightOf
  dsimp only
  refine ⟨fun hall => if_pos ?_, fun ⟨c, hf, hc⟩ => if_neg ?_⟩
  · rw [List.all_eq_true]
    intro c hc
    obtain ⟨p, hp⟩ := hall c (List.mem_filter.1 hc).2
    simp [hp, Sensor.value]
  · rw [List.all_eq_true]
    intro h
    have hs := h c (List.mem_filter.2 ⟨mem_allChans c, hf⟩)
    rw [Sensor.value_none.2 hc] at hs
    cases hs

theorem State.measured_load (s : State) (r : SampleSet) (c : Chan) :
    (s.measured r).meas.loads.get c = (s.measured r).loadOf c := by
  have hchans : (s.measured r).chans = s.chans := by simp [State.measured]
  have hstore : (s.measured r).store = s.store := by simp [State.measured]
  have hload : (s.measured r).loadOf c = (s.withMeas (s.taken r)).loadOf c := by
    simp only [State.loadOf, hchans, State.measured_meas, State.items, hstore]
    rfl
  rw [hload, State.measured_meas]
  exact Six.get_ofFn _ _

theorem State.measured_weight (s : State) (r : SampleSet) :
    (s.measured r).meas.weight = (s.measured r).weightOf (s.measured r).meas.loads := by
  have hstore : (s.measured r).store = s.store := by simp [State.measured]
  simp only [State.weightOf, State.measured_meas, State.items, State.vehicle, hstore]
  rfl

/-! ## The notices of a sample -/

theorem State.raiseIf_bits (s : State) (b : Bool) (src : Source) (n : Nat) (h : s.link.pending.getLsbD n = true) :
    (s.raiseIf b src).link.pending.getLsbD n = true := by
  unfold State.raiseIf
  split
  · simp [h]
  · exact h

/-- A sample's notices beside those that were pending (R33, R37, R41). -/
theorem State.measured_notices (s : State) (r : SampleSet) :
    (∀ n, s.link.pending.getLsbD n = true → (s.measured r).link.pending.getLsbD n = true) ∧
      (s.meas.sensorLost r = true → (s.measured r).link.pending.getLsbD 5 = true) ∧
      (supplyNotice s.meas.supplyA (s.measured r).meas.supplyA = true ∨
          supplyNotice s.meas.supplyB (s.measured r).meas.supplyB = true →
        (s.measured r).link.pending.getLsbD 4 = true) := by
  rw [State.measured_supplyA, State.measured_supplyB]
  unfold State.measured State.measure
  dsimp only
  rw [State.withMeas_link]
  refine ⟨fun n hn => State.raiseIf_bits _ _ _ _ (State.raiseIf_bits _ _ _ _ (by simpa using hn)), fun h => ?_, fun h => ?_⟩
  · exact State.raiseIf_bits _ _ _ _ (by simp [State.raiseIf, h, Source.bit])
  · have hb : (supplyNotice s.meas.supplyA (Supply.derive (s.meas.supplyA.sensor.take r.pra) s.vehicle.minSupply.toNat) ||
        supplyNotice s.meas.supplyB (Supply.derive (s.meas.supplyB.sensor.take r.prb) s.vehicle.minSupply.toNat)) = true := by
      simpa using h
    rw [hb]
    simp [State.raiseIf, Source.bit]

/-- A sensor that turns INVALID is lost at the sample (R33). -/
theorem Measure.sensorLost_of (m : Measure) (r : SampleSet)
    (h : (∃ c, (m.psv.get c).turnsInvalid (r.psv.get c) = true ∨ (m.psu.get c).turnsInvalid (r.psu.get c) = true) ∨
      m.supplyA.sensor.turnsInvalid r.pra = true ∨ m.supplyB.sensor.turnsInvalid r.prb = true) :
    m.sensorLost r = true := by
  rcases h with ⟨c, hc⟩ | h | h
  · have hany : (allChans.any fun c =>
        (m.psv.get c).turnsInvalid (r.psv.get c) || (m.psu.get c).turnsInvalid (r.psu.get c)) = true :=
      List.any_eq_true.2 ⟨c, mem_allChans c, by simpa using hc⟩
    simp [Measure.sensorLost, hany]
  · simp [Measure.sensorLost, h]
  · simp [Measure.sensorLost, h]

/-! ## The tests of a sample at a channel -/

theorem inBand_iff {state : ChanState} {p k : Nat} : inBand state p k = true ↔ withinBand state k p := by
  unfold inBand withinBand
  by_cases h : state = .service <;> simp [h]

theorem Channel.pressureTested_iff {ch : Channel} {v : ChannelItems} :
    ch.pressureTested v = true ↔ ch.judgedByPressure v := by
  unfold Channel.pressureTested Channel.judgedByPressure ChannelItems.holdsLast
  by_cases hf : ch.override = .failsafe <;> by_cases h2 : v.failSafe = 2 <;> simp [hf, h2]

/-- A VALID service pressure at a channel (R89, R91). -/
theorem Channel.pressed_leaves (ch : Channel) (v : ChannelItems) (k p : Nat) :
    (if ch.pressureTested v then ch.testPressure p k else ch).pressedTo ch v k p := by
  by_cases ht : ch.pressureTested v = true
  · rw [if_pos ht]
    refine ⟨fun hn => absurd (Channel.pressureTested_iff.1 ht) hn, fun _ hc => ⟨fun hin hd => ?_, fun hn => ?_⟩,
      fun _ hc => ⟨fun hin => ?_, fun hout => ?_⟩⟩
    · simp [Channel.testPressure, hc, inBand_iff.2 hin, hd]
    · have hb : (inBand ch.state p k && ch.dutyInForce == ch.dutyBuffer) = false := by
        rw [Bool.eq_false_iff]
        intro h
        obtain ⟨h1, h2⟩ := Bool.and_eq_true_iff.1 h
        exact hn ⟨inBand_iff.1 h1, by simpa using h2⟩
      simp [Channel.testPressure, hc, hb]
    · simp [Channel.testPressure, hc, inBand_iff.2 hin]
    · have hb : inBand ch.state p k = false := by
        rw [Bool.eq_false_iff]
        exact fun h => hout (inBand_iff.1 h)
      simp [Channel.testPressure, hc, hb, Timer.start]
  · rw [if_neg ht]
    have hn : ¬ch.judgedByPressure v := fun h => ht (Channel.pressureTested_iff.2 h)
    exact ⟨fun _ => rfl, fun h => absurd h hn, fun h => absurd h hn⟩

end Sys2Proof.Machine

/-! # A sample, to the end of its event (O36) -/

namespace Sys2Proof.Machine

variable {s t : State} {r : SampleSet} {c : Chan}

/-! ## In every state of the gate -/

theorem State.offered_runsTo (s : State) (r : SampleSet) : (s.measured r).runsTo (s.offered r) := by
  unfold State.offered
  split
  · exact State.runAndOffer_runsTo _
  · exact State.runsTo_refl

@[simp] theorem State.offered_meas (s : State) (r : SampleSet) : (s.offered r).meas = (s.measured r).meas := by
  unfold State.offered
  split <;> simp

@[simp] theorem State.offered_store (s : State) (r : SampleSet) : (s.offered r).store = s.store := by
  unfold State.offered
  split <;> simp [State.measured]

@[simp] theorem State.offered_gate (s : State) (r : SampleSet) : (s.offered r).gate = s.gate := by
  unfold State.offered
  split <;> simp [State.measured]

@[simp] theorem State.measured_chans (s : State) (r : SampleSet) : (s.measured r).chans = s.chans := by
  simp [State.measured]

@[simp] theorem State.measured_dist (s : State) (r : SampleSet) : (s.measured r).dist = s.dist := by
  simp [State.measured]

@[simp] theorem State.measured_table (s : State) (r : SampleSet) : (s.measured r).table = s.table := by
  simp [State.measured]

@[simp] theorem State.sample_meas (s : State) (r : SampleSet) : (s.sample r).meas = (s.measured r).meas := by
  rw [State.sample_eq]
  simp

/-- The part once the SENSOR faults of a sample are made. -/
def State.sampleFaulted (s : State) (r : SampleSet) : State := (s.offered r).sensorFaults s.meas.psv

theorem State.sample_runsTo (s : State) (r : SampleSet) : (s.sampleFaulted r).runsTo (s.sample r) := by
  rw [State.sample_eq]
  refine State.runsTo_trans ?_ (State.runsTo_trans (State.supplyOnSample_runsTo _ _ _)
    (State.runsTo_trans (State.gateDecide_runsTo _) (State.gateEvaluate_runsTo _)))
  exact State.runsTo_trans (State.testPressures_runsTo _) (State.reportConfirmed_runsTo _)

/-- A channel's sensor turns at the sample where the channel loses it (R94). -/
theorem State.offered_turned (ht : t.meas = (s.measured r).meas) :
    (s.offered r).sensorTurned s.meas.psv c = true ↔ s.losesSensor t c := by
  have htested : ((s.offered r).chans.get c).state.tested = (s.chans.get c).state.tested := by
    rw [(s.offered_runsTo r).tested, State.measured_chans]
  simp only [State.sensorTurned, State.losesSensor, htested, State.offered_meas, ← ht, Bool.and_eq_true,
    Bool.not_eq_true', Sensor.isInvalid_iff, Sensor.not_isInvalid_iff]
  tauto

/-- What a sample leaves in every state of the gate. -/
theorem State.sample_leaves (ht : t = State.conclude s (s.sample r)) :
    t.meas = (s.measured r).meas ∧
      (∀ n, (s.measured r).link.pending.getLsbD n = true → t.link.pending.getLsbD n = true) ∧
      (∀ c, s.losesSensor t c → t.sensorOut c) ∧ t.mon.motion = s.mon.motion ∧ t.ctl = s.ctl ∧ s.keepsRest t := by
  have hq : Sequel (s.sample r) t := ht ▸ sequel_conclude s (s.sample r)
  have hmeas : t.meas = (s.measured r).meas := by rw [hq.meas, State.sample_meas]
  have hrun : (s.sampleFaulted r).runsTo t := State.runsTo_trans (s.sample_runsTo r) hq.runsTo
  obtain ⟨hfm, hfb⟩ := (s.offered r).sensorFaults_keeps s.meas.psv
  have hstore : t.store = (s.sampleFaulted r).store := by simp [hq.store, State.sampleFaulted]
  refine ⟨hmeas, fun n hn => hrun.bits n (hfb n ((s.offered_runsTo r).bits n hn)), fun c hc => ?_, ?_, ?_, ?_⟩
  · exact State.sensorOut_runsTo (State.sensorFaults_turned ((State.offered_turned hmeas).2 hc)) hrun hstore
  · calc t.mon.motion = (s.sampleFaulted r).mon.motion := hrun.motion
      _ = (s.offered r).mon.motion := hfm
      _ = (s.measured r).mon.motion := (s.offered_runsTo r).motion
      _ = s.mon.motion := by simp [State.measured]
  · rw [hq.ctl, State.sample_ctl]
  · exact State.keepsRest_trans (u := s.sample r) (by simp [State.keepsRest]) hq.keepsRest

/-! ## With the gate idle -/

/-- The part once its channels have taken a sample. -/
def State.tested (s : State) (r : SampleSet) : State := (s.offered r).channelsOnSample s.meas.psv

/-- Some circuit's supply-low changes at the sample (R41). -/
def State.lowChanges (s : State) (r : SampleSet) : Bool :=
  s.meas.supplyA.low != (s.measure r).meas.supplyA.low || s.meas.supplyB.low != (s.measure r).meas.supplyB.low

theorem State.lowChanges_iff (ht : t.meas = (s.measured r).meas) : s.lowChanges r = true ↔ s.lowDiffers t := by
  simp [State.lowChanges, State.lowDiffers, ht, State.measured]

theorem State.hears_supplyOnSample (s : State) (lowChanged first : Bool) :
    s.hears (s.supplyOnSample lowChanged first) := by
  unfold State.supplyOnSample
  split
  · exact State.hears_distributeWith _ _ _
  · split
    · exact State.hears_distributeWith _ _ _
    · exact State.hears_refl

theorem State.channelsOnSample_eq (s : State) (before : Six Sensor) :
    s.channelsOnSample before = (s.sensorFaults before).testPressures.reportConfirmed := rfl

theorem State.testPressures_hears (s : State) : s.hears s.testPressures.reportConfirmed :=
  State.hears_trans (u := s.testPressures) ⟨⟨false, by simp⟩, by simp, by simp⟩ (State.hears_reportConfirmed _)

theorem State.tested_hears (hg : s.gate.armed = false) : (s.offered r).hears (s.tested r) := by
  rw [State.tested, State.channelsOnSample_eq]
  exact State.hears_trans (State.sensorFaults_hears (by simpa using hg)) (State.testPressures_hears _)

theorem State.offered_records (s : State) (r : SampleSet) :
    ∃ b, (s.offered r).table.records = heardRecords b s.table.records := by
  unfold State.offered
  split
  · obtain ⟨b, hb⟩ := (s.measured r).runAndOffer_table
    exact ⟨b, by rw [hb]; simp⟩
  · exact ⟨false, by simp⟩

/-- With the gate idle a sample is its runs, and WARN after them. -/
theorem State.sample_idle (hg : s.gate.armed = false) :
    State.conclude s (s.sample r) =
        ((s.tested r).supplyOnSample (s.lowChanges r) s.meas.awaitsFirstSample).refreshWarn ∧
      (s.offered r).hears ((s.tested r).supplyOnSample (s.lowChanges r) s.meas.awaitsFirstSample) := by
  set q := (s.tested r).supplyOnSample (s.lowChanges r) s.meas.awaitsFirstSample with hq
  have hears : (s.offered r).hears q :=
    State.hears_trans (State.tested_hears hg) (State.hears_supplyOnSample _ _ _)
  have hgq : q.gate.armed = false := State.hears_armed hears (by simpa using hg)
  have hs : s.sample r = q := by
    rw [State.sample_eq, ← State.lowChanges, ← State.tested, ← hq, State.gateDecide_idle hgq, State.gateEvaluate_idle hgq]
  obtain ⟨⟨b, hb⟩, -⟩ := id hears
  obtain ⟨b', hb'⟩ := s.offered_records r
  exact ⟨by rw [hs, State.conclude_of_heard (b := b || b') (by rw [hb, hb', heardRecords_heard])], hears⟩

/-- The Force Calculator on a sample with the gate idle: it runs at standstill or over holds (R28 to R30, R47). -/
theorem State.sample_forces (hg : s.gate.armed = false) (ht : t = State.conclude s (s.sample r)) :
    holdSet t.table.records = holdSet s.table.records ∧ t.gate = s.gate ∧
      t.table.applied = (s.offered r).table.applied ∧
      (s.mon.motion = .standstill ∨ s.table.records ≠ [] →
        t.force = t.calculate ∧ t.table.applied = max s.table.applied t.force.fReq ∧
          t.table.relief = reliefAfter s.table.relief t.force.fReq s.table.applied) ∧
      (s.mon.motion ≠ .standstill → s.table.records = [] → t.force = s.force ∧ t.table = s.table) := by
  have hmeas : t.meas = (s.measured r).meas := by obtain ⟨h, -⟩ := State.sample_leaves ht; exact h
  have hstore : t.store = s.store := by obtain ⟨-, -, -, -, -, -, -, -, h, -⟩ := State.sample_leaves ht; exact h
  obtain ⟨he, ⟨b, hb⟩, hgate, hforce⟩ := State.sample_idle (r := r) hg
  obtain ⟨b', hb'⟩ := s.offered_records r
  set q := (s.tested r).supplyOnSample (s.lowChanges r) s.meas.awaitsFirstSample with hq
  have htt : t.table = q.table := by rw [ht, he]; rfl
  have htf : t.force = q.force := by rw [ht, he]; rfl
  have htg : t.gate = q.gate := by rw [ht, he]; rfl
  have hset : holdSet t.table.records = holdSet (s.offered r).table.records := by rw [htt, hb]; simp
  refine ⟨by rw [hset, hb']; simp, by rw [htg, hgate]; simp, by rw [htt, hb], fun hr => ?_, fun hm hr => ?_⟩
  · have ho : s.offered r = (s.measured r).runAndOffer := by
      refine if_pos ?_
      simpa [State.atStandstill, State.measured] using hr
    obtain ⟨b'', hb''⟩ := (s.measured r).runAndOffer_table
    have hf : t.force = (s.measured r).calculate := by rw [htf, hforce, ho, State.runAndOffer_force]
    refine ⟨?_, ?_, ?_⟩
    · rw [htf, hforce, ho, State.runAndOffer_fresh, ← ho]
      exact State.calculate_congr (by simp [hmeas]) (by simp [hstore]) hset.symm
    · rw [htt, hb, ho, hb'', hf]
      simp [max_comm]
    · rw [htt, hb, ho, hb'', hf]
      simp
  · have ho : s.offered r = s.measured r := by
      refine if_neg ?_
      simp [State.atStandstill, State.measured, hm, hr]
    refine ⟨by rw [htf, hforce, ho]; simp [State.measured], ?_⟩
    rw [htt, hb, ho]
    simp only [State.measured_table, hr, heardRecords_nil]
    rw [← hr]

/-- The distribution the offer of a sample leaves: the one in force where A stands, and a fresh one where it changes (R31). -/
theorem State.offered_dist (s : State) (r : SampleSet) :
    ((s.offered r).table.applied = s.table.applied → (s.offered r).dist = s.dist ∧ (s.offered r).chans = s.chans) ∧
      ((s.offered r).table.applied ≠ s.table.applied → (s.offered r).settled) := by
  unfold State.offered
  split
  · unfold State.runAndOffer State.offer
    dsimp only
    set v := ((s.measured r).runForce.withTable
      { (s.measured r).runForce.table with
        relief := reliefAfter (s.measured r).runForce.table.relief (s.measured r).runForce.force.fReq
          (s.measured r).runForce.table.applied }) with hv
    have ha : v.table.applied = s.table.applied := by simp [hv]
    set a := max (s.measured r).runForce.force.fReq (s.measured r).runForce.table.applied
    have happ : (v.applyForce a).table.applied = a := by
      obtain ⟨b, hb⟩ := v.applyForce_table a
      rw [hb]
    rw [happ]
    refine ⟨fun h => ?_, fun h => ?_⟩
    · rw [State.applyForce_of_same (h.trans ha.symm)]
      exact ⟨by simp [hv], by simp [hv]⟩
    · rw [State.applyForce_of_change (fun he => h (he.trans ha))]
      exact State.distribute_settled _
  · exact ⟨fun _ => ⟨by simp, by simp⟩, fun h => absurd (by simp) h⟩

theorem State.availDrifted_iff : s.availDrifted = true ↔
    ∃ (c : Chan) (used : Nat), (s.dist.cmds.get c).availUsed = some used ∧ (used + 20 < s.avail c ∨ s.avail c + 20 < used) := by
  unfold State.availDrifted
  rw [List.any_eq_true]
  constructor
  · rintro ⟨c, -, h⟩
    cases hu : (s.dist.cmds.get c).availUsed with
    | none => rw [hu] at h; cases h
    | some used =>
      rw [hu] at h
      exact ⟨c, used, hu, by simpa [drifted] using h⟩
  · rintro ⟨c, used, hu, h⟩
    exact ⟨c, mem_allChans c, by rw [hu]; simpa [drifted] using h⟩

/-- A run that finds the distribution in force moves no channel: no command is a change (R87). -/
theorem State.distributeWith_chans_of_same (loads : Six Nat) (h : s.distribution loads = s.dist) :
    (s.distributeWith loads false).chans = s.chans := by
  rw [State.distributeWith_chans, h]
  refine Six.ext_get fun c => ?_
  unfold State.handOver
  rw [Six.get_ofFn]
  dsimp only
  split <;> simp [Command.changes]

end Sys2Proof.Machine

/-! # O36: the distribution and the channels after a sample under an idle gate -/

namespace Sys2Proof.Machine

variable {s t : State} {r : SampleSet} {c : Chan}

/-- What the channels' tests on a sample leave of the distribution and the channels (R89, R91, R94). -/
theorem State.tested_leaves (hg : s.gate.armed = false) :
    (((s.offered r).table.applied ≠ s.table.applied ∨ ∃ c, (s.offered r).sensorTurned s.meas.psv c = true) →
        (s.tested r).settled) ∧
      ((s.offered r).table.applied = s.table.applied → (∀ c, (s.offered r).sensorTurned s.meas.psv c = false) →
        (s.tested r).dist = s.dist ∧ ∀ c, (s.tested r).chans.get c = (s.offered r).testPressures.chans.get c) := by
  obtain ⟨hsame, hsettled⟩ := s.offered_dist r
  have hgo : (s.offered r).gate.armed = false := by simpa using hg
  refine ⟨fun h => ?_, fun ha hn => ?_⟩
  · have hf : (s.sampleFaulted r).settled := State.sensorFaults_settled hgo (h.imp_left hsettled)
    rw [State.tested, State.channelsOnSample_eq, ← State.sampleFaulted]
    exact State.settled_of hf
      (State.runsTo_trans (State.testPressures_runsTo _) (State.reportConfirmed_runsTo _)) (by simp) (by simp) (by simp)
      (State.testPressures_hears _)
  · rw [State.tested, State.channelsOnSample_eq, State.sensorFaults_none hn]
    refine ⟨by simpa using (hsame ha).1, fun c => by simp⟩

/-- The last run of a sample, on a change of supply-low or a drift of P_avail (R62, R79). -/
theorem State.supplyOnSample_leaves (s : State) (lowChanged first : Bool) :
    let q := s.supplyOnSample lowChanged first
    (lowChanged = true → q.dist = q.distribution (if first then q.staticLoads else q.meas.loads)) ∧
      (lowChanged = false → s.availDrifted = true ∨ s.settled → q.settled) ∧
      (lowChanged = false → s.availDrifted = false → q.dist = s.dist) ∧
      (q.dist = s.dist → q.chans = s.chans) := by
  dsimp only
  refine ⟨fun h => ?_, fun h hc => ?_, fun h hn => ?_, fun hd => ?_⟩
  · have hloads : (s.supplyOnSample lowChanged first).staticLoads = s.staticLoads :=
      State.runsTo_staticLoads (s.supplyOnSample_runsTo _ _) (by simp)
    rw [hloads, State.supplyOnSample_meas, ← State.supplyRunLoads]
    unfold State.supplyOnSample
    rw [if_pos h]
    exact State.distributeWith_settled s _ false
  · unfold State.supplyOnSample
    rw [if_neg (by simp [h])]
    split
    · exact State.distribute_settled s
    · exact hc.resolve_left (by assumption)
  · unfold State.supplyOnSample
    rw [if_neg (by simp [h]), if_neg (by simp [hn])]
  · unfold State.supplyOnSample at hd ⊢
    split
    · rename_i h
      rw [if_pos h, State.distributeWith_dist] at hd
      exact State.distributeWith_chans_of_same _ hd
    · rename_i h
      rw [if_neg h] at hd
      split
      · rename_i ha
        rw [if_pos ha, State.distribute, State.distributeWith_dist] at hd
        exact State.distributeWith_chans_of_same _ hd
      · rfl

/-- P_avail of some channel strays at the last run where the distribution in force has stood till then (R62). -/
theorem State.tested_strays (ht : t.meas = (s.measured r).meas) (hp : t.store = s.store) (hd : (s.tested r).dist = s.dist) :
    (s.tested r).availDrifted = true ↔ s.availStrays t := by
  have havail : ∀ c, (s.tested r).avail c = t.avail c := fun c => by
    simp [State.avail, State.tested, State.items, ht, hp]
  rw [State.availDrifted_iff, hd]
  simp only [havail, State.availStrays]

/-- What the tests of a sample make of a channel (R89, R91). -/
theorem State.testPressures_pressed (s : State) (c : Chan) :
    (∀ p, s.meas.psv.get c = .valid p →
        (s.testPressures.chans.get c).pressedTo (s.chans.get c) (s.items c) (s.dist.cmds.get c).pressure p) ∧
      ((∀ p, s.meas.psv.get c ≠ .valid p) → s.testPressures.chans.get c = s.chans.get c) := by
  rw [State.testPressures_get]
  refine ⟨fun p hp => ?_, fun hp => ?_⟩
  · rw [Sensor.value_some.2 hp]
    exact Channel.pressed_leaves _ _ _ _
  · rw [Sensor.value_none.2 hp]
    rfl

/-- What a sample under an idle gate leaves of the distribution and the channels (R62, R79, R89, R91). -/
theorem State.sample_distribution (hg : s.gate.armed = false) (ht : t = State.conclude s (s.sample r)) :
    (s.lowDiffers t → s.meas.awaitsFirstSample = true → t.dist = t.distribution t.staticLoads) ∧
      (s.lowDiffers t → s.meas.awaitsFirstSample = false → t.dist = t.distribution t.meas.loads) ∧
      (¬s.lowDiffers t → t.table.applied ≠ s.table.applied ∨ s.availStrays t ∨ (∃ c, s.losesSensor t c) →
        t.dist = t.distribution t.meas.loads) ∧
      (¬s.lowDiffers t → t.table.applied = s.table.applied → ¬s.availStrays t → (∀ c, ¬s.losesSensor t c) →
        t.dist = s.dist) ∧
      (t.dist = s.dist → t.table.applied = s.table.applied → (∀ c, ¬s.losesSensor t c) →
        ∀ c, (∀ p, t.meas.psv.get c = .valid p →
            (t.chans.get c).pressedTo (s.chans.get c) (s.items c) (s.dist.cmds.get c).pressure p) ∧
          ((∀ p, t.meas.psv.get c ≠ .valid p) → t.chans.get c = s.chans.get c)) := by
  obtain ⟨hmeas, -, -, -, -, -, -, -, hstore, -⟩ := State.sample_leaves ht
  obtain ⟨-, -, happ, -⟩ := State.sample_forces hg ht
  obtain ⟨he, -⟩ := State.sample_idle (r := r) hg
  obtain ⟨hsettled, hstood⟩ := State.tested_leaves (r := r) hg
  obtain ⟨hlow, hdrift, hnone, hchans⟩ := (s.tested r).supplyOnSample_leaves (s.lowChanges r) s.meas.awaitsFirstSample
  set q := (s.tested r).supplyOnSample (s.lowChanges r) s.meas.awaitsFirstSample with hq
  have hdist : t.dist = q.dist := by rw [ht, he]; rfl
  have hcs : t.chans = q.chans := by rw [ht, he]; rfl
  have hstatic : t.staticLoads = q.staticLoads := by rw [ht, he]; rfl
  have hqm : t.meas = q.meas := by rw [ht, he]; rfl
  have hrun : ∀ loads, t.distribution loads = q.distribution loads := fun loads => by rw [ht, he]; rfl
  have hchange : ¬s.lowDiffers t → s.lowChanges r = false := fun h => by
    rw [Bool.eq_false_iff, ne_eq, State.lowChanges_iff hmeas]
    exact h
  have hlost : (∀ c, ¬s.losesSensor t c) → ∀ c, (s.offered r).sensorTurned s.meas.psv c = false := fun h c => by
    rw [Bool.eq_false_iff, ne_eq, State.offered_turned hmeas]
    exact h c
  have hstands : t.table.applied = s.table.applied → (∀ c, ¬s.losesSensor t c) → (s.tested r).dist = s.dist :=
    fun ha hl => (hstood (happ.symm.trans ha) (hlost hl)).1
  refine ⟨fun h hf => ?_, fun h hf => ?_, fun h hc => ?_, fun h ha hs hl => ?_, fun hd ha hl c => ?_⟩
  · rw [hdist, hstatic, hrun, hlow ((State.lowChanges_iff hmeas).2 h), if_pos hf]
  · rw [hdist, hqm, hrun, hlow ((State.lowChanges_iff hmeas).2 h), if_neg (by simp [hf])]
  · rw [hdist, hqm, hrun]
    refine hdrift (hchange h) ?_
    by_cases hset : t.table.applied ≠ s.table.applied ∨ ∃ c, s.losesSensor t c
    · refine .inr (hsettled ?_)
      rw [happ] at hset
      exact hset.imp_right fun ⟨c, hc⟩ => ⟨c, (State.offered_turned hmeas).2 hc⟩
    · obtain ⟨ha, hl⟩ := not_or.1 hset
      have hs : s.availStrays t := (hc.resolve_left ha).resolve_right hl
      exact .inl ((State.tested_strays hmeas hstore (hstands (not_not.1 ha) (not_exists.1 hl))).2 hs)
  · have hd := hstands ha hl
    have hn : (s.tested r).availDrifted = false := by
      rw [Bool.eq_false_iff, ne_eq, State.tested_strays hmeas hstore hd]
      exact hs
    rw [hdist, hnone (hchange h) hn, hd]
  · obtain ⟨hod, hoc⟩ := hstood (happ.symm.trans ha) (hlost hl)
    have hget : t.chans.get c = (s.offered r).testPressures.chans.get c := by
      rw [hcs, hchans (hdist.symm.trans (hd.trans hod.symm)), hoc]
    obtain ⟨hsame, -⟩ := s.offered_dist r
    obtain ⟨hdo, hco⟩ := hsame (happ.symm.trans ha)
    have hi : (s.offered r).items c = s.items c := by simp [State.items]
    have hv : ((s.offered r).meas.psv.get c) = t.meas.psv.get c := by rw [hmeas, State.offered_meas]
    have hpress := (s.offered r).testPressures_pressed c
    rw [hdo, hco, hi, hv] at hpress
    rw [hget]
    exact hpress

/-! ## The sample as an event -/

theorem State.sampleDue_iff : s.sampleDue = true ↔ s.ctl.mode ≠ .sleep ∧ s.samplesNow := by
  unfold State.sampleDue State.samplesNow State.awake Timer.due
  cases s.meas.sampleTimer <;> simp

/-- The part with its analog inputs showing other readings (log entry 41). -/
def State.shown (s : State) (r : SampleSet) : State := s.withMeas { s.meas with inputs := r }

theorem exec_sampleArrival (hp : s.powered = true) (r : SampleSet) :
    exec (.sampleArrival r) s =
      .next (State.conclude (s.shown r) (if s.sampleDue then (s.shown r).sample r else s.shown r)) := by
  have hd : (s.shown r).sampleDue = s.sampleDue := rfl
  have he : exec (.sampleArrival r) s = .next ((s.shown r).event fun t => if t.sampleDue then t.sample r else t) := rfl
  rw [he, State.event_powered (by exact hp), hd]

theorem relief_leaves (x : Timer) (f a : Nat) :
    (f * 100 ≤ a * 80 → reliefAfter x f a = if x.isRunning then x else .running 0) ∧
      (a * 80 < f * 100 → reliefAfter x f a = .stopped) :=
  ⟨fun h => by rw [reliefAfter, if_pos h]; rfl, fun h => by rw [reliefAfter, if_neg (by omega)]⟩

/-- Settles O36: a sample in its parts, the measurements first; with the gate idle the runs of the Distribution Unit are
told apart by what calls for them. -/
theorem sampleIsMeasured : Obligations.SampleIsMeasured := by
  intro s r hp
  refine ⟨fun h => ?_, fun hm hn => ?_⟩
  · have hd : s.sampleDue = false := by
      rw [Bool.eq_false_iff, ne_eq, State.sampleDue_iff]
      tauto
    rw [exec_sampleArrival hp, hd]
    exact ⟨_, congrArg _ (State.conclude_of_table rfl)⟩
  have hd : s.sampleDue = true := State.sampleDue_iff.2 ⟨hm, hn⟩
  refine ⟨mem_dueEvents_of_holds (by simp [State.dueOfHolds, hd, dueIf]), ?_⟩
  obtain ⟨t, ht⟩ : ∃ t, t = State.conclude (s.shown r) ((s.shown r).sample r) := ⟨_, rfl⟩
  obtain ⟨hmeas, hbits, hout, hmotion, hctl, hrest⟩ := State.sample_leaves ht
  obtain ⟨-, hlost, hnotice⟩ := (s.shown r).measured_notices r
  have hvehicle : (s.shown r).vehicle = s.vehicle := rfl
  have hstore : ((s.shown r).measured r).store = s.store := by simp [State.measured, State.shown]
  have hchans : ((s.shown r).measured r).chans = s.chans := by simp [State.shown]
  have hi : ∀ c, ((s.shown r).measured r).items c = s.items c := fun c => by simp [State.items, hstore]
  refine ⟨t, by rw [exec_sampleArrival hp, hd, ht]; rfl, by simp [hmeas, State.shown], by simp [hmeas], fun c => ?_, ?_, ?_, ?_,
    ?_, fun c => ?_, ?_, ?_, fun h => hbits 5 (hlost ?_), fun h => hbits 4 (hnotice ?_), fun c hc => ?_, fun hg => ?_, hmotion, hctl,
    hrest⟩
  · rw [hmeas, State.measured_psv, State.measured_psu]
    exact ⟨Sensor.take_reads _ _, Sensor.take_reads _ _⟩
  · rw [hmeas, State.measured_supplyA, Supply.derive_sensor]
    exact Sensor.take_reads _ _
  · rw [hmeas, State.measured_supplyB, Supply.derive_sensor]
    exact Sensor.take_reads _ _
  · rw [hmeas, State.measured_supplyA]
    exact Supply.derive_reads _ _
  · rw [hmeas, State.measured_supplyB]
    exact Supply.derive_reads _ _
  · have hl := ((s.shown r).measured r).loadOf_leaves c
    rw [hchans, hi, ← State.measured_load] at hl
    rw [hmeas]
    exact hl
  · have hw := ((s.shown r).measured r).weightOf_leaves ((s.shown r).measured r).meas.loads
    simp only [hi] at hw
    rw [hmeas, State.measured_weight]
    exact hw.1
  · have hw := ((s.shown r).measured r).weightOf_leaves ((s.shown r).measured r).meas.loads
    simp only [hi] at hw
    rw [hmeas, State.measured_weight]
    simpa [State.vehicle, hstore] using hw.2
  · refine Measure.sensorLost_of _ _ ?_
    rw [hmeas] at h
    simp only [State.measured_psv, State.measured_psu, State.measured_supplyA, State.measured_supplyB, Supply.derive_sensor] at h
    rcases h with ⟨c, n, h1, h2⟩ | ⟨c, n, h1, h2⟩ | ⟨h1, h2⟩ | ⟨h1, h2⟩
    · exact .inl ⟨c, .inl (Sensor.turnsInvalid_of h1 ((Sensor.isInvalid_iff _).2 ⟨n, h2⟩))⟩
    · exact .inl ⟨c, .inr (Sensor.turnsInvalid_of h1 ((Sensor.isInvalid_iff _).2 ⟨n, h2⟩))⟩
    · exact .inr (.inl (Sensor.turnsInvalid_of h1 h2))
    · exact .inr (.inr (Sensor.turnsInvalid_of h1 h2))
  · rw [hmeas] at h
    simpa [supplyNotice, State.shown] using h
  · have ho := hout c hc
    have hti : t.items c = s.items c := by
      obtain ⟨-, -, -, hst, -⟩ := hrest
      simp [State.items, hst, State.shown]
    refine ⟨ho.state, ho.cause, ho.confirmed, fun hf => ho.released (by rwa [hti]), fun hf => ho.frozen (by rwa [hti]),
      ho.outside, ho.told⟩
  · obtain ⟨hset, hgate, -, hruns, hstands⟩ := State.sample_forces (s := s.shown r) (by exact hg) ht
    obtain ⟨hfirst, hlow, hcalled, hnone, hpress⟩ := State.sample_distribution (s := s.shown r) (by exact hg) ht
    refine ⟨hset, hgate, fun h => ?_, hstands, hfirst, hlow, hcalled, hnone, hpress⟩
    obtain ⟨hf, ha, hrel⟩ := hruns h
    obtain ⟨hbelow, habove⟩ := relief_leaves s.table.relief t.force.fReq s.table.applied
    exact ⟨hf, ha, fun hle => hrel.trans (hbelow hle), fun hlt => hrel.trans (habove hlt)⟩

end Sys2Proof.Machine

/-! # What the pendant wants, through every command (O55: the opening that waits, and the one that is owed) -/

namespace Sys2Proof.Machine

variable {L : Licence} {s t u v : State} {z : Prop}

/-! ## A move -/

theorem State.wants_of_aside (h : t.mon.aside = s.mon.aside) : t.mon.pendantWant = s.mon.pendantWant :=
  congrArg Monitor.Aside.pendantWant h

/-- A move leaves what the pendant wants and what its line asks, but for a command of its own and a wake. -/
theorem Move.pendant (hw : ¬L.wants) (h : Move L s t) :
    t.mon.pendantWant = s.mon.pendantWant ∧ t.lines.pair = s.lines.pair := by
  cases h with
  | mon m hm => exact ⟨hm, rfl⟩
  | want w h => exact absurd h hw
  | lines l hp hz => exact ⟨rfl, hp.resolve_right hw⟩
  | wake hm h => exact absurd h hw
  | cancel k x hr hk hz =>
    refine ⟨?_, by simp⟩
    unfold State.gateCancel
    split
    · exact State.wants_of_aside (by simp [State.releaseFails])
    · rfl
  | refigure item value hm => exact ⟨State.wants_of_aside (by simp [State.written]), by simp [State.written]⟩
  | run loads fresh => exact ⟨State.wants_of_aside (by simp), by simp⟩
  | report => exact ⟨State.wants_of_aside (by simp), by simp⟩
  | offer hz => exact ⟨State.wants_of_aside (by simp), by simp⟩
  | relief hl hz => exact ⟨State.wants_of_aside (by simp), by simp⟩
  | opens make hm => exact ⟨State.wants_of_aside (by simp), by simp⟩
  | retire h hr hn hz => exact ⟨State.wants_of_aside (by simp), by simp⟩
  | convert h hr hn =>
    rw [State.convertToPark_eq]
    exact ⟨State.wants_of_aside (by simp), by simp⟩
  | amend r cls act hl hm =>
    rw [State.amend_eq]
    split
    · exact ⟨State.wants_of_aside (by simp), by simp⟩
    · exact ⟨rfl, rfl⟩
  | driveOff ha => exact ⟨State.wants_of_aside (by simp [State.driveOff]), by simp⟩
  | fails reason ha => exact ⟨State.wants_of_aside (by simp [State.releaseFails]), by simp [State.releaseFails]⟩
  | sleep hc hl => exact ⟨rfl, rfl⟩
  | _ => exact ⟨rfl, rfl⟩

theorem Moves.pendant (hw : ¬L.wants) (h : Moves L s t) :
    t.mon.pendantWant = s.mon.pendantWant ∧ t.lines.pair = s.lines.pair :=
  h.keep (P := fun t => t.mon.pendantWant = s.mon.pendantWant ∧ t.lines.pair = s.lines.pair)
    (fun ⟨h1, h2⟩ hm => by
      obtain ⟨g1, g2⟩ := hm.pendant hw
      exact ⟨g1.trans h1, g2.trans h2⟩)
    ⟨rfl, rfl⟩

/-- An opening that waits for the truck to stop moving waits through every command that is not its own (R141). -/
theorem Acts.waits {told : Bool} (hw : ¬L.wants) (hl : ¬L.wakes) (h : Acts L s t)
    (hs : s.mon.pendantWant = .untilStill told) : t.mon.pendantWant = .untilStill told := by
  have hend : ∀ b u : State, u.mon.pendantWant = .untilStill told →
      (State.conclude b u).mon.pendantWant = .untilStill told := fun b u hu =>
    (State.conclude_wants b (by rw [hu]; exact nofun)).trans hu
  induction h with
  | refl => exact hs
  | tail _ ha ih =>
    cases ha with
    | plain hm hr => exact (hm.pendant hw).1.trans ih
    | ended hm => exact hend _ _ ((hm.pendant hw).1.trans ih)
    | slept hc => exact hend _ _ ih
    | woken limit hx hm hwake => exact absurd hwake.1 hl

/-! ## Records that stay -/

/-- While the bearers stay, what has been retired has been retired. -/
theorem retiredSince_bearers {a b c : List Record} (h : retiredSince a b = false) (hb : ∀ x ∈ bearers b, x ∈ bearers c) :
    retiredSince a c = false := by
  rw [Bool.eq_false_iff, ne_eq, retiredSince_iff] at h ⊢
  rintro ⟨r, hr, ho, hx⟩
  refine h ⟨r, hr, ho, fun x hxb hh hoo => ?_⟩
  obtain ⟨y, hy, he⟩ := List.mem_map.1 (hb _ (List.mem_map.2 ⟨x, hxb, rfl⟩))
  obtain ⟨h1, h2⟩ := Prod.mk.inj he
  exact hx y hy (h1.trans hh) (h2.trans hoo)

/-- The bearers that are not the part's own. -/
def askers (records : List Record) : List (Nat × Owner) :=
  (records.filter fun r => r.owner != .monitor).map fun r => (r.handle, r.owner)

theorem askers_length (records : List Record) : (askers records).length = nonMonitorCount records := by
  simp [askers, nonMonitorCount]

theorem mem_askers {records : List Record} {x : Nat × Owner} :
    x ∈ askers records ↔ ∃ r ∈ records, r.owner ≠ .monitor ∧ (r.handle, r.owner) = x := by
  simp [askers, and_assoc]

/-- Where none is retired, the records of owners other than MONITOR are no fewer. -/
theorem nonMonitorCount_le {before now : List Record} (hn : (before.map Record.handle).Nodup)
    (h : retiredSince before now = false) : nonMonitorCount before ≤ nonMonitorCount now := by
  have hnodup : (askers before).Nodup := by
    refine List.Nodup.of_map Prod.fst ?_
    have he : (askers before).map Prod.fst = (before.filter fun r => r.owner != .monitor).map Record.handle := by
      simp [askers]
    rw [he]
    exact hn.sublist (List.filter_sublist.map _)
  have hsub : askers before ⊆ askers now := by
    intro x hx
    obtain ⟨r, hr, ho, rfl⟩ := mem_askers.1 hx
    rw [Bool.eq_false_iff, ne_eq, retiredSince_iff] at h
    by_contra hno
    refine h ⟨r, hr, ho, fun y hy hh hoo => hno (mem_askers.2 ⟨y, hy, by rw [hoo]; exact ho, ?_⟩)⟩
    rw [hh, hoo]
  rw [← askers_length, ← askers_length]
  exact (List.subperm_of_subset hnodup hsub).length_le

theorem nonMonitorCount_of_owners {a b : List Record} (h : a.map Record.owner = b.map Record.owner) :
    nonMonitorCount a = nonMonitorCount b := by
  have hc : ∀ l : List Record, nonMonitorCount l = ((l.map Record.owner).filter fun o => o != .monitor).length := by
    intro l
    rw [nonMonitorCount, List.filter_map, List.length_map]
    rfl
  rw [hc, hc, h]

/-! ## The opening that is owed (R26) -/

/-- Over a full table no release is under way (R11). -/
theorem State.full_idle (hs : s.holdsSoundIf z) (hc : 12 ≤ nonMonitorCount s.table.records) :
    s.gate.armed = false ∧ s.noneReleasing := by
  have hle : nonMonitorCount s.table.records ≤ s.table.records.length := List.length_filter_le _ _
  cases ha : s.gate.armed with
  | false => exact ⟨rfl, (State.gateSoundIf_idle hs.2 ha).2⟩
  | true =>
    obtain ⟨-, hlen, -⟩ := State.gateSoundIf_armed hs.2 ha
    omega

/-- An opening over a full table leaves it full. -/
theorem State.openRecord_full (hs : s.holdsSoundIf z) (make : Nat → Record) (hc : 12 ≤ nonMonitorCount s.table.records) :
    12 ≤ nonMonitorCount (s.openRecord make).table.records := by
  obtain ⟨-, hn⟩ := State.full_idle hs hc
  have he : nonMonitorCount (s.openRecord make).table.records =
      nonMonitorCount (s.table.records ++ [make s.table.newHandle]) := by
    rw [State.openRecord_records, notReleasing_of_none hn]
    refine nonMonitorCount_of_owners ?_
    rw [heardRecords_map Record.owner (fun r => by simp)]
  rw [he]
  unfold nonMonitorCount at hc ⊢
  rw [List.filter_append, List.length_append]
  omega

/-- A try of the pendant's leaves its opening owed for want of room alone (R26). -/
theorem State.pendantOpen_settled (ha : s.lines.pair ≠ .notAsking) (told : Bool) : (s.pendantOpen told).pendantSettled := by
  unfold State.pendantOpen State.pendantTry
  intro hw
  split at hw
  · split at hw
    · cases hw
    · split at hw
      · cases hw
      · rename_i hf hm hn
        rw [if_pos hf, if_neg hm, if_neg hn]
        refine ⟨?_, ?_⟩
        · rw [State.want_table]
          cases told <;> simpa using hn
        · rw [State.want_lines]
          cases told <;> simpa using ha
  · cases hw

theorem State.pendantRetry_settled (ha : s.mon.pendantWant = .untilRoom → s.lines.pair ≠ .notAsking) :
    s.pendantRetry.pendantSettled := by
  unfold State.pendantRetry
  split
  · rename_i h
    exact State.pendantOpen_settled (ha h.1) true
  · rename_i h
    intro hw
    exact absurd ⟨hw, (PairState.asks_iff _).2 (ha hw)⟩ h

/-- The line that stops asking gives up what it wanted (R142). -/
theorem State.pendantStop_want (s : State) : s.pendantStop.mon.pendantWant = .none := by
  unfold State.pendantStop
  dsimp only
  split
  · rename_i r hr
    split
    · rfl
    · rename_i hm
      have hmoves := moves_release (L := ⟨True, False, True, True, True, True, True, fun _ => True⟩)
        (List.mem_of_find?_eq_some hr) (by simpa using hm) (fun _ => ⟨trivial, trivial⟩) trivial
      exact (hmoves.pendant id).1
  · rfl

theorem State.pendantAsRead_settled (s : State) : s.pendantAsRead.pendantSettled := by
  unfold State.pendantAsRead
  split
  · rename_i h
    refine State.pendantOpen_settled ?_ false
    rw [PairState.asks_iff] at h
    split <;> simpa using h
  · intro hw
    rw [State.pendantStop_want] at hw
    cases hw

/-- A limit pulse opens a MONITOR record at most. -/
theorem State.limitPulse_settled (hs : s.holdsSoundIf z) (h : s.pendantSettled) : s.limitPulse.pendantSettled := by
  unfold State.limitPulse
  split
  · set x := s.withMon { s.mon with stage := .caught } with hx
    have hxs : x.holdsSoundIf z := hs
    have hopen : (x.monitorOpening .rollaway).pendantSettled := by
      unfold State.monitorOpening
      split
      · exact h
      · intro hw
        have hwx : s.mon.pendantWant = .untilRoom := by
          rw [← hw, State.raiseHolds_mon]
          exact (State.wants_of_aside (x.openRecord_aside (monitorRecord .rollaway))).symm
        obtain ⟨h1, h2⟩ := h hwx
        exact ⟨by simpa using State.openRecord_full hxs (monitorRecord .rollaway) h1, by simpa [hx] using h2⟩
    exact hopen
  · exact h
  · intro hw
    obtain ⟨h1, h2⟩ := h hw
    refine ⟨?_, h2⟩
    rw [← nonMonitorCount_of_owners (a := s.table.records)]
    · exact h1
    · show _ = ((s.table.records.map fun r => if r.isRollaway then { r with collected := false } else r).map Record.owner)
      rw [List.map_map]
      refine List.map_congr_left fun r _ => ?_
      simp only [Function.comp]
      split <;> rfl
  · exact h

/-- The end of an event settles what the pendant is owed: a retirement has it retried, and without one the table is as full as it
was (R26). -/
theorem State.conclude_settled (hb : s.table.sound) (hs : u.holdsSoundIf z)
    (h : u.mon.pendantWant = .untilRoom →
      u.lines.pair ≠ .notAsking ∧
        (12 ≤ nonMonitorCount u.table.records ∨ (u.ctl.mode ≠ .sleep ∧ 12 ≤ nonMonitorCount s.table.records))) :
    (State.conclude s u).pendantSettled := by
  obtain ⟨v, hv, hwant, hpair, hmode, hcount⟩ : ∃ v, v =
      (if holdSet s.table.records ≠ holdSet u.table.records ∧ u.awake then u.autoparkEvaluate else u) ∧
      v.mon.pendantWant = u.mon.pendantWant ∧ v.lines.pair = u.lines.pair ∧ v.ctl = u.ctl ∧
      (12 ≤ nonMonitorCount u.table.records → 12 ≤ nonMonitorCount v.table.records) := by
    refine ⟨_, rfl, ?_⟩
    split
    · rcases u.autoparkEvaluate_cases with he | he
      · rw [he]
        exact ⟨rfl, rfl, rfl, id⟩
      · rw [he]
        refine ⟨?_, by simp, by simp, fun hc => by simpa using State.openRecord_full hs _ hc⟩
        rw [State.raiseHolds_mon]
        exact State.wants_of_aside (u.openRecord_aside (monitorRecord .autopark))
    · exact ⟨rfl, rfl, rfl, id⟩
  have hend : State.conclude s u =
      (if retiredSince s.table.records v.table.records ∧ v.awake then v.pendantRetry else v).refreshWarn := by rw [hv]; rfl
  have hasks : v.mon.pendantWant = .untilRoom → v.lines.pair ≠ .notAsking := fun hw => by
    rw [hpair]
    exact (h (hwant.symm.trans hw)).1
  rw [hend]
  split
  · exact State.pendantRetry_settled hasks
  · rename_i hno
    intro hw
    have hw' : v.mon.pendantWant = .untilRoom := hw
    refine ⟨?_, hasks hw'⟩
    show 12 ≤ nonMonitorCount v.table.records
    rcases (h (hwant.symm.trans hw')).2 with hc | ⟨ha, hc⟩
    · exact hcount hc
    · have hret : retiredSince s.table.records v.table.records = false := by
        rw [Bool.eq_false_iff]
        exact fun hr => hno ⟨hr, by simp [State.awake, hmode, ha]⟩
      exact hc.trans (nonMonitorCount_le hb.2.1 hret)

/-! ## In SLEEP -/

theorem Record.countDown_owner (r : Record) : r.countDown.owner = r.owner := by
  unfold Record.countDown
  split <;> rfl

/-- No move but the entry into SLEEP leads there. -/
theorem Move.enters_not (hsl : ¬L.sleeps) (h : Move L s t) (ht : t.ctl.mode = .sleep) : s.ctl.mode = .sleep := by
  have same {t : State} (hm : t.ctl = s.ctl) (ht : t.ctl.mode = .sleep) : s.ctl.mode = .sleep := by rwa [hm] at ht
  cases h with
  | ctl k hm hz =>
    obtain ⟨-, -, hsleep⟩ := hm
    exact hsleep.1 ht
  | cancel k x hr hk hz => exact absurd (by simpa using ht) hk
  | toRun k x hk hz => exact absurd ((show k.mode = .sleep from ht).symm.trans hk) (by simp)
  | refigure item value hm => exact same (by simp [State.written]) ht
  | convert h hr hn => exact same (by simp [State.convertToPark_eq]) ht
  | amend r cls act hl hm => exact same (by simp) ht
  | fails reason ha => exact same (by simp [State.releaseFails]) ht
  | sleep hc hl => exact absurd hl hsl
  | wake hm hw => exact hm
  | power b => exact same rfl ht
  | frees n => exact same rfl ht
  | rewrite item value hm hi => exact same rfl ht
  | mark b => exact same rfl ht
  | arm r hr hrel ho hm hz hn => exact same rfl ht
  | _ => exact same (by simp) ht

/-- No bearer leaves a full table by a move that ends in SLEEP. -/
theorem Move.asleep (hst : ¬L.stops) (hs : s.holdsSoundIf z) (hc : 12 ≤ nonMonitorCount s.table.records)
    (h : Move L s t) (ht : t.ctl.mode = .sleep) : ∀ x ∈ bearers s.table.records, x ∈ bearers t.table.records := by
  obtain ⟨hidle, hnone⟩ := State.full_idle hs hc
  have same {t : State} (hr : bearers t.table.records = bearers s.table.records) :
      ∀ x ∈ bearers s.table.records, x ∈ bearers t.table.records := fun x hx => by rwa [hr]
  cases h with
  | cancel k x hr hk hz => exact absurd (by simpa using ht) hk
  | refigure item value hm =>
    obtain ⟨b, hb⟩ := (s.written item value).runAndOffer_table
    exact same (by rw [hb]; simp [State.written])
  | run loads fresh => exact same (by rw [State.distributeWith_table]; simp)
  | report => exact same (by rw [State.reportConfirmed_table]; simp)
  | offer hz => exact absurd (by simpa using ht) hz
  | relief hl hz =>
    obtain ⟨b, hb⟩ := (s.withTable { s.table with relief := .start }).applyForce_table s.force.fReq
    exact same (by rw [hb]; simp)
  | opens make hm =>
    intro x hx
    rw [State.openRecord_records, notReleasing_of_none hnone, bearers_heardRecords]
    exact List.map_subset _ (List.subset_append_left _ _) hx
  | retire h hr hn hz => exact absurd (hz (by simpa using ht)) hst
  | convert h hr hn =>
    refine same ?_
    rw [State.convertToPark_eq, State.raiseHolds_table, State.changed_table, bearers_heardRecords,
      bearers_updateRecord (f := Record.parked) (fun _ => rfl) (fun _ => rfl)]
  | amend r cls act hl hm =>
    rw [State.amend_eq]
    split
    · refine same ?_
      rw [State.changed_table, bearers_heardRecords,
        bearers_updateRecord (f := Record.amended cls act true) (fun _ => rfl) (fun _ => rfl)]
    · exact same (bearers_updateRecord (f := Record.amended cls act false) (fun _ => rfl) (fun _ => rfl) _)
  | arm r hr hrel ho hm hz hn =>
    exact same (bearers_updateRecord (f := fun x => { x with state := .releasing }) (fun _ => rfl) (fun _ => rfl) _)
  | driveOff ha => exact absurd ha (by simp [hidle])
  | fails reason ha => exact absurd ha (by simp [hidle])
  | count => exact same (bearers_map (f := Record.countDown) Record.countDown_handle Record.countDown_owner _)
  | mark b =>
    refine same (bearers_map (f := fun r => if r.isRollaway then { r with collected := b } else r) (fun r => ?_)
      (fun r => ?_) _)
    · split <;> rfl
    · split <;> rfl
  | wake hm hw =>
    obtain ⟨b, hb⟩ := s.waking_table
    exact same (by rw [hb, bearers_heardRecords])
  | _ => exact same rfl

end Sys2Proof.Machine

/-! # An owed opening of the pendant is settled by every step (O55) -/

namespace Sys2Proof.Machine

variable {L : Licence} {s t u x : State}

/-! ## The parts of a command -/

/-- A chain of moves keeps the holds' laws, whatever SLEEP stops. -/
theorem Moves.soundIf (hso : L.sound) (hs : s.holdsSoundIf False) (h : Moves L s t) : t.holdsSoundIf False :=
  h.keep (P := State.holdsSoundIf False) (fun hu hm => hm.keeps_holdsSoundIf False.elim hso hu) hs

theorem State.conclude_soundIf (before : State) (hs : s.holdsSoundIf False) :
    (State.conclude before s).holdsSoundIf False :=
  Moves.soundIf (L := .law True True) trivial hs (moves_conclude trivial before)

theorem State.wakeUp_soundIf (hs : s.holdsSoundIf False) (hm : s.ctl.mode = .sleep) : s.wakeUp.holdsSoundIf False :=
  Moves.soundIf (L := .law True True) trivial hs (moves_wakeUp ⟨trivial, trivial⟩ hm)

theorem State.limitPulse_soundIf (hs : s.holdsSoundIf False) : s.limitPulse.holdsSoundIf False :=
  Moves.soundIf (L := .law True True) trivial hs moves_limitPulse

/-- The bearers of a full table stay through a chain of moves that ends in SLEEP. -/
theorem Moves.asleep (hso : L.sound) (hst : ¬L.stops) (hsl : ¬L.sleeps) (hs : s.holdsSoundIf False)
    (hc : 12 ≤ nonMonitorCount s.table.records) (h : Moves L s t) (ht : t.ctl.mode = .sleep) :
    retiredSince s.table.records t.table.records = false := by
  induction h with
  | refl => exact retiredSince_self _
  | @tail v w hsv hvw ih =>
    have hv : v.holdsSoundIf False := Moves.soundIf hso hs hsv
    have hret := ih (hvw.enters_not hsl ht)
    have hfull : 12 ≤ nonMonitorCount v.table.records := hc.trans (nonMonitorCount_le hs.1.2.1 hret)
    exact retiredSince_bearers hret (hvw.asleep hst hv hfull ht)

/-- A part of a command settles what the pendant is owed, as it was before it. -/
theorem Act.settles (hso : L.sound) (hw : ¬L.wants) (hst : ¬L.stops) (hsl : ¬L.sleeps) (hs : s.holdsSoundIf False)
    (hp : s.pendantSettled) (h : Act L s t) : t.holdsSoundIf False ∧ t.pendantSettled := by
  cases h with
  | plain hm hr =>
    refine ⟨Moves.soundIf hso hs hm, fun hwt => ?_⟩
    obtain ⟨hwant, hpair⟩ := hm.pendant hw
    rw [hwant] at hwt
    rw [hpair, nonMonitorCount_of_owners hr]
    exact hp hwt
  | @ended u hm =>
    have hu : u.holdsSoundIf False := Moves.soundIf hso hs hm
    refine ⟨State.conclude_soundIf s hu, State.conclude_settled hs.1 hu fun hwu => ?_⟩
    obtain ⟨hwant, hpair⟩ := hm.pendant hw
    rw [hwant] at hwu
    obtain ⟨hc, ha⟩ := hp hwu
    refine ⟨by rwa [hpair], ?_⟩
    by_cases hz : u.ctl.mode = .sleep
    · exact .inl (hc.trans (nonMonitorCount_le hs.1.2.1 (hm.asleep hso hst hsl hs hc hz)))
    · exact .inr ⟨hz, hc⟩
  | slept hc =>
    have hu : s.enterSleep.holdsSoundIf False :=
      Moves.soundIf (L := .law True True) trivial hs (Move.sleep hc trivial).chain
    refine ⟨State.conclude_soundIf s hu, State.conclude_settled hs.1 hu fun hwu => ?_⟩
    obtain ⟨hc, ha⟩ := hp hwu
    exact ⟨ha, .inl hc⟩
  | @woken x limit hm hx hwake =>
    have hup := State.wakeUp_soundIf (Moves.soundIf hso hs hm) hx
    have hset : x.wakeUp.pendantSettled := by rw [State.wakeUp_eq]; exact State.pendantAsRead_settled _
    obtain ⟨hu, hus⟩ : (if limit then x.wakeUp.limitPulse else x.wakeUp).holdsSoundIf False ∧
        (if limit then x.wakeUp.limitPulse else x.wakeUp).pendantSettled := by
      split
      · exact ⟨State.limitPulse_soundIf hup, State.limitPulse_settled hup hset⟩
      · exact ⟨hup, hset⟩
    exact ⟨State.conclude_soundIf s hu, State.conclude_settled hs.1 hu fun hwu => ⟨(hus hwu).2, .inl (hus hwu).1⟩⟩

theorem Acts.settles (hso : L.sound) (hw : ¬L.wants) (hst : ¬L.stops) (hsl : ¬L.sleeps) (hs : s.holdsSoundIf False)
    (hp : s.pendantSettled) (h : Acts L s t) : t.pendantSettled := by
  have hboth : t.holdsSoundIf False ∧ t.pendantSettled := by
    induction h with
    | refl => exact ⟨hs, hp⟩
    | tail _ ha ih => exact Act.settles hso hw hst hsl ih.1 ih.2 ha
  exact hboth.2

/-! ## The pendant's own commands -/

/-- An event whose change leaves the pendant settled does so to its end. -/
theorem State.event_settles {f : State → State} (hs : s.holdsSound) (hp : s.pendantSettled)
    (hf : (f s).holdsSoundIf False ∧ (f s).pendantSettled) : (s.event f).pendantSettled := by
  obtain ⟨hu, hus⟩ := hf
  unfold State.event
  split
  · exact State.conclude_settled hs.1 hu fun hw => ⟨(hus hw).2, .inl (hus hw).1⟩
  · exact hp

theorem State.stopMoving_settled (hp : s.pendantSettled) : s.stopMoving.pendantSettled := by
  by_cases hq : (∀ told, s.mon.pendantWant ≠ .untilStill told) ∨ s.ctl.mode = .sleep ∨ s.lines.pair = .notAsking
  · rw [State.stopMoving_creeping hq]
    exact hp
  · simp only [not_or, not_forall, not_not] at hq
    obtain ⟨⟨told, hw⟩, hz, ha⟩ := hq
    rw [State.stopMoving_opens hw hz ha]
    exact State.pendantOpen_settled (by exact ha) told

theorem State.pairSettles_settled (hp : s.pendantSettled) : s.pairSettles.pendantSettled := by
  have hasks : ∀ p : PairState, p.asks = false ↔ p = .notAsking := fun p => by cases p <;> simp [PairState.asks]
  rw [State.pairSettles_eq]
  split
  · rename_i h
    exact State.pendantOpen_settled ((PairState.asks_iff _).1 h.2) false
  · rename_i hno
    split
    · intro hw
      rw [State.pendantStop_want] at hw
      cases hw
    · rename_i hno'
      intro hw
      obtain ⟨hc, ha⟩ := hp hw
      refine ⟨hc, fun hn => ?_⟩
      exact hno' ⟨(PairState.asks_iff _).2 ha, (hasks _).2 hn⟩

/-! ## Every step -/

theorem State.refreshWarn_settled (h : s.pendantSettled) : s.refreshWarn.pendantSettled := h

theorem exec_keeps_pendantSettled {i : Instr} (hs : s.holdsSound) (hp : s.pendantSettled) (h : exec i s = .next t) :
    t.pendantSettled := by
  have hif : s.holdsSoundIf False := State.holdsSound_if hs
  rcases exec_cases h with ha | ⟨-, u, -, rfl⟩
  · by_cases hw : wantsBy i
    · rcases hw with rfl | rfl
      · obtain rfl : t = s.event fun t => if t.movingDue then t.stopMoving else t := by cases h; rfl
        refine State.event_settles hs hp ?_
        split
        · exact ⟨Moves.soundIf (L := .law True True) trivial hif (moves_stopMoving trivial), State.stopMoving_settled hp⟩
        · exact ⟨hif, hp⟩
      · obtain rfl : t = s.event fun t => if t.pairDue then t.pairSettles else t := by cases h; rfl
        refine State.event_settles hs hp ?_
        split
        · exact ⟨Moves.soundIf (L := .law True True) trivial hif (moves_pairSettles trivial (fun _ => ⟨trivial, trivial⟩) trivial),
            State.pairSettles_settled hp⟩
        · exact ⟨hif, hp⟩
    · exact ha.settles hs hw (fun he => hw (.inr he)) id hif hp
  · rw [State.resetSequence_eq]
    exact State.refreshWarn_settled (State.pendantAsRead_settled _)

theorem step_keeps_pendantSettled (hs : s.holdsSound) (hp : s.pendantSettled) (h : step s = .next t) :
    t.pendantSettled := by
  rcases step_cases h with ⟨q, n, rfl⟩ | rfl | ⟨i, q, h⟩
  · exact hp
  · exact hp
  · exact exec_keeps_pendantSettled (s := s.withPending q) hs hp h

end Sys2Proof.Machine

/-! # The pendant pair, debounced (O55) -/

namespace Sys2Proof.Machine

variable {s t u v x y : State}

/-! ## What the pair's change leaves of the rest -/

theorem pairOf_eq (pa pb : Bool) : pairOf pa pb = pairRead pa pb := by cases pa <;> cases pb <;> rfl

theorem State.want_runsTo (s : State) (w : PendantWant) : s.runsTo (s.want w) := State.runsTo_withMon rfl

theorem State.pendantTry_runsTo (s : State) (told : Bool) : s.runsTo (s.pendantTry told) := by
  unfold State.pendantTry
  split
  · exact State.runsTo_trans (State.openRecord_runsTo _ _) (State.want_runsTo _ _)
  · refine State.runsTo_trans ?_ (State.want_runsTo _ _)
    split
    · exact State.runsTo_refl
    · exact State.runsTo_raiseHolds _ _

theorem State.pendantOpen_runsTo (s : State) (told : Bool) : s.runsTo (s.pendantOpen told) := by
  unfold State.pendantOpen
  split
  · split
    · exact State.want_runsTo _ _
    · exact State.pendantTry_runsTo _ _
  · exact State.want_runsTo _ _

theorem State.release_runsTo (s : State) (r : Record) : s.runsTo (s.release r) := by
  unfold State.release
  split
  · exact State.runsTo_refl
  · split
    · exact State.retire_runsTo _ _ _
    · refine State.runsTo_trans (State.runsTo_of (t := s.armed r.handle) rfl (fun _ h => h) rfl rfl) ?_
      exact State.runsTo_trans (State.gateDecide_runsTo _) (State.gateEvaluate_runsTo _)

theorem State.pendantStop_runsTo (s : State) : s.runsTo s.pendantStop := by
  unfold State.pendantStop
  dsimp only
  split
  · split
    · exact State.want_runsTo _ _
    · exact State.runsTo_trans (State.want_runsTo _ _) (State.release_runsTo _ _)
  · exact State.want_runsTo _ _

theorem State.pairSettles_runsTo (s : State) : s.pairTaken.runsTo s.pairSettles := by
  rw [State.pairSettles_eq]
  split
  · exact State.pendantOpen_runsTo _ _
  · split
    · exact State.pendantStop_runsTo _
    · exact State.runsTo_refl

@[simp] theorem State.pairTaken_table (s : State) : s.pairTaken.table = s.table := rfl

@[simp] theorem State.pairTaken_ctl (s : State) : s.pairTaken.ctl = s.ctl := rfl

@[simp] theorem State.pairTaken_meas (s : State) : s.pairTaken.meas = s.meas := rfl

@[simp] theorem State.pairTaken_store (s : State) : s.pairTaken.store = s.store := rfl

@[simp] theorem State.pairTaken_lines (s : State) :
    s.pairTaken.lines = { s.lines with pair := pairOf s.lines.pa s.lines.pb, pairDebounce := .stopped } := rfl

@[simp] theorem State.pairTaken_chans (s : State) : s.pairTaken.chans = s.chans := rfl

@[simp] theorem State.pairTaken_mon (s : State) : s.pairTaken.mon = s.mon := rfl

/-- The frame of the pair's change, and SENSOR where a LINE_FAULT begins (R140). -/
theorem State.pairSettles_leaves (ht : t = State.conclude s s.pairSettles) :
    t.lines.pair = pairRead s.lines.pa s.lines.pb ∧
      (t.lines.pair = .lineFault → s.lines.pair ≠ .lineFault → t.link.pending.getLsbD 5 = true) ∧
      t.lines.pairDebounce = .stopped ∧ t.ctl = s.ctl ∧ t.meas = s.meas ∧ t.store = s.store := by
  have hq : Sequel s.pairSettles t := ht ▸ sequel_conclude s s.pairSettles
  obtain ⟨-, -, hlines, -⟩ := hq.keepsRest
  have hl : t.lines = s.pairTaken.lines := by
    rw [hlines, State.pairSettles_eq]
    split
    · simp
    · split <;> simp
  have hpair : t.lines.pair = pairRead s.lines.pa s.lines.pb := by rw [hl, ← pairOf_eq]; rfl
  refine ⟨hpair, fun hf hn => ?_, by rw [hl]; rfl, by rw [hq.ctl]; simp, by rw [hq.meas]; simp, by rw [hq.store]; simp⟩
  rw [hpair, ← pairOf_eq] at hf
  refine hq.runsTo.bits 5 (s.pairSettles_runsTo.bits 5 ?_)
  show (State.withLink _ _).link.pending.getLsbD 5 = true
  rw [State.withLink_link, if_pos ⟨hf, hn⟩]
  simp [Source.bit]

/-! ## The pair comes to ask (R141) -/

/-- An opening the pendant asks for, to the end of its event (R26, R141). -/
theorem State.pendantOpen_leaves (told : Bool) (hs : s.holdsSound) (hx : x.table = s.table) (hg : x.gate = s.gate)
    (hk : x.ctl = s.ctl) (hm : x.mon.motion = s.mon.motion) (hl : told = true → x.link = s.link) (hc : x.chans = s.chans)
    (ht : t = State.conclude s (x.pendantOpen told)) :
    (¬s.noPendant → t.table = s.table ∧ t.chans = s.chans ∧ t.mon.pendantWant = .none) ∧
      (s.noPendant → s.mon.motion = .moving →
        t.table = s.table ∧ t.chans = s.chans ∧ t.mon.pendantWant = .untilStill told) ∧
      (s.noPendant → s.mon.motion ≠ .moving → 12 ≤ nonMonitorCount s.table.records →
        s.pendantTurnedAway t told ∧ t.chans = s.chans) ∧
      (s.noPendant → s.mon.motion ≠ .moving → nonMonitorCount s.table.records < 12 →
        t.pendantOpened s (s.table.records.filter fun r => r.state != .releasing)) := by
  have hfree : x.pendantFree = s.pendantFree := by simp [State.pendantFree, State.pendantLive, hx]
  have haside : ∀ w, (State.conclude s (x.want w)) = (x.want w).refreshWarn := fun w =>
    State.conclude_of_table (by simp [hx])
  have htry : s.noPendant → s.mon.motion ≠ .moving → x.pendantOpen told = x.pendantTry told := fun hn hmo => by
    unfold State.pendantOpen
    rw [if_pos (by rw [hfree]; exact State.pendantFree_of hn), if_neg (by rwa [hm])]
  refine ⟨fun hn => ?_, fun hn hmo => ?_, fun hn hmo hfull => ?_, fun hn hmo hroom => ?_⟩
  · have ho : x.pendantOpen told = x.want .none := by
      unfold State.pendantOpen
      rw [if_neg (by rw [hfree, State.pendantFree_not hs hn]; simp)]
    rw [ht, ho, haside]
    exact ⟨hx, hc, rfl⟩
  · have ho : x.pendantOpen told = x.want (.untilStill told) := by
      unfold State.pendantOpen
      rw [if_pos (by rw [hfree]; exact State.pendantFree_of hn), if_pos (by rwa [hm])]
    rw [ht, ho, haside]
    exact ⟨hx, hc, rfl⟩
  · refine State.turnedAway_of (s := s) (x := x) told hx hl hc ?_
    rw [ht, htry hn hmo, State.pendantTry, if_neg (by rw [hx]; omega)]
  · have hgate : (x.openRecord pendantRecord).gate = .idle :=
      State.openRecord_idle (s := x) (by simpa [State.gateSound, hx, hg, hk] using hs.2) pendantRecord
    have ho : x.pendantOpen told = (x.openRecord pendantRecord).want .none := by
      rw [htry hn hmo, State.pendantTry, if_pos (by rwa [hx])]
    refine State.pendantOpened_of (s := s) (x := x) (by rw [hx]; exact hs.1) hgate (by rw [ht, ho]; exact sequel_conclude s _)
      ?_ (fun h => by rw [hx, h]) (by rw [hx]; exact List.Sublist.refl _)
    rw [ht, ho]
    exact State.conclude_wants s (by simp [State.want])

/-! ## The pair stops asking (R27, R142) -/

/-- The one PENDANT record is the one that a search finds. -/
theorem State.pendantLive_of (hs : s.holdsSound) {r : Record} (hr : r ∈ s.table.records) (ho : r.owner = .pendant) :
    s.pendantLive = some r := by
  have hlim : ownedBy s.table.records .pendant ≤ 1 := by
    obtain ⟨⟨-, -, -, -, -, -, -, -, hp, -⟩, -⟩ := hs
    exact hp
  have hmem : r ∈ s.table.records.filter fun r => r.owner == .pendant := List.mem_filter.2 ⟨hr, by simp [ho]⟩
  have hone : (s.table.records.filter fun r => r.owner == .pendant) = [r] := by
    cases hf : s.table.records.filter fun r => r.owner == .pendant with
    | nil => simp [hf] at hmem
    | cons a l =>
      have hl : l = [] := by
        rw [ownedBy, hf, List.length_cons] at hlim
        exact List.length_eq_zero_iff.1 (by omega)
      rw [hf, hl, List.mem_singleton] at hmem
      rw [hmem, hl]
  rw [State.pendantLive, ← List.head?_filter, hone]
  rfl

theorem State.pendantLive_none (h : ∀ r ∈ s.table.records, r.owner ≠ .pendant) : s.pendantLive = none :=
  List.find?_eq_none.2 fun r hr => by simpa using h r hr

/-- A PENDANT record is of class FIRM (R26). -/
theorem Record.pendant_firm {r : Record} (hr : r.sound) (ho : r.owner = .pendant) : r.cls = .firm := by
  obtain ⟨-, -, -, hp, -⟩ := hr
  exact hp ho

/-- What the line gives up when it stops asking (R142), to the end of the event. -/
theorem State.pendantStop_leaves (hs : s.holdsSound) (hx : x = s.pairTaken) (ht : t = State.conclude s x.pendantStop) :
    t.mon.pendantWant = .none ∧ ((∀ r ∈ s.table.records, r.owner ≠ .pendant) → t.table = s.table) ∧
      ∀ r ∈ s.table.records, r.owner = .pendant →
        (s.ctl.mode = .safe ∨ r.state = .releasing → t.table = s.table) ∧
          (s.ctl.mode ≠ .safe → r.state ≠ .releasing → 1 < s.table.records.length →
            holdSet (s.table.records.filter fun x => x.handle != r.handle) <+: holdSet t.table.records ∧ t.freshForce) ∧
          (s.ctl.mode ≠ .safe → r.state ≠ .releasing → s.table.records = [r] →
            (s.ctl.mode = .run ∧ s.letsGo s.force s.meas.drive → s.drivenOff t) ∧
              (¬(s.ctl.mode = .run ∧ s.letsGo s.force s.meas.drive) →
                t.table = { s.table with records := [{ r with state := .releasing }] } ∧
                  ∃ suspended,
                    t.gate = ⟨true, r.handle, some (Config.ms s.vehicle.releaseTimeout.toNat), false, suspended⟩ ∧
                      (suspended = true ↔ s.ctl.mode ≠ .run))) := by
  obtain ⟨v, hv⟩ : ∃ v, v = x.want .none := ⟨_, rfl⟩
  have hvt : v.table = s.table := by rw [hv, hx]; rfl
  have hvc : v.ctl = s.ctl := by rw [hv, hx]; rfl
  have hvs : v.holdsSound := by rw [hv, hx]; exact hs
  have hvlive : v.pendantLive = s.pendantLive := by simp [State.pendantLive, hvt]
  have hstop : x.pendantStop = v.pendantLive.elim v fun r => if v.ctl.mode = .safe then v else v.release r := by
    rw [hv]
    unfold State.pendantStop
    dsimp only
    split
    · rename_i r hr
      rw [hr]
      rfl
    · rename_i hr
      rw [hr]
      rfl
  have hsame : x.pendantStop = v → t.table = s.table := fun h => by
    rw [ht, h, State.conclude_of_table (s := s) (t := v) (by rw [hvt])]
    exact hvt
  refine ⟨?_, fun hno => hsame ?_, fun r hr ho => ?_⟩
  · rw [ht, State.conclude_wants s (by rw [State.pendantStop_want]; exact nofun), State.pendantStop_want]
  · rw [hstop, hvlive, State.pendantLive_none hno]
    rfl
  have hlive : x.pendantStop = if v.ctl.mode = .safe then v else v.release r := by
    rw [hstop, hvlive, State.pendantLive_of hs hr ho]
    rfl
  refine ⟨fun hstay => hsame ?_, fun hm hrel hlen => ?_, fun hm hrel hone => ?_⟩
  · rw [hlive]
    rcases hstay with h | h
    · rw [if_pos (by rw [hvc, h])]
    · have hi : r.isReleasing = true := by simp [Record.isReleasing, h]
      simp [State.release, hi]
  · rw [if_neg (by rw [hvc]; exact hm)] at hlive
    have hrv : r ∈ v.table.records := by rw [hvt]; exact hr
    obtain ⟨-, hn⟩ := State.noneReleasing_over hvs hrv hrel
    obtain ⟨-, hret⟩ := State.release_retires hvs.1 hn hrv (by rwa [hvt])
    obtain ⟨-, hpre, hfresh, -⟩ := State.retired_leaves hvs hrv hrel
      (t := t) (by rw [ht, hlive, hret]; exact sequel_conclude s _)
    rw [hvt] at hpre
    exact ⟨hpre, hfresh⟩
  · rw [if_neg (by rw [hvc]; exact hm)] at hlive
    have hov : v.table.records = [r] := by rw [hvt]; exact hone
    have hfirm : ¬(r.cls = .park ∧ v.lowSpring) := fun h => by
      rw [Record.pendant_firm (hs.1.1 r hr) ho] at h
      cases h.1
    obtain ⟨-, hrl⟩ := State.release_last hov hrel
    obtain ⟨-, hstays, hgoes⟩ := State.armed_judged hov
    have hlets : v.letsGo v.force v.meas.drive ↔ s.letsGo s.force s.meas.drive := by rw [hv, hx]; exact Iff.rfl
    have hrecords := State.armed_records hov
    rw [hlets, hvc] at hstays hgoes
    refine ⟨fun hgo => ?_, fun hno => ?_⟩
    · have hend : t = State.conclude s (v.armed r.handle).driveOff := by rw [ht, hlive, hrl, hgoes hfirm hgo]
      rw [hend]
      refine State.drivenOff_of (x := { r with state := .releasing }) (by simp [hrecords]) rfl hone rfl ?_ fun hnf => ?_
      · rw [hv, hx]; rfl
      · rw [hv, hx]
        exact ⟨hnf.1, nofun⟩
    · have hend : t = (v.armed r.handle).refreshWarn := by
        rw [ht, hlive, hrl, hstays hfirm hno, State.conclude_armed hone (by simp [hrecords])]
      refine ⟨?_, s.ctl.mode != .run, ?_, by simp⟩
      · rw [hend]
        show (v.armed r.handle).table = _
        rw [hrecords, hvt]
      · rw [hend]
        show (v.armed r.handle).gate = _
        rw [State.armed_gate, hvc, hv, hx]
        rfl

/-- The debounced pair, by what its line asked and comes to ask (R27, R140 to R142). -/
theorem exec_pendantPairDebounced (hp : s.powered = true) {n : Nat} (hd : s.lines.pairDebounce = .running n)
    (hn : Config.ms 50 ≤ n) : exec .pendantPairDebounced s = .next (State.conclude s s.pairSettles) := by
  show Host.Outcome.next (s.event fun t => if t.pairDue then _ else t) = _
  rw [State.event_powered hp, if_pos (by simp [State.pairDue, hd, Timer.due, hn])]

end Sys2Proof.Machine

/-! # A retirement makes an owed opening of the pendant (O55) -/

namespace Sys2Proof.Machine

variable {s t u v x y : State}

/-! ## The bearers that are not the part's own -/

/-- Without one of its records of an owner other than MONITOR a table has room (R4). -/
theorem nonMonitorCount_othersThan {records : List Record} {r : Record} (hr : r ∈ records) (ho : r.owner ≠ .monitor) :
    nonMonitorCount (othersThan records r.handle) < nonMonitorCount records := by
  have hlt : ((records.filter fun x => x.owner != .monitor).filter fun x => x.handle != r.handle).length <
      (records.filter fun x => x.owner != .monitor).length :=
    List.length_filter_lt_length_iff_exists.2 ⟨r, List.mem_filter.2 ⟨hr, by simpa using ho⟩, by simp⟩
  unfold nonMonitorCount othersThan
  rw [List.filter_filter] at hlt ⊢
  simpa only [Bool.and_comm] using hlt

theorem askers_heardRecords (b : Bool) (records : List Record) : askers (heardRecords b records) = askers records := by
  cases b
  · rfl
  · simp [askers, List.filter_map, Function.comp_def, List.map_map]

theorem askers_append (xs ys : List Record) : askers (xs ++ ys) = askers xs ++ askers ys := by simp [askers]

/-- An AUTOPARK opening is the part's own (R25). -/
theorem State.autoparkEvaluate_askers (hn : s.noneReleasing) :
    askers s.autoparkEvaluate.table.records = askers s.table.records := by
  rcases s.autoparkEvaluate_cases with he | he
  · rw [he]
  · rw [he, State.raiseHolds_table, State.openRecord_records, askers_heardRecords, askers_append, notReleasing_of_none hn]
    simp [askers, monitorRecord]

/-! ## The retirement, to the end of its event -/

/-- A part that has retired a record of a sound table, in a mode awake, with what is owed and asked as it was. -/
structure State.retiredFrom (s v : State) (r : Record) : Prop where
  records : ∃ b, v.table.records = heardRecords b (othersThan s.table.records r.handle)
  sound : v.holdsSoundIf False
  gate : v.gate = s.gate
  motion : v.mon.motion = s.mon.motion
  want : v.mon.pendantWant = s.mon.pendantWant
  lines : v.lines = s.lines
  ctl : v.ctl = s.ctl

/-- An event that retires a record of an owner other than MONITOR has the pendant's owed opening made, or wait for the truck to
stop moving (R26, R141). -/
theorem State.conclude_owed {r : Record} (hs : s.holdsSound) (hr : r ∈ s.table.records) (ho : r.owner ≠ .monitor)
    (hrel : r.state ≠ .releasing) (hnp : s.noPendant) (hw : s.mon.pendantWant = .untilRoom) (ha : s.lines.pair ≠ .notAsking)
    (hm : s.ctl.mode ≠ .sleep) (hv : s.retiredFrom v r) (ht : t = State.conclude s v) :
    (s.mon.motion ≠ .moving → t.pendantOpened s (s.table.records.filter fun x => x.handle != r.handle)) ∧
      (s.mon.motion = .moving → t.mon.pendantWant = .untilStill true ∧ ∀ x ∈ t.table.records, x.owner ≠ .pendant) := by
  obtain ⟨⟨b, hrec⟩, hsound, hgate, hmotion, hwant, hlines, hctl⟩ := hv
  obtain ⟨hidle, hn⟩ := State.noneReleasing_over hs hr hrel
  have hroom : nonMonitorCount (othersThan s.table.records r.handle) < 12 := by
    have hlim : nonMonitorCount s.table.records ≤ 12 := by obtain ⟨⟨-, -, -, -, hc, -⟩, -⟩ := hs; exact hc
    exact (nonMonitorCount_othersThan hr ho).trans_le hlim
  have hvn : v.noneReleasing := by
    rw [State.noneReleasing, hrec]
    exact heardRecords_noneReleasing fun x hx => hn x (mem_othersThan.1 hx).1
  have hva : askers v.table.records = askers (othersThan s.table.records r.handle) := by rw [hrec, askers_heardRecords]
  obtain ⟨p, hp⟩ : ∃ p, p = if holdSet s.table.records ≠ holdSet v.table.records ∧ v.awake then v.autoparkEvaluate else v :=
    ⟨_, rfl⟩
  have hq : Sequel v p := by
    rw [hp]
    split
    · exact sequel_autoparkEvaluate v
    · exact .refl
  have hpa : askers p.table.records = askers (othersThan s.table.records r.handle) := by
    rw [hp, ← hva]
    split
    · exact State.autoparkEvaluate_askers hvn
    · rfl
  have hpw : p.mon.pendantWant = .untilRoom := by
    rw [hp, ← hw, ← hwant]
    split
    · rcases v.autoparkEvaluate_cases with he | he
      · rw [he]
      · rw [he, State.raiseHolds_mon, State.wants_of_aside (v.openRecord_aside _)]
    · rfl
  have hps : p.holdsSoundIf False := by
    rw [hp]
    split
    · exact Moves.soundIf (L := .law True True) trivial hsound moves_autoparkEvaluate
    · exact hsound
  have hpm : p.mon.motion = s.mon.motion := hq.motion.trans hmotion
  have hpl : p.lines = s.lines := by
    obtain ⟨-, -, hl, -⟩ := hq.keepsRest
    exact hl.trans hlines
  have hpc : p.ctl = s.ctl := hq.ctl.trans hctl
  have hpg : p.gate = .idle := hq.gate (hgate.trans hidle)
  have hasker : ∀ x ∈ p.table.records, x.owner ≠ .monitor →
      ∃ y ∈ s.table.records, y.handle ≠ r.handle ∧ y.handle = x.handle ∧ y.owner = x.owner := fun x hx hxo => by
    have hin : (x.handle, x.owner) ∈ askers (othersThan s.table.records r.handle) := by
      rw [← hpa]
      exact mem_askers.2 ⟨x, hx, hxo, rfl⟩
    obtain ⟨y, hy, -, he⟩ := mem_askers.1 hin
    obtain ⟨hh, hyo⟩ := Prod.mk.inj he
    exact ⟨y, (mem_othersThan.1 hy).1, (mem_othersThan.1 hy).2, hh, hyo⟩
  have hnone : ∀ x ∈ p.table.records, x.owner ≠ .pendant := fun x hx hxo => by
    obtain ⟨y, hy, -, -, hyo⟩ := hasker x hx (by rw [hxo]; exact nofun)
    exact hn y hy (hnp y hy (hyo.trans hxo))
  have hretired : retiredSince s.table.records p.table.records = true :=
    (retiredSince_iff _ _).2 ⟨r, hr, ho, fun x hx hh hxo => by
      obtain ⟨y, -, hne, hyh, -⟩ := hasker x hx (by rw [hxo]; exact ho)
      exact hne (hyh.trans hh)⟩
  have hend : t = (p.pendantOpen true).refreshWarn := by
    have hretry : p.pendantRetry = p.pendantOpen true :=
      if_pos ⟨hpw, by rw [hpl]; exact (PairState.asks_iff _).2 ha⟩
    rw [ht]
    show State.refreshWarn (if retiredSince s.table.records _ = true ∧ _ then _ else _) = _
    rw [← hp, if_pos ⟨hretired, by simp [State.awake, hpc, hm]⟩, hretry]
  have hfree : p.pendantFree = true := State.pendantFree_of fun x hx hxo => absurd hxo (hnone x hx)
  refine ⟨fun hmo => ?_, fun hmo => ?_⟩
  · have hopen : p.pendantOpen true = (p.openRecord pendantRecord).want .none := by
      unfold State.pendantOpen
      rw [if_pos hfree, if_neg (by rwa [hpm]), State.pendantTry, if_pos]
      rwa [← askers_length, hpa, askers_length]
    have hpre : holdSet (othersThan s.table.records r.handle) <+: holdSet p.table.records := by
      have := hq.holds hvn
      rwa [hrec, heardRecords_holdSet] at this
    refine State.pendantOpened_of (x := p) hps.1 ?_ (t := t) (by rw [hend, hopen]; exact Follow.warn.one)
      (by rw [hend, hopen]; rfl) (fun h => by rw [h] at hr; cases hr) ?_
    · rw [State.openRecord_gate, hpg]
      split <;> rfl
    · rw [notReleasing_of_none (Sequel.noneReleasing hq hvn)]
      exact hpre.sublist
  · have hopen : p.pendantOpen true = p.want (.untilStill true) := by
      unfold State.pendantOpen
      rw [if_pos hfree, if_pos (by rwa [hpm])]
    rw [hend, hopen]
    exact ⟨rfl, hnone⟩

/-! ## The commands that retire -/

/-- A retirement as a release makes it. -/
theorem State.retire_retiredFrom {r : Record} (hs : s.holdsSound) (hr : r ∈ s.table.records) (hrel : r.state ≠ .releasing)
    {a : Answer} : s.retiredFrom ((s.withSlot a).retire r.handle false) r := by
  obtain ⟨b, -, ht⟩ := (s.withSlot a).retire_table r.handle false
  have haside : ((s.withSlot a).retire r.handle false).mon.aside = s.mon.aside := (s.withSlot a).retire_aside r.handle false
  refine ⟨⟨b, by rw [ht]; rfl⟩, ?_, by simp [State.withSlot], State.motion_of_aside haside, State.wants_of_aside haside,
    by simp [State.withSlot], by simp [State.withSlot]⟩
  exact State.retire_holdsSoundIf (s := s.withSlot a) (State.holdsSound_if hs) hr hrel false

/-- A retirement as an expiry makes it (R24). -/
theorem State.retireExpired_retiredFrom {r : Record} (hs : s.holdsSound) (hr : r ∈ s.table.records)
    (hrel : r.state ≠ .releasing) : s.retiredFrom (s.retireExpired r.handle) r := by
  have haside := s.retire_aside r.handle false
  refine ⟨s.retireExpired_records r.handle, ?_, by simp [State.retireExpired], ?_, ?_, by simp [State.retireExpired],
    by simp [State.retireExpired]⟩
  · exact Moves.soundIf (L := .law True True) trivial
      (State.retire_holdsSoundIf (State.holdsSound_if hs) hr hrel false)
      ((moves_raiseHolds r.handle .none).trans
        (Move.mon { ((s.retire r.handle false).raiseHolds r.handle .none).mon with train := .start } rfl
          fun _ => .inl trivial).chain)
  · simpa [State.retireExpired] using State.motion_of_aside haside
  · simpa [State.retireExpired] using State.wants_of_aside haside

/-- The commands that retire a record and leave another opening to the end of their event (R17, R24). -/
theorem exec_retires {i : Instr} {r : Record} (hp : s.powered = true) (hm : s.ctl.mode ≠ .sleep) (hs : s.holdsSound)
    (hr : r ∈ s.table.records) (hrel : r.state ≠ .releasing)
    (h : (i = .holdExpiry r.handle ∧ r.expiry = some 1 ∧ Config.ms 100 ≤ s.table.beat ∧ s.mon.driverPresent = true) ∨
      (∃ owner handle : Byte, i = .releaseHold owner handle ∧ handle.toNat = r.handle ∧ s.takes ∧ s.ctl.mode = .run ∧
        (1 ≤ owner.toNat ∧ owner.toNat ≤ 3) ∧ s.mayRelease owner r ∧ 1 < s.table.records.length)) :
    ∃ v, exec i s = .next (State.conclude s v) ∧ s.retiredFrom v r := by
  rcases h with ⟨rfl, he, hb, hd⟩ | ⟨owner, handle, rfl, hh, htk, hrun, ⟨h1, h3⟩, hmay, hlen⟩
  · refine ⟨_, ?_, State.retireExpired_retiredFrom hs hr hrel⟩
    show Host.Outcome.next (s.event fun t => if t.expiryDue r.handle then _ else t) = _
    rw [State.event_powered hp, if_pos (State.expiryDue_of hm hb hs.1 hr ⟨hrel, he⟩), State.expire_present hd]
  · obtain ⟨o, ho, -, -⟩ := requestOwner_some h1 h3
    have hlive := releaseCheck_live hrun hs.1 hr o
    obtain ⟨hok, -⟩ := State.releaseVerdict_tells (s := s) (hs.1.1 r hr) ho
    rw [hh.symm, ← ho, hok hmay, Option.elim_none] at hlive
    have hi : r.isReleasing = false := by simpa [Record.isReleasing] using hrel
    obtain ⟨-, hn⟩ := State.noneReleasing_over hs hr hrel
    obtain ⟨hret, -⟩ := State.release_retires hs.1 hn hr hlen
    obtain ⟨-, hrl⟩ := State.release_retires (s := s.withSlot (doneAnswer 0x22 [byteOf handle.toNat])) hs.1 hn hr hlen
    refine ⟨_, ?_, State.retire_retiredFrom (a := doneAnswer 0x22 [byteOf handle.toNat]) hs hr hrel⟩
    rw [exec_own (r := .releaseHold) htk rfl (by rw [hrun]; rfl), State.releaseHoldRule, hlive]
    simp only [hi, hret, State.done_eq, Bool.false_eq_true, if_false, if_true]
    rw [hrl]

/-! ## O55 -/

theorem PairState.not_asks_iff {p : PairState} : p.asks = false ↔ p = .notAsking := by cases p <;> simp [PairState.asks]

/-- Settles O55: the pair by what it asked and comes to ask, an opening that waits by the moves of a command, an owed one at a
retirement, and the law of the owed one by the ends of the events. -/
theorem pendantOpensAndReleases : Obligations.PendantOpensAndReleases := by
  refine ⟨fun s n hp hs hd hn => ?_, fun i s t told h hw hm hi => ?_, fun i s r hp hm hs hr ho hrel hw ha hnp h => ?_,
    fun s t hs hp h => step_keeps_pendantSettled hs hp h⟩
  · obtain ⟨hpair, hbit, hdeb, hctl, hmeas, hstore⟩ := State.pairSettles_leaves (s := s) rfl
    have hread : (State.conclude s s.pairSettles).lines.pair = pairOf s.lines.pa s.lines.pb := by rw [hpair, pairOf_eq]
    refine ⟨_, exec_pendantPairDebounced hp hd hn, hpair, hbit, hdeb, hctl, hmeas, hstore, fun hold hnew => ?_,
      fun hboth => ?_, fun hold hnew => ?_⟩
    · rw [hread] at hnew
      have he : s.pairSettles = s.pairTaken.pendantOpen false := by
        rw [State.pairSettles_eq, if_pos ⟨PairState.not_asks_iff.2 hold, (PairState.asks_iff _).2 hnew⟩]
      exact State.pendantOpen_leaves (x := s.pairTaken) false hs (by simp) rfl (by simp) (by simp) nofun (by simp) (by rw [he])
    · rw [hread] at hboth
      have he : s.pairSettles = s.pairTaken := by
        rw [State.pairSettles_eq, if_neg, if_neg]
        · rintro ⟨h1, h2⟩
          exact (PairState.asks_iff _).1 h1 (hboth.2 (PairState.not_asks_iff.1 h2))
        · rintro ⟨h1, h2⟩
          exact (PairState.asks_iff _).1 h2 (hboth.1 (PairState.not_asks_iff.1 h1))
      rw [he, State.conclude_of_table (by simp)]
      exact ⟨rfl, rfl, rfl⟩
    · rw [hread] at hnew
      have he : s.pairSettles = s.pairTaken.pendantStop := by
        rw [State.pairSettles_eq, if_neg, if_pos ⟨(PairState.asks_iff _).2 hold, PairState.not_asks_iff.2 hnew⟩]
        rintro ⟨h1, -⟩
        exact hold (PairState.not_asks_iff.1 h1)
      exact State.pendantStop_leaves hs rfl (by rw [he])
  · simp only [List.mem_cons, List.not_mem_nil, or_false, not_or] at hi
    obtain ⟨hreset, hpower, hpairs, hmoving⟩ := hi
    exact (exec_acts hreset hpower h).waits (by rintro (hc | hc) <;> contradiction) hm hw
  · obtain ⟨v, hexec, hv⟩ := exec_retires hp hm hs hr hrel h
    exact ⟨_, hexec, State.conclude_owed hs hr ho hrel hnp hw ha hm hv rfl⟩

end Sys2Proof.Machine

/-! # A reset from any state (O5) -/

namespace Sys2Proof.Machine

variable {s t r : State}

/-! ## The clock, the free values and the queue are aside -/

/-- A part with another clock, count of free values and queue. -/
def State.retimed (s r : State) : State := { s with now := r.now, freeCount := r.freeCount, pending := r.pending }

theorem State.reportConfirmed_retimed (s r : State) : (s.retimed r).reportConfirmed = s.reportConfirmed.retimed r := by
  have hc : (s.retimed r).distConfirmed = s.distConfirmed := rfl
  have hh : (s.retimed r).engagingToHeld = s.engagingToHeld.retimed r := by
    have hp : (s.retimed r).table = s.table := rfl
    unfold State.engagingToHeld
    rw [hp]
    dsimp only
    split <;> rfl
  unfold State.reportConfirmed
  rw [hc, hh]
  split <;> rfl

theorem State.raiseShort_retimed (s r : State) (b : Option ShortKind) :
    (s.retimed r).raiseShort b = (s.raiseShort b).retimed r := by
  have hd : (s.retimed r).dist = s.dist := rfl
  unfold State.raiseShort
  rw [hd]
  split <;> rfl

theorem State.distributeWith_retimed (s r : State) (loads : Six Nat) (fresh : Bool) :
    (s.retimed r).distributeWith loads fresh = (s.distributeWith loads fresh).retimed r := by
  unfold State.distributeWith
  rw [← State.reportConfirmed_retimed, ← State.raiseShort_retimed]
  rfl

theorem State.holdSetChange_retimed (s r : State) (p : Bool) :
    (s.retimed r).holdSetChange p = (s.holdSetChange p).retimed r := by
  have hrun : ∀ u : State, (u.retimed r).distribute = u.distribute.retimed r := fun u => State.distributeWith_retimed u r _ _
  unfold State.holdSetChange
  dsimp only
  rw [apply_ite (State.retimed · r), ← hrun]
  rfl

theorem State.openRecord_retimed (s r : State) (make : Nat → Record) :
    (s.retimed r).openRecord make = (s.openRecord make).retimed r := by
  have hseat : (s.retimed r).seating make = (s.seating make).retimed r := rfl
  have ht : (s.retimed r).table = s.table := rfl
  have hopen : (s.retimed r).opening make = (s.opening make).retimed r := by
    unfold State.opening
    rw [hseat, ht, State.holdSetChange_retimed]
    split <;> rfl
  rw [State.openRecord_eq, State.openRecord_eq, hopen, State.reportConfirmed_retimed]

theorem State.pendantOpen_retimed (s r : State) (told : Bool) :
    (s.retimed r).pendantOpen told = (s.pendantOpen told).retimed r := by
  have hf : (s.retimed r).pendantFree = s.pendantFree := rfl
  have hm : (s.retimed r).mon = s.mon := rfl
  have ht : (s.retimed r).table = s.table := rfl
  unfold State.pendantOpen State.pendantTry
  rw [hf, hm, ht, State.openRecord_retimed]
  split
  · split
    · rfl
    · split
      · rfl
      · split <;> rfl
  · rfl

theorem State.refreshWarn_retimed (s r : State) : (s.retimed r).refreshWarn = s.refreshWarn.retimed r := rfl

/-! ## What a reset reads -/

/-- The START opening leaves no PENDANT record. -/
theorem State.startOpening_pendantLive (hs : s.table = .reset) : s.startOpening.pendantLive = none := by
  refine State.pendantLive_none fun x hx => ?_
  rw [State.startOpening, State.openRecord_records, hs] at hx
  obtain ⟨y, hy, rfl | rfl⟩ := mem_heardRecords hx
  · rw [List.mem_singleton.1 hy]
    exact nofun
  · rw [List.mem_singleton.1 hy]
    exact nofun

theorem State.pendantStop_none (h : s.pendantLive = none) : s.pendantStop = s.want .none := by
  have hw : (s.want .none).pendantLive = none := h
  unfold State.pendantStop
  dsimp only
  split
  · rename_i x hx
    rw [hw] at hx
    cases hx
  · rfl

theorem State.pendantAsRead_retimed (h : s.pendantLive = none) (r : State) :
    (s.retimed r).pendantAsRead = s.pendantAsRead.retimed r := by
  have hl : (s.retimed r).lines = s.lines := rfl
  have hraise : (if s.lines.pair = .lineFault then (s.retimed r).raise .sensor else s.retimed r) =
      (if s.lines.pair = .lineFault then s.raise .sensor else s).retimed r := by split <;> rfl
  unfold State.pendantAsRead
  rw [hl, hraise, State.pendantOpen_retimed, State.pendantStop_none h, State.pendantStop_none (s := s.retimed r) h]
  split <;> rfl

/-- The forces before an opening are of no account: its own run gives them (R14). -/
theorem State.holdSetChange_withForce (s : State) (f : Force) (p : Bool) : (s.withForce f).holdSetChange p = s.holdSetChange p :=
  rfl

theorem State.openRecord_withForce (s : State) (f : Force) (make : Nat → Record) :
    (s.withForce f).openRecord make = s.openRecord make := by
  have hseat : (s.withForce f).seating make = (s.seating make).withForce f := rfl
  have ht : (s.withForce f).table = s.table := rfl
  rw [State.openRecord_eq, State.openRecord_eq, State.opening, State.opening, hseat, ht, State.holdSetChange_withForce]

/-- A reset reads the profile's memory, the lines, the analog inputs and the spring currents alone (R83, R166). -/
structure State.readsAs (s r : State) : Prop where
  powered : s.powered = r.powered
  store : s.store = r.store
  lines : s.lines = r.lines
  currents : ∀ c, (s.chans.get c).current = (r.chans.get c).current
  inputs : s.meas.inputs = r.meas.inputs

/-- With every sensor UNREAD the loads are the profile's (R34, R39). -/
theorem State.loadOf_unread {n : Nat} (s : State) : Six.ofFn (s.withMeas (s.meas.reset n)).loadOf = s.staticLoads := by
  refine Six.ext_get fun c => ?_
  have hu : (s.meas.reset n).psu.get c = .unread := by simp [Measure.reset, Measure.wake]
  have hi : (s.withMeas (s.meas.reset n)).items = s.items := rfl
  simp [State.staticLoads, State.loadOf, hu, hi]

/-- The weight of a reset is the gross weight, or that of no channel at all (R40). -/
theorem State.remeasured_meas (s : State) : s.remeasured.meas =
    { s.meas.reset s.vehicle.minSupply.toNat with
      loads := s.staticLoads
      weight :=
        if (allChans.filter fun c => (s.items c).isFitted) = [] then
          min (((allChans.filter fun c => (s.items c).isFitted).map s.staticLoads.get).sum) 65000
        else s.vehicle.grossWeight.toNat } := by
  have hform : s.remeasured.meas =
      { s.meas.reset s.vehicle.minSupply.toNat with
        loads := Six.ofFn (s.withMeas (s.meas.reset s.vehicle.minSupply.toNat)).loadOf
        weight := (s.withMeas (s.meas.reset s.vehicle.minSupply.toNat)).deriveLoads.weightOf
          (Six.ofFn (s.withMeas (s.meas.reset s.vehicle.minSupply.toNat)).loadOf) } := rfl
  have hu : ∀ c, (s.withMeas (s.meas.reset s.vehicle.minSupply.toNat)).deriveLoads.meas.psu.get c = .unread := fun c => by
    simp [State.deriveLoads, Measure.reset, Measure.wake]
  have hi : (s.withMeas (s.meas.reset s.vehicle.minSupply.toNat)).deriveLoads.items = s.items := rfl
  have hv : (s.withMeas (s.meas.reset s.vehicle.minSupply.toNat)).deriveLoads.vehicle = s.vehicle := rfl
  rw [hform, State.loadOf_unread]
  unfold State.weightOf
  simp only [hu, hi, hv]
  cases allChans.filter fun c => (s.items c).isFitted <;> simp [Sensor.value]

/-- The measurements of a reset over its channels and its profile (R34, R39, R40). -/
theorem State.remeasured_congr (hc : s.chans = r.chans) (hp : s.store = r.store) (hi : s.meas.inputs = r.meas.inputs) :
    s.remeasured.meas = r.remeasured.meas := by
  have hv : s.vehicle = r.vehicle := by simp [State.vehicle, hp]
  have hit : s.items = r.items := funext fun c => by simp [State.items, hp]
  have hl : s.staticLoads = r.staticLoads := by simp [State.staticLoads, hc, hit]
  rw [State.remeasured_meas, State.remeasured_meas, hv, hit, hl]
  simp [Measure.reset, Measure.wake, Measure.endStandstill, hi]

theorem State.eta (s : State) : s =
    ⟨s.powered, s.now, s.link, s.table, s.meas, s.force, s.dist, s.chans, s.gate, s.mon, s.lines, s.ctl, s.store, s.freeCount,
      s.pending⟩ := rfl

@[simp] theorem State.blank_now (s : State) : s.blank.now = s.now := by
  simp [State.blank, State.reloaded, State.rebuilt, State.remeasured, State.emptied]

@[simp] theorem State.blank_freeCount (s : State) : s.blank.freeCount = s.freeCount := by
  simp [State.blank, State.reloaded, State.rebuilt, State.remeasured, State.emptied]

@[simp] theorem State.blank_pending (s : State) : s.blank.pending = s.pending := by
  simp [State.blank, State.reloaded, State.rebuilt, State.remeasured, State.emptied]

@[simp] theorem State.blank_chans (s : State) : s.blank.chans = s.reloaded.rebuilt.chans := by
  simp [State.blank, State.remeasured, State.emptied]

theorem State.blank_remeasured (s : State) : s.blank.meas = s.reloaded.rebuilt.remeasured.meas := by
  simp [State.blank, State.emptied]

theorem State.blank_congr (h : s.readsAs r) : s.blank = (r.blank.retimed s).withForce s.force := by
  obtain ⟨hp, hstore, hl, hc, hi⟩ := h
  have hchans : s.reloaded.rebuilt.chans = r.reloaded.rebuilt.chans := by
    refine Six.ext_get fun c => ?_
    simp [State.rebuilt, State.reloaded, State.items, State.liftLevel, hstore, hl, hc]
  have hmeas : s.reloaded.rebuilt.remeasured.meas = r.reloaded.rebuilt.remeasured.meas :=
    State.remeasured_congr hchans (by simp [State.rebuilt, State.reloaded, hstore]) hi
  have hr : (r.blank.retimed s).withForce s.force =
      ⟨r.blank.powered, s.now, r.blank.link, r.blank.table, r.blank.meas, s.force, r.blank.dist, r.blank.chans, r.blank.gate,
        r.blank.mon, r.blank.lines, r.blank.ctl, r.blank.store, s.freeCount, s.pending⟩ := rfl
  rw [hr, State.eta s.blank]
  simp [State.blank_remeasured, hp, hstore, hl, hchans, hmeas]

/-- A reset of two parts that read the same is the same, but for the clock, the free values and the queue. -/
theorem State.resetSequence_congr (h : s.readsAs r) : s.resetSequence = r.resetSequence.retimed s := by
  have hopen : s.blank.startOpening = r.blank.startOpening.retimed s := by
    rw [State.blank_congr h, State.startOpening, State.openRecord_withForce, State.openRecord_retimed]
    rfl
  rw [State.resetSequence_eq, State.resetSequence_eq, hopen,
    State.pendantAsRead_retimed (State.startOpening_pendantLive (by simp)), State.refreshWarn_retimed]

/-- Settles O5: a reset reads what the premises fix, so it is the reset of a part as it leaves the factory. -/
theorem powerOnGivesTheResetState : Obligations.PowerOnGivesTheResetState := by
  intro s hstore hlines hcurrents hinputs
  have hcommit : s.store.commit.isSome = false := by rw [hstore]; rfl
  have hexec : exec .powerOnReset s = .next ({ s with powered := true } : State).resetSequence := by
    show Host.Outcome.next s.powerOn = _
    unfold State.powerOn
    rw [if_neg (by simp [hcommit])]
  have hreads : ({ s with powered := true } : State).readsAs { Tests.beforePower with powered := true } :=
    ⟨rfl, hstore, hlines, fun c => (hcurrents c).trans (by revert c; decide), hinputs⟩
  have hfactory : ({ Tests.beforePower with powered := true } : State).resetSequence = State.reset := Tests.test_powerOn
  rw [hexec, State.resetSequence_congr hreads, hfactory]
  rfl

end Sys2Proof.Machine

/-! # What a run assigns: the sharing of R71 reaches A or every cap -/

namespace Sys2Proof.Machine

variable {s t : State}

/-! ## The sharing -/

/-- The sum of the caps of the channels that bear a load. -/
def loadedCaps (xs : List Sharer) : Nat := ((xs.filter fun x => 0 < x.load).map Sharer.cap).sum

@[simp] theorem loadedCaps_nil : loadedCaps [] = 0 := rfl

theorem loadedCaps_cons (x : Sharer) (xs : List Sharer) :
    loadedCaps (x :: xs) = (if 0 < x.load then x.cap else 0) + loadedCaps xs := by
  unfold loadedCaps
  by_cases h : 0 < x.load <;> simp [h]

theorem loadedCaps_of_unloaded {xs : List Sharer} (h : (xs.map Sharer.load).sum = 0) : loadedCaps xs = 0 := by
  induction xs with
  | nil => rfl
  | cons x xs ih =>
    rw [List.map_cons, List.sum_cons, Nat.add_eq_zero_iff] at h
    rw [loadedCaps_cons, ih h.2, h.1]
    rfl

/-- A share above 0 is that of a channel that bears a load. -/
theorem Sharer.share_unloaded {x : Sharer} (h : ¬0 < x.load) (remainder total : Nat) : x.share remainder total = 0 := by
  have h0 : x.load = 0 := by omega
  simp [Sharer.share, h0]

/-- Shares within the caps are within the caps of the channels that bear a load. -/
theorem shares_le_loadedCaps {xs : List Sharer} {remainder total : Nat} (h : ∀ x ∈ xs, x.share remainder total ≤ x.cap) :
    (xs.map fun x => x.share remainder total).sum ≤ loadedCaps xs := by
  induction xs with
  | nil => exact le_rfl
  | cons x xs ih =>
    rw [List.map_cons, List.sum_cons, loadedCaps_cons]
    have hrest := ih fun y hy => h y (List.mem_cons_of_mem _ hy)
    have hx := h x List.mem_cons_self
    split
    · omega
    · rename_i hl
      rw [Sharer.share_unloaded hl]
      omega

/-- The shares of a pass, rounded up, sum to the remainder at least (R71 step 3). -/
theorem remainder_le_shares {xs : List Sharer} (remainder : Nat) (h : (xs.map Sharer.load).sum ≠ 0) :
    remainder ≤ (xs.map fun x => x.share remainder (xs.map Sharer.load).sum).sum := by
  have hpos : 0 < (xs.map Sharer.load).sum := Nat.pos_of_ne_zero h
  have hsum : ∀ (ys : List Sharer) (total : Nat), 0 < total →
      remainder * (ys.map Sharer.load).sum ≤ (ys.map fun x => x.share remainder total).sum * total := by
    intro ys total ht
    induction ys with
    | nil => simp
    | cons y ys ih =>
      simp only [List.map_cons, List.sum_cons, Nat.mul_add, Nat.add_mul]
      exact Nat.add_le_add (le_ceilDiv_mul ht) ih
  exact Nat.le_of_mul_le_mul_right (hsum xs _ hpos) hpos

/-- The channels whose share exceeds their cap bear a load, and the rest make up the others (R71 step 4). -/
theorem loadedCaps_split (xs : List Sharer) (remainder total : Nat) :
    loadedCaps xs =
      ((xs.filter fun x => x.cap < x.share remainder total).map Sharer.cap).sum +
        loadedCaps (xs.filter fun x => x.share remainder total ≤ x.cap) := by
  induction xs with
  | nil => rfl
  | cons x xs ih =>
    rw [loadedCaps_cons, ih]
    by_cases hx : x.cap < x.share remainder total
    · have hl : 0 < x.load := by
        by_contra hn
        rw [Sharer.share_unloaded hn] at hx
        omega
      rw [List.filter_cons_of_pos (by simpa using hx), List.filter_cons_of_neg (by simpa using hx), if_pos hl, List.map_cons,
        List.sum_cons]
      omega
    · rw [List.filter_cons_of_neg (by simpa using hx), List.filter_cons_of_pos (by simpa using hx), loadedCaps_cons]
      omega

theorem exceeding_shortens {xs : List Sharer} {remainder total : Nat}
    (h : (xs.filter fun x => x.cap < x.share remainder total) ≠ []) :
    (xs.filter fun x => x.share remainder total ≤ x.cap).length < xs.length := by
  obtain ⟨x, hx⟩ := List.exists_mem_of_ne_nil _ h
  obtain ⟨hmem, hp⟩ := List.mem_filter.1 hx
  exact List.length_filter_lt_length_iff_exists.2 ⟨x, hmem, by simpa using hp⟩

theorem sum_snd_zero (xs : List Sharer) : ((xs.map fun x => (x.chan, 0)).map Prod.snd).sum = 0 := by
  induction xs with
  | nil => rfl
  | cons x xs ih => simpa using ih

/-- The sharing settles no more than every cap, and either what is needed or just that (R71, R72). -/
theorem waterFill_sum (passes need : Nat) (xs : List Sharer) (settled : List (Chan × Nat)) (hl : xs.length < passes) :
    ((waterFill passes need xs settled).map Prod.snd).sum ≤ (settled.map Prod.snd).sum + loadedCaps xs ∧
      (need ≤ ((waterFill passes need xs settled).map Prod.snd).sum ∨
        ((waterFill passes need xs settled).map Prod.snd).sum = (settled.map Prod.snd).sum + loadedCaps xs) := by
  induction passes generalizing xs settled with
  | zero => omega
  | succ passes ih =>
    unfold waterFill
    dsimp only
    split
    · rename_i h
      rw [List.map_append, List.sum_append, sum_snd_zero, Nat.add_zero]
      refine ⟨by omega, ?_⟩
      rcases h with h | h
      · exact .inl (by omega)
      · exact .inr (by rw [loadedCaps_of_unloaded h, Nat.add_zero])
    · rename_i h
      obtain ⟨-, htotal⟩ := not_or.1 h
      split
      · rename_i he
        have hle : ∀ x ∈ xs, x.share (need - (settled.map Prod.snd).sum) (xs.map Sharer.load).sum ≤ x.cap := fun x hx => by
          by_contra hn
          refine List.not_mem_nil (he ▸ List.mem_filter.2 ⟨hx, ?_⟩ : x ∈ [])
          simpa using hn
        have hup := shares_le_loadedCaps hle
        have hdown := remainder_le_shares (need - (settled.map Prod.snd).sum) htotal
        rw [List.map_append, List.sum_append, List.map_map]
        simp only [Function.comp_def]
        exact ⟨by omega, .inl (by omega)⟩
      · rename_i he
        have hlen := exceeding_shortens he
        have hsplit := loadedCaps_split xs (need - (settled.map Prod.snd).sum) (xs.map Sharer.load).sum
        have hcaps : ∀ ys : List Sharer, ((ys.map fun x => (x.chan, x.cap)).map Prod.snd).sum = (ys.map Sharer.cap).sum := by
          intro ys
          rw [List.map_map]
          rfl
        obtain ⟨h1, h2⟩ := ih _ (settled ++ (xs.filter fun x =>
          x.cap < x.share (need - (settled.map Prod.snd).sum) (xs.map Sharer.load).sum).map fun x => (x.chan, x.cap))
          (hlen.trans_le (Nat.le_of_lt_succ hl))
        rw [List.map_append, List.sum_append, hcaps] at h1 h2
        refine ⟨by omega, h2.imp_right fun h => by omega⟩

/-- The sharing settles the channels it is given, each once. -/
theorem waterFill_chans (passes need : Nat) (xs : List Sharer) (settled : List (Chan × Nat)) :
    ((waterFill passes need xs settled).map Prod.fst).Perm (settled.map Prod.fst ++ xs.map Sharer.chan) := by
  have hend : ∀ f : Sharer → Nat, ((settled ++ xs.map fun x => (x.chan, f x)).map Prod.fst) =
      settled.map Prod.fst ++ xs.map Sharer.chan := fun f => by
    rw [List.map_append, List.map_map]
    rfl
  induction passes generalizing xs settled with
  | zero => rw [waterFill, hend]
  | succ passes ih =>
    unfold waterFill
    dsimp only
    split
    · rw [hend]
    · split
      · rw [hend]
      · refine (ih _ _ fun f => by rw [List.map_append, List.map_map]; rfl).trans ?_
        rw [List.map_append, List.append_assoc, List.map_map]
        refine List.Perm.append_left _ ?_
        have hp := (List.filter_append_perm
          (fun x => decide (x.cap < x.share (need - (settled.map Prod.snd).sum) (xs.map Sharer.load).sum)) xs).map Sharer.chan
        rw [List.map_append] at hp
        refine List.Perm.trans (List.Perm.append_left _ (List.Perm.of_eq (congrArg (List.map Sharer.chan) ?_))) hp
        refine List.filter_congr fun x _ => ?_
        rw [← decide_not]
        exact decide_eq_decide.2 (Nat.not_lt).symm

end Sys2Proof.Machine

/-! # A run over a greater A is SHORT where the run before it was (R71, R73) -/

namespace Sys2Proof.Machine

variable {s t : State}

/-! ## What a run assigns -/

theorem shareIn_of_mem {shares : List (Chan × Nat)} (hn : (shares.map Prod.fst).Nodup) {x : Chan × Nat} (hx : x ∈ shares) :
    shareIn shares x.1 = x.2 := by
  induction shares with
  | nil => cases hx
  | cons y ys ih =>
    rw [List.map_cons, List.nodup_cons] at hn
    unfold shareIn
    rcases List.mem_cons.1 hx with rfl | h
    · simp
    · have hne : ¬(y.1 == x.1) = true := fun he => hn.1 (beq_iff_eq.1 he ▸ List.mem_map_of_mem h)
      rw [List.find?_cons_of_neg (p := fun z : Chan × Nat => z.1 == x.1) hne]
      exact ih hn.2 h

/-- Over the channels a sharing settles, the shares sum to what it settles. -/
theorem shareIn_sum {shares : List (Chan × Nat)} {cs : List Chan} (hp : (shares.map Prod.fst).Perm cs) (hn : cs.Nodup) :
    (cs.map (shareIn shares)).sum = (shares.map Prod.snd).sum := by
  rw [← (hp.map _).sum_eq, List.map_map]
  exact congrArg List.sum (List.map_congr_left fun x hx => shareIn_of_mem (hp.nodup_iff.2 hn) hx)

theorem sum_map_filter {α : Type} (l : List α) (p : α → Bool) (f : α → Nat) :
    ((l.filter p).map f).sum = (l.map fun x => if p x then f x else 0).sum := by
  induction l with
  | nil => rfl
  | cons x l ih => by_cases h : p x <;> simp [h, ih]

theorem sum_map_add {α : Type} (l : List α) (f g : α → Nat) :
    (l.map fun x => f x + g x).sum = (l.map f).sum + (l.map g).sum := by
  induction l with
  | nil => rfl
  | cons x l ih =>
    simp only [List.map_cons, List.sum_cons, ih]
    omega

theorem State.commandOf_spring (s : State) (loads : Six Nat) (shares : List (Chan × Nat)) (c : Chan) :
    (s.commandOf loads shares c).spring = if s.eligible c && s.springsApplied c then s.springForce loads c else 0 := by
  unfold State.commandOf
  cases s.eligible c
  · rfl
  · cases s.springsApplied c
    · simp only [Bool.true_and, if_true, Bool.false_eq_true, if_false]
      split <;> rfl
    · rfl

theorem State.commandOf_share (s : State) (loads : Six Nat) (shares : List (Chan × Nat)) (c : Chan) :
    (s.commandOf loads shares c).share = if s.eligible c && !s.springsApplied c then shareIn shares c else 0 := by
  unfold State.commandOf
  cases s.eligible c
  · rfl
  · cases s.springsApplied c
    · simp only [if_true, Bool.false_eq_true, if_false]
      split
      · rename_i h
        exact h.symm
      · rfl
    · rfl

/-- The channels a run shares A over, in their order. -/
theorem State.sharers_chans (s : State) (loads : Six Nat) :
    (s.sharers loads).map Sharer.chan = s.inE.filter fun c => !s.springsApplied c := by
  unfold State.sharers
  rw [List.map_map]
  exact List.map_id _

theorem allChans_nodup : allChans.Nodup := by decide

theorem State.sharers_length (s : State) (loads : Six Nat) : (s.sharers loads).length < maxPasses := by
  have h1 := List.length_filter_le (fun c => !s.springsApplied c) s.inE
  have h2 : s.inE.length ≤ 6 := List.length_filter_le _ allChans
  have h3 : (s.sharers loads).length = (s.inE.filter fun c => !s.springsApplied c).length := List.length_map _
  unfold maxPasses
  omega

/-- The assigned forces of a run: K_c of the channels requested SPRING, and the shares (R63, R73). -/
theorem State.distribution_total (s : State) (loads : Six Nat) :
    (s.distribution loads).total = s.springTotal loads + ((s.shares loads).map Prod.snd).sum := by
  have htotal : (s.distribution loads).total =
      (allChans.map fun c => (s.commandOf loads (s.shares loads) c).spring + (s.commandOf loads (s.shares loads) c).share).sum :=
    rfl
  have hperm : ((s.shares loads).map Prod.fst).Perm (s.inE.filter fun c => !s.springsApplied c) := by
    rw [← s.sharers_chans loads]
    exact waterFill_chans maxPasses _ _ []
  have hnodup : (s.inE.filter fun c => !s.springsApplied c).Nodup := (allChans_nodup.filter _).filter _
  rw [htotal, sum_map_add, ← shareIn_sum hperm hnodup, State.springTotal, State.inE, List.filter_filter, List.filter_filter,
    sum_map_filter, sum_map_filter]
  simp only [State.commandOf_spring, State.commandOf_share, Bool.and_comm]

/-! ## SHORT grows with A -/

theorem State.distribution_short_none_iff (loads : Six Nat) :
    (s.distribution loads).short = none ↔ s.table.applied ≤ (s.distribution loads).total := by
  refine ⟨shortOf_none, fun h => ?_⟩
  show shortOf _ _ _ _ = none
  unfold shortOf
  exact if_pos h

/-- A run is SHORT just where A exceeds all it can assign (R71, R73). -/
theorem State.distribution_short_iff (loads : Six Nat) :
    (s.distribution loads).short.isSome = true ↔ s.springTotal loads + loadedCaps (s.sharers loads) < s.table.applied := by
  obtain ⟨hle, hor⟩ := waterFill_sum maxPasses (s.table.applied - s.springTotal loads) (s.sharers loads) [] (s.sharers_length loads)
  have htotal := s.distribution_total loads
  have hnone := s.distribution_short_none_iff loads
  unfold State.shares at htotal
  rw [List.map_nil, List.sum_nil, Nat.zero_add] at hle hor
  rw [← Option.ne_none_iff_isSome, ne_eq, hnone, htotal]
  omega

/-- Two parts with the same profile, measurements, holds and channels in E: where A is no less, SHORT stays. -/
theorem State.distribution_short_mono (hp : s.store = t.store) (hm : s.meas = t.meas)
    (hr : parkLive s.table.records = parkLive t.table.records) (he : ∀ c, s.eligible c = t.eligible c)
    (ha : s.table.applied ≤ t.table.applied) {loads : Six Nat} (h : (s.distribution loads).short.isSome = true) :
    (t.distribution loads).short.isSome = true := by
  have hel : s.eligible = t.eligible := funext he
  have hitems : s.items = t.items := funext fun c => by simp [State.items, hp]
  have hv : s.vehicle = t.vehicle := by simp [State.vehicle, hp]
  have hlow : s.lowSupply = t.lowSupply := funext fun c => by simp [State.lowSupply, hitems, hm]
  have hE : s.inE = t.inE := by simp [State.inE, hel]
  have hsp : s.springsApplied = t.springsApplied := funext fun c => by simp [State.springsApplied, hitems, hr, hlow]
  have hfr : s.friction loads = t.friction loads := funext fun c => by simp [State.friction, hv]
  have havail : s.avail = t.avail := funext fun c => by simp [State.avail, hitems, hm]
  have hcap : s.cap loads = t.cap loads := funext fun c => by simp [State.cap, hfr, hitems, havail]
  have hk : s.springForce loads = t.springForce loads := funext fun c => by simp [State.springForce, hitems, hfr]
  have htotal : s.springTotal loads = t.springTotal loads := by simp [State.springTotal, hE, hsp, hk]
  have hsharers : s.sharers loads = t.sharers loads := by simp [State.sharers, hE, hsp, hcap]
  rw [State.distribution_short_iff] at h ⊢
  rw [← htotal, ← hsharers]
  omega

end Sys2Proof.Machine

/-! # What a reset leaves: the START opening, and the pendant's beside it (O6) -/

namespace Sys2Proof.Machine

variable {s t u b : State}

/-! ## The channels of a reset -/

/-- A channel as a reset leaves it: nothing driven, nothing confirmed, no fault and no override (R83). -/
structure Channel.unused (ch : Channel) : Prop where
  latch : ch.latch = false
  dutyInForce : ch.dutyInForce = 0
  cause : ch.cause = none
  override : ch.override = .none
  confirmed : ch.confirmed = false

theorem Channel.rebuilt_unused (v : ChannelItems) (raised current : Bool) (c : Chan) :
    (Channel.rebuilt v raised current c).unused := ⟨rfl, rfl, rfl, rfl, rfl⟩

/-- A command that applies the springs a channel has leaves it as unused as it was (R82, R87). -/
theorem Channel.unused_command {ch : Channel} (h : ch.unused) {v : ChannelItems} {r : Requested} (hr : v.springs = true → r = .spring)
    (forced : Bool) (duty frozen : Nat) : (ch.command v forced r duty frozen).unused := by
  have ho : outputsOf v ch.override r duty frozen = ⟨r.state, r.latch v.springs, if r = .service then duty else 0, false⟩ := by
    rw [h.override]
    rfl
  have hlatch : r.latch v.springs = false := by
    unfold Requested.latch
    cases hv : v.springs
    · rfl
    · rw [hr hv]
      rfl
  refine ⟨?_, h.dutyInForce, h.cause, h.override, ?_⟩
  · show (outputsOf v ch.override r duty frozen).latch = false
    rw [ho]
    exact hlatch
  · show (outputsOf v ch.override r duty frozen).atOnce = false
    rw [ho]

/-- In case P a channel with springs is requested SPRING (R67). -/
theorem State.distribution_spring (hp : parkLive s.table.records = true) (loads : Six Nat) {c : Chan} {r : Requested}
    (hr : ((s.distribution loads).cmds.get c).requested = some r) (hs : (s.items c).springs = true) : r = .spring := by
  have happlied : s.springsApplied c = true := by simp [State.springsApplied, hs, hp]
  simp only [State.distribution, Six.get_ofFn, State.commandOf, happlied, if_true] at hr
  split at hr
  · exact (Option.some.inj hr).symm
  · cases hr

theorem State.handOver_unused (hp : parkLive s.table.records = true) (h : ∀ c, (s.chans.get c).unused) (loads : Six Nat)
    (fresh : Bool) (c : Chan) : ((s.handOver (s.distribution loads) fresh).get c).unused := by
  unfold State.handOver
  rw [Six.get_ofFn]
  dsimp only
  split
  · rename_i r hr
    split
    · exact Channel.unused_command (h c) (State.distribution_spring hp loads hr) _ _ _
    · exact h c
  · exact h c

/-- A distribution over channels that are not confirmed is not (R9). -/
theorem State.unconfirmed (h : ∀ c, (s.chans.get c).unused) : s.distConfirmed = false := by
  unfold State.distConfirmed
  cases hE : s.inE with
  | nil => rfl
  | cons c cs => simp [(h c).confirmed]

theorem State.reportConfirmed_unused (h : ∀ c, (s.chans.get c).unused) : s.reportConfirmed = s := by
  unfold State.reportConfirmed
  rw [State.unconfirmed h]
  rfl

/-! ## The notices of a reset -/

/-- The link as a reset leaves it, but for the notices of SENSOR and SHORT (R166, R185). -/
def State.quiet (s : State) : Prop := ∃ p : Byte, p &&& 0xDB = 0 ∧ s.link = { Link.reset with pending := p }

theorem State.quiet_congr (hl : t.link = s.link) (h : s.quiet) : t.quiet := by
  obtain ⟨p, hp, hs⟩ := h
  exact ⟨p, hp, hl.trans hs⟩

theorem State.quiet_raise (hm : s.ctl.mode ≠ .run) {src : Source} (hb : src.bit &&& 0xDB = 0) (h : s.quiet) :
    (s.raise src).quiet := by
  obtain ⟨p, hp, hl⟩ := h
  refine ⟨p ||| src.bit, by rw [BitVec.and_or_distrib_right, hp, hb]; rfl, ?_⟩
  have hrun : (s.ctl.mode == .run) = false := by simpa using hm
  unfold State.raise
  dsimp only
  rw [State.withLink_link, hl, hrun]
  rfl

theorem State.quiet_raiseShort (hm : s.ctl.mode ≠ .run) (before : Option ShortKind) (h : s.quiet) :
    (s.raiseShort before).quiet := by
  unfold State.raiseShort
  split
  · exact State.quiet_raise hm (by decide) h
  · exact h

/-- SHORT is told just where it is set, before a run and after it, where a run does not clear it (R74). -/
theorem State.raiseShort_bit {before : Option ShortKind} (hb : s.link.pending.getLsbD 2 = before.isSome)
    (hkept : before.isSome = true → s.dist.short.isSome = true) :
    (s.raiseShort before).link.pending.getLsbD 2 = s.dist.short.isSome := by
  unfold State.raiseShort
  cases before with
  | none =>
    cases hs : s.dist.short with
    | none => simpa using hb
    | some k => simp [Source.bit]
  | some k =>
    rw [hkept rfl]
    exact hb

/-! ## A run in a reset -/

/-- The part in a reset, over the part `b` with its table still empty: what no opening changes, and what each leaves
(R6, R166). -/
structure State.restarted (b s : State) : Prop where
  powered : s.powered = b.powered
  ctl : s.ctl = b.ctl
  lines : s.lines = b.lines
  store : s.store = b.store
  meas : s.meas = b.meas
  gate : s.gate = .idle
  chans : ∀ c, (s.chans.get c).unused
  quiet : s.quiet
  short : s.link.pending.getLsbD 2 = s.dist.short.isSome

theorem State.restarted_congr (h : b.restarted s) (hp : t.powered = s.powered) (hk : t.ctl = s.ctl) (hl : t.lines = s.lines)
    (hs : t.store = s.store) (hm : t.meas = s.meas) (hg : t.gate = s.gate) (hc : t.chans = s.chans) (hn : t.link = s.link)
    (hd : t.dist = s.dist) : b.restarted t where
  powered := hp.trans h.powered
  ctl := hk.trans h.ctl
  lines := hl.trans h.lines
  store := hs.trans h.store
  meas := hm.trans h.meas
  gate := hg.trans h.gate
  chans := by rw [hc]; exact h.chans
  quiet := State.quiet_congr hn h.quiet
  short := by rw [hn, hd]; exact h.short

/-- A run over a PARK hold that clears no SHORT, in a reset (R62, R74). -/
theorem State.restarted_distribute (h : b.restarted s) (hm : s.ctl.mode ≠ .run) (hp : parkLive s.table.records = true)
    (hkept : s.dist.short.isSome = true → (s.distribution s.meas.loads).short.isSome = true) :
    b.restarted s.distribute ∧ s.distribute.mon = s.mon := by
  obtain ⟨x, hx⟩ : ∃ x, x = (s.withChans (s.handOver (s.distribution s.meas.loads) false)).withDist (s.distribution s.meas.loads) :=
    ⟨_, rfl⟩
  have hrun : s.distribute = (x.raiseShort s.dist.short).reportConfirmed := by rw [hx]; rfl
  have hunused : ∀ c, (x.chans.get c).unused := by
    rw [hx]
    exact State.handOver_unused hp h.chans _ _
  have hsame : s.distribute = x.raiseShort s.dist.short := by
    rw [hrun]
    exact State.reportConfirmed_unused (by simpa using hunused)
  have hxd : x.dist = s.distribution s.meas.loads := by rw [hx]; rfl
  have hxl : x.link = s.link := by rw [hx]; rfl
  rw [hsame]
  refine ⟨⟨?_, ?_, ?_, ?_, ?_, ?_, ?_, ?_, ?_⟩, ?_⟩
  · simpa [hx] using h.powered
  · simpa [hx] using h.ctl
  · simpa [hx] using h.lines
  · simpa [hx] using h.store
  · simpa [hx] using h.meas
  · simpa [hx] using h.gate
  · simpa using hunused
  · exact State.quiet_raiseShort (by rw [hx]; exact hm) _ (State.quiet_congr hxl h.quiet)
  · rw [State.raiseShort_bit (by rw [hxl]; exact h.short) (by rw [hxd]; exact hkept), State.raiseShort_dist]
  · rw [State.raiseShort_mon, hx]
    rfl

/-! ## An opening in a reset -/

theorem greatest_le_append (req : HoldClass → Nat) (xs ys : List Record) : greatest req xs ≤ greatest req (xs ++ ys) := by
  induction xs with
  | nil => exact Nat.zero_le _
  | cons x xs ih => exact max_le_max le_rfl ih

/-- A run and its distribution where no report is heard. -/
theorem State.settled_congr (h : s.settled) (hp : t.store = s.store) (hm : t.meas = s.meas) (hc : t.chans = s.chans)
    (hd : t.dist = s.dist) (ha : t.table.applied = s.table.applied)
    (hr : parkLive t.table.records = parkLive s.table.records) : t.settled := by
  unfold State.settled
  rw [hd, h, hm]
  exact State.distribution_congr hp.symm hm.symm ha.symm hr.symm (fun c => State.eligible_congr hp.symm (by rw [hc])) _

/-- A hold-set change with a PARK hold live, in a reset: the first, or one that lowers no requirement (R28, R62). -/
theorem State.restarted_holdSetChange (h : b.restarted s) (hm : s.ctl.mode ≠ .run) (hp : parkLive s.table.records = true)
    {parkBefore : Bool}
    (hq : s.dist.short = none ∧ parkBefore = false ∨ s.settled ∧ s.table.applied ≤ s.calculate.fReq) :
    b.restarted (s.holdSetChange parkBefore) ∧ (s.holdSetChange parkBefore).settled ∧
      (s.holdSetChange parkBefore).mon = s.mon := by
  obtain ⟨x, hx⟩ : ∃ x, x = (s.withForce s.calculate).withTable
    { s.table with applied := s.calculate.fReq, relief := .stopped } := ⟨_, rfl⟩
  have hxr : b.restarted x := State.restarted_congr h (by rw [hx]; rfl) (by rw [hx]; rfl) (by rw [hx]; rfl) (by rw [hx]; rfl)
    (by rw [hx]; rfl) (by rw [hx]; rfl) (by rw [hx]; rfl) (by rw [hx]; rfl) (by rw [hx]; rfl)
  have hxstore : x.store = s.store := by rw [hx]; rfl
  have hxmeas : x.meas = s.meas := by rw [hx]; rfl
  have hxchans : x.chans = s.chans := by rw [hx]; rfl
  have hxdist : x.dist = s.dist := by rw [hx]; rfl
  have hxmon : x.mon = s.mon := by rw [hx]; rfl
  have hxctl : x.ctl = s.ctl := by rw [hx]; rfl
  have hxapplied : x.table.applied = s.calculate.fReq := by rw [hx]; rfl
  have hxrecords : x.table.records = s.table.records := by rw [hx]; rfl
  have hcases := s.holdSetChange_cases parkBefore
  dsimp only at hcases
  rw [← hx] at hcases
  rcases hcases with ⟨he, ha, hpark⟩ | he
  · rw [he]
    rcases hq with ⟨-, hno⟩ | ⟨hs, -⟩
    · rw [hno, hp] at hpark
      cases hpark
    · exact ⟨hxr, State.settled_congr hs hxstore hxmeas hxchans hxdist (hxapplied.trans ha) (by rw [hxrecords]), hxmon⟩
  · rw [he]
    obtain ⟨hr, hmon⟩ := State.restarted_distribute hxr (by rwa [hxctl]) (by rwa [hxrecords]) fun hshort => by
      rcases hq with ⟨hno, -⟩ | ⟨hs, hle⟩
      · rw [hxdist, hno] at hshort
        cases hshort
      · rw [hxdist, hs, ← hxmeas] at hshort
        exact State.distribution_short_mono hxstore.symm hxmeas.symm (by rw [hxrecords])
          (fun c => State.eligible_congr hxstore.symm (by rw [hxchans])) (by rwa [hxapplied]) hshort
    exact ⟨hr, State.distribute_settled x, hmon.trans hxmon⟩

/-- An opening that leaves a PARK hold live, in a reset: no report is heard after it (R9, R14). -/
theorem State.restarted_openRecord (h : b.restarted s) (hm : s.ctl.mode ≠ .run) {make : Nat → Record}
    (hn : ∀ r ∈ s.table.records, r.state ≠ .releasing) (hp : parkLive (s.table.records ++ [make s.table.newHandle]) = true)
    (hq : s.dist.short = none ∧ s.table.records = [] ∨ s.settled ∧ s.freshForce ∧ parkLive s.table.records = true) :
    b.restarted (s.openRecord make) ∧ (s.openRecord make).settled ∧
      (s.openRecord make).mon = (if s.table.records = [] then s.mon.setReference else s.mon) ∧
      (s.openRecord make).table.records = s.table.records ++ [make s.table.newHandle] := by
  have hgone : s.table.records.filter Record.isReleasing = [] :=
    List.filter_eq_nil_iff.2 fun r hr => by simp [Record.isReleasing, hn r hr]
  obtain ⟨x, hx⟩ : ∃ x, x = s.seating make := ⟨_, rfl⟩
  have hxrecords : x.table.records = s.table.records ++ [make s.table.newHandle] := by
    rw [hx, State.seating_table, notReleasing_eq_self hn]
  have hxmon : x.mon = s.mon := by rw [hx, State.seating_mon, hgone]; rfl
  have hxgate : x.gate = s.gate := by rw [hx, State.seating_gate, hgone]; rfl
  have hxr : b.restarted x := State.restarted_congr h (by rw [hx]; rfl) (by rw [hx]; rfl) (by rw [hx]; rfl) (by rw [hx]; rfl)
    (by rw [hx]; rfl) hxgate (by rw [hx]; rfl) (by rw [hx]; rfl) (by rw [hx]; rfl)
  have hxctl : x.ctl = s.ctl := by rw [hx]; rfl
  have hxdist : x.dist = s.dist := by rw [hx]; rfl
  have hxq : x.dist.short = none ∧ parkLive s.table.records = false ∨ x.settled ∧ x.table.applied ≤ x.calculate.fReq := by
    rcases hq with ⟨hno, hnil⟩ | ⟨hs, ⟨hf, ha⟩, hpark⟩
    · exact .inl ⟨by rw [hxdist, hno], by rw [hnil]; rfl⟩
    · refine .inr ⟨State.settled_congr hs (by rw [hx]; rfl) (by rw [hx]; rfl) (by rw [hx]; rfl) hxdist (by rw [hx]; rfl)
        (by rw [hxrecords, hp, hpark]), ?_⟩
      have hle : s.calculate.fReq ≤ x.calculate.fReq := by
        show greatest _ s.table.records ≤ greatest _ x.table.records
        rw [hxrecords]
        have hreq : ∀ base, requirement x.vehicle base = requirement s.vehicle base := fun base => by rw [hx]; rfl
        have hmeas : x.meas = s.meas := by rw [hx]; rfl
        have hveh : x.vehicle = s.vehicle := by rw [hx]; rfl
        rw [hmeas, hveh]
        exact greatest_le_append _ _ _
      have hxa : x.table.applied = s.table.applied := by rw [hx]; rfl
      rw [hxa, ha, hf]
      exact hle
  obtain ⟨hr, hs, hmon⟩ := State.restarted_holdSetChange hxr (by rwa [hxctl]) (by rwa [hxrecords]) hxq
  obtain ⟨v, hv⟩ : ∃ v, v = s.opening make := ⟨_, rfl⟩
  have hvr : b.restarted v ∧ v.settled ∧ v.mon = (if s.table.records = [] then s.mon.setReference else s.mon) := by
    rw [hv, State.opening, ← hx]
    split
    · refine ⟨State.restarted_congr hr rfl rfl rfl rfl rfl rfl rfl rfl rfl, hs, ?_⟩
      rw [State.withMon_mon, hmon, hxmon]
    · exact ⟨hr, hs, hmon.trans hxmon⟩
  have hopen : s.openRecord make = v := by
    rw [State.openRecord_eq, ← hv, State.reportConfirmed_unused hvr.1.chans]
  refine ⟨by rw [hopen]; exact hvr.1, by rw [hopen]; exact hvr.2.1, by rw [hopen]; exact hvr.2.2, ?_⟩
  rw [State.openRecord_records, hopen, State.unconfirmed hvr.1.chans, notReleasing_eq_self hn]
  rfl

end Sys2Proof.Machine

/-! # What a reset leaves (O6) -/

namespace Sys2Proof.Machine

variable {s t : State}

/-! ## The profile and the weight -/

/-- The profile is loaded from the image where its mark is set, its CRC matches and its values are accepted (R192). -/
theorem Store.load_eq (p : Store) : p.load =
    if p.mark = true ∧ p.image.crc = p.crc ∧ p.image.inRanges = true ∧ p.image.constraints = true then
      { p with working := p.image, invalid := false }
    else { p with working := .builtIn, invalid := true } := by
  unfold Store.load
  simp only [Bool.and_eq_true, beq_iff_eq, and_assoc]

/-- A profile within its constraints fits a channel (R196). -/
theorem Profile.fits_of_constraints {p : Profile} (h : p.constraints = true) :
    (allChans.filter fun c => (p.channels.get c).isFitted) ≠ [] := by
  unfold Profile.constraints at h
  simp only [Bool.and_eq_true, List.any_eq_true] at h
  obtain ⟨-, c, hc, hf, -⟩ := h
  exact List.ne_nil_of_mem (List.mem_filter.2 ⟨hc, hf⟩)

/-- The weight of a reset is the gross weight (R40). -/
theorem State.blank_weight (s : State) : s.blank.meas.weight = s.blank.vehicle.grossWeight.toNat := by
  have hstore : s.reloaded.rebuilt.store = s.store.load := by simp [State.rebuilt, State.reloaded]
  have hfits : (allChans.filter fun c => (s.reloaded.rebuilt.items c).isFitted) ≠ [] := by
    have hp := Profile.fits_of_constraints s.store.load_sound.2
    rw [← hstore] at hp
    exact hp
  have hv : s.blank.vehicle = s.reloaded.rebuilt.vehicle := by simp [State.vehicle, hstore]
  rw [State.blank_remeasured, State.remeasured_meas, if_neg hfits, hv]

/-! ## The START opening and the pendant's -/

theorem State.blank_restarted (s : State) : s.blank.restarted s.blank where
  powered := rfl
  ctl := rfl
  lines := rfl
  store := rfl
  meas := rfl
  gate := by simp
  chans c := by
    rw [State.blank_chans, State.rebuilt, State.withChans_chans, Six.get_ofFn]
    exact Channel.rebuilt_unused _ _ _ _
  quiet := ⟨0, rfl, by simp [Link.reset]⟩
  short := by simp [Link.reset, Distribution.empty]

/-- The record of START (R6). -/
def startRecord : Record := ⟨1, .monitor, .park, .engaging, some .start, none, none, false⟩

/-- What the openings of a reset leave, over the records and the next handle they end with (R6, R26). -/
structure State.restart (b s : State) (records : List Record) (next : Nat) : Prop where
  restarted : b.restarted s
  settled : s.settled
  fresh : s.freshForce
  mon : s.mon = b.mon.setReference
  records : s.table.records = records
  nextHandle : s.table.nextHandle = next
  relief : s.table.relief = .stopped

theorem State.startOpening_restart (s : State) : s.blank.restart s.blank.startOpening [startRecord] 2 := by
  have htable : s.blank.table = .reset := by simp
  obtain ⟨hr, hs, hmon, hrecords⟩ := State.restarted_openRecord s.blank_restarted (by simp [Control.reset])
    (make := monitorRecord .start) (by rw [htable]; exact nofun) (by rw [htable]; rfl)
    (.inl ⟨by simp [Distribution.empty], by rw [htable]; rfl⟩)
  refine ⟨hr, hs, State.openRecord_freshForce _ _, ?_, ?_, ?_, State.openRecord_relief _ _⟩
  · rw [State.startOpening, hmon, if_pos (by rw [htable]; rfl)]
  · rw [State.startOpening, hrecords, htable]
    rfl
  · rw [State.startOpening, State.openRecord_nextHandle, htable]
    rfl

/-- The pair a reset reads asks, but for PA low with PB high (R140, R143). -/
theorem pairOf_asks (pa pb : Bool) : (pairOf pa pb).asks = true ↔ ¬(pa = false ∧ pb = true) := by
  cases pa <;> cases pb <;> decide

/-- The SENSOR notice of a LINE_FAULT leaves the rest (R140, R143). -/
theorem State.restart_raise {b : State} {records : List Record} {next : Nat} (h : b.restart s records next)
    (hm : s.ctl.mode ≠ .run) : b.restart (s.raise .sensor) records next where
  restarted :=
    { powered := by simpa using h.restarted.powered
      ctl := by simpa using h.restarted.ctl
      lines := by simpa using h.restarted.lines
      store := by simpa using h.restarted.store
      meas := by simpa using h.restarted.meas
      gate := by simpa using h.restarted.gate
      chans := by simpa using h.restarted.chans
      quiet := State.quiet_raise hm (by decide) h.restarted.quiet
      short := by simpa [Source.bit] using h.restarted.short }
  settled := State.settled_congr h.settled (by simp) (by simp) (by simp) (by simp) (by simp) (by simp)
  fresh := State.freshForce_congr (by simp) (by simp) (by simp) (by simp) (by simp) h.fresh
  mon := by simpa using h.mon
  records := by simpa using h.records
  nextHandle := by simpa using h.nextHandle
  relief := by simpa using h.relief

theorem Monitor.setReference_want {m : Monitor} (h : m.pendantWant = .none) :
    { m.setReference with pendantWant := .none } = m.setReference := by
  rw [← h]
  rfl

/-- The openings of a reset leave the monitor but for its reference (R126). -/
theorem State.restart_withMon {b : State} {records : List Record} {next : Nat} (hr : b.restarted s) (hs : s.settled)
    (hf : s.freshForce) (ht : s.table.records = records) (hn : s.table.nextHandle = next) (hl : s.table.relief = .stopped)
    {m : Monitor} (hm : m = b.mon.setReference) : b.restart (s.withMon m) records next where
  restarted := State.restarted_congr hr rfl rfl rfl rfl rfl rfl rfl rfl rfl
  settled := hs
  fresh := State.freshForce_withMon m hf
  mon := hm
  records := ht
  nextHandle := hn
  relief := hl

/-- The pendant's opening beside START (R26, R143). -/
theorem State.restart_pendantOpen {b : State} (h : b.restart s [startRecord] 2) (hm : s.ctl.mode ≠ .run)
    (hmo : b.mon.motion = .creeping) (hw : b.mon.pendantWant = .none) :
    b.restart (s.pendantOpen false)
      [startRecord, ⟨2, .pendant, .firm, .engaging, none, none, none, false⟩] 3 := by
  have hfree : s.pendantFree = true := by
    rw [State.pendantFree, State.pendantLive_none (by rw [h.records]; decide)]
    rfl
  have hcreeping : s.mon.motion ≠ .moving := by
    rw [h.mon]
    show b.mon.motion ≠ .moving
    rw [hmo]
    exact nofun
  have hroom : nonMonitorCount s.table.records < 12 := by rw [h.records]; decide
  have hhandle : s.table.newHandle = 2 := by
    rw [HoldTable.newHandle, h.records, h.nextHandle]
    decide
  obtain ⟨hr, hs, hmon, hrecords⟩ := State.restarted_openRecord h.restarted hm (make := pendantRecord)
    (by rw [h.records]; decide) (by rw [h.records]; rfl) (.inr ⟨h.settled, h.fresh, by rw [h.records]; rfl⟩)
  have hopen : s.pendantOpen false = (s.openRecord pendantRecord).want .none := by
    rw [State.pendantOpen, if_pos hfree, if_neg hcreeping, State.pendantTry, if_pos hroom]
  have hsame : (s.openRecord pendantRecord).mon = b.mon.setReference := by
    rw [hmon, h.records, if_neg (List.cons_ne_nil _ _), h.mon]
  rw [hopen]
  refine State.restart_withMon hr hs (State.openRecord_freshForce _ _) ?_ ?_ (State.openRecord_relief _ _) ?_
  · rw [hrecords, h.records, hhandle]
    rfl
  · rw [State.openRecord_nextHandle, hhandle]
    rfl
  · rw [hsame]
    exact Monitor.setReference_want hw

/-- A pair that does not ask gives up nothing beside START (R142, R143). -/
theorem State.restart_pendantStop {b : State} (h : b.restart s [startRecord] 2) (hw : b.mon.pendantWant = .none) :
    b.restart s.pendantStop [startRecord] 2 := by
  rw [State.pendantStop_none (State.pendantLive_none (by rw [h.records]; decide))]
  exact State.restart_withMon h.restarted h.settled h.fresh h.records h.nextHandle h.relief
    (by rw [h.mon]; exact Monitor.setReference_want hw)

theorem State.pendantAsRead_restart (s : State) :
    s.blank.restart s.blank.startOpening.pendantAsRead
      (startRecord :: (if s.lines.pa = false ∧ s.lines.pb = true then []
        else [⟨2, .pendant, .firm, .engaging, none, none, none, false⟩]))
      (if s.lines.pa = false ∧ s.lines.pb = true then 2 else 3) := by
  have h := s.startOpening_restart
  have hm : s.blank.startOpening.ctl.mode ≠ .run := by simp [Control.reset]
  have hw : s.blank.mon.pendantWant = .none := by simp [Monitor.reset]
  have hpair : s.blank.startOpening.lines.pair = pairOf s.lines.pa s.lines.pb := by simp [Lines.settle]
  unfold State.pendantAsRead
  rw [hpair]
  by_cases ha : s.lines.pa = false ∧ s.lines.pb = true
  · rw [if_pos ha, if_pos ha, if_neg fun hasks => (pairOf_asks _ _).1 hasks ha]
    exact State.restart_pendantStop h hw
  · rw [if_neg ha, if_neg ha, if_pos ((pairOf_asks _ _).2 ha)]
    refine State.restart_pendantOpen ?_ ?_ (by simp [Monitor.reset]) hw
    · split
      · exact State.restart_raise h hm
      · exact h
    · split
      · exact hm
      · exact hm

/-! ## The reset -/

/-- A reset that acts is the reset sequence of the powered part (R165, R167). -/
theorem exec_resets {i : Instr} (h : s.resetsBy i) : exec i s = .next ({ s with powered := true } : State).resetSequence := by
  obtain ⟨hcommit, rfl | ⟨rfl, ht, hmode⟩⟩ := h
  · show Host.Outcome.next s.powerOn = _
    unfold State.powerOn
    rw [if_neg (by simp [hcommit])]
  · have hadmitted : Request.reset.admitted s.ctl.mode = true := by
      rcases hmode with h | h <;> rw [h] <;> rfl
    have hpowered : ({ s with powered := true } : State) = s := by
      rw [← ht.1]
    rw [exec_own ht (r := .reset) rfl hadmitted, hpowered, if_neg (by simp [hcommit])]
    rfl

/-- The measurements of a reset (R32, R34, R38, R43, R44). -/
theorem State.blank_measures (s : State) :
    s.blank.meas.grade = 600 ∧ s.blank.meas.window = [] ∧ s.blank.meas.implausible = 0 ∧ s.blank.meas.forced = false ∧
      s.blank.meas.drum = .mix ∧ s.blank.meas.cRep = none ∧ s.blank.meas.driveAge = .stopped ∧
      s.blank.meas.sampleTimer = .running 0 ∧
      (∀ c, s.blank.meas.psv.get c = .unread ∧ s.blank.meas.psu.get c = .unread) ∧
      s.blank.meas.supplyA.sensor = .unread ∧ s.blank.meas.supplyB.sensor = .unread := by
  obtain ⟨loads, weight, hm, -⟩ := s.blank_meas
  rw [hm]
  exact ⟨rfl, rfl, rfl, rfl, rfl, rfl, rfl, rfl, fun c => ⟨Six.get_const _ c, Six.get_const _ c⟩, rfl, rfl⟩

/-- The lines a channel that is not driven shows (R84, R85). -/
theorem State.unused_drives {c : Chan} (h : (s.chans.get c).unused) : s.springDrive c = false ∧ s.serviceDrive c = 0 := by
  refine ⟨by simp [State.springDrive, h.latch], ?_⟩
  unfold State.serviceDrive
  split
  · exact h.dutyInForce
  · rfl

/-- Settles O6: the reset sequence makes the START opening and the pendant's over the reset values, and its end shows WARN. -/
theorem resetLeaves : Obligations.ResetLeaves := by
  intro i s hres
  obtain ⟨b, hb⟩ : ∃ b, b = ({ s with powered := true } : State).blank := ⟨_, rfl⟩
  obtain ⟨x, hx⟩ : ∃ x, x = b.startOpening.pendantAsRead := ⟨_, rfl⟩
  have hexec : exec i s = .next x.refreshWarn := by rw [exec_resets hres, State.resetSequence_eq, ← hb, ← hx]
  have hrestart : b.restart x
      (startRecord :: (if s.lines.pa = false ∧ s.lines.pb = true then []
        else [⟨2, .pendant, .firm, .engaging, none, none, none, false⟩]))
      (if s.lines.pa = false ∧ s.lines.pb = true then 2 else 3) := by
    rw [hx, hb]
    exact State.pendantAsRead_restart _
  obtain ⟨hr, hsettled, hfresh, hmon, hrecords, hnext, hrelief⟩ := hrestart
  have hctl : x.ctl = .reset := by rw [hr.ctl, hb, State.blank_ctl]
  have hbmon : b.mon = .reset s.lines.seat.raw := by rw [hb, State.blank_mon]; rfl
  have hstore : x.store = s.store.load := by rw [hr.store, hb, State.blank_store]
  obtain ⟨hgrade, hwindow, himplausible, hforced, hdrum, hcRep, hdrive, hsample, hsensors, hsupplyA, hsupplyB⟩ :=
    ({ s with powered := true } : State).blank_measures
  have hweight := ({ s with powered := true } : State).blank_weight
  rw [← hb, ← hr.meas] at hgrade hwindow himplausible hforced hdrum hcRep hdrive hsample hsensors hsupplyA hsupplyB hweight
  have hgross : b.vehicle.grossWeight = x.store.working.vehicle.grossWeight := by rw [hr.store]; rfl
  obtain ⟨p, hp, hlink⟩ := hr.quiet
  have hmonitor : x.refreshWarn.mon = { (Monitor.reset s.lines.seat.raw).setReference with warn := x.warnNext } := by
    rw [← hbmon, ← hmon]
    rfl
  refine ⟨x.refreshWarn, hexec, ?_, hctl, ?_, hr.gate, ⟨hrecords, hnext, hrelief⟩, ?_, ⟨hsettled, hr.short⟩, fun c => ?_,
    ⟨hgrade, hwindow, himplausible, hforced, hdrum, hcRep, hdrive, hsample, hsensors, hsupplyA, hsupplyB, ?_⟩, ?_⟩
  · exact hr.powered.trans (by rw [hb, State.blank_powered])
  · have hquiet : x.refreshWarn.link = { Link.reset with pending := p } := hlink
    rw [hquiet]
    exact ⟨rfl, rfl, hp, rfl, rfl, rfl, rfl⟩
  · exact State.freshForce_withMon _ hfresh
  · obtain ⟨hspring, hservice⟩ := State.unused_drives (s := x.refreshWarn) (hr.chans c)
    have hunused := hr.chans c
    exact ⟨hunused.latch, hunused.dutyInForce, hunused.cause, hunused.override, hunused.confirmed, hspring, hservice⟩
  · exact hweight.trans (by rw [hgross]; rfl)
  · rw [State.countersAtZero, hmonitor]
    refine ⟨rfl, rfl, rfl, rfl, rfl, rfl, rfl, rfl, rfl, fun c => ?_, rfl, hstore.trans s.store.load_eq⟩
    simp [Monitor.setReference, Monitor.zeroCounters]

end Sys2Proof.Machine

/-! # The grade and its window (O37) -/

namespace Sys2Proof.Machine

variable {s t : State} {m m' : Measure}

/-! ## The figures of a window (R35, R36) -/

theorem joinWindow_eq_joined (window : List Int) (x : Int) : joinWindow window x = joined window x := by
  unfold joinWindow joined
  dsimp only
  rw [List.length_append, List.length_singleton]
  split
  · rfl
  · rw [Nat.sub_eq_zero_of_le (by omega), List.drop_zero]

theorem joined_ne_nil (window : List Int) (x : Int) : joined window x ≠ [] := by
  unfold joined
  rw [ne_eq, List.drop_eq_nil_iff, List.length_append, List.length_singleton]
  omega

/-- The mean of R36 is the sum's sixteenth, rounded away from zero. -/
theorem meanOf_isMean (window : List Int) : isMean window (meanOf window) := by
  have hle : window.sum.natAbs ≤ ceilDiv window.sum.natAbs 16 * 16 := le_ceilDiv_mul (by omega)
  have hlt : ceilDiv window.sum.natAbs 16 * 16 < window.sum.natAbs + 16 := ceilDiv_mul_lt (by omega)
  unfold isMean meanOf
  generalize ceilDiv window.sum.natAbs 16 = q at hle hlt
  rcases Int.lt_trichotomy window.sum 0 with hs | hs | hs
  · rw [Int.sign_eq_neg_one_of_neg hs]; omega
  · simp [hs]
  · rw [Int.sign_eq_one_of_pos hs]; omega

/-- From a best entry on, the scan ends at it, where every later one is smaller, or at the window's worst (R36). -/
theorem worstOf_cases (best : Int) (window : List Int) :
    (worstOf best window = best ∧ ∀ x ∈ window, x.natAbs < best.natAbs) ∨
      (isWorst window (worstOf best window) ∧ best.natAbs ≤ (worstOf best window).natAbs) := by
  induction window generalizing best with
  | nil => exact .inl ⟨rfl, by simp⟩
  | cons x xs ih =>
    unfold worstOf
    split
    · rename_i hx
      right
      rcases ih x with ⟨he, hall⟩ | ⟨⟨older, newer, hw, ho, hn⟩, hle⟩
      · rw [he]
        exact ⟨⟨[], xs, rfl, by simp, hall⟩, hx⟩
      · generalize worstOf x xs = g at hw ho hn hle
        exact ⟨⟨x :: older, newer, by rw [hw]; rfl, by simpa using ⟨hle, ho⟩, hn⟩, hx.trans hle⟩
    · rename_i hx
      rcases ih best with ⟨he, hall⟩ | ⟨⟨older, newer, hw, ho, hn⟩, hle⟩
      · exact .inl ⟨he, by simpa using ⟨by omega, hall⟩⟩
      · generalize worstOf best xs = g at hw ho hn hle
        exact .inr ⟨⟨x :: older, newer, by rw [hw]; rfl, by simpa using ⟨by omega, ho⟩, hn⟩, hle⟩

theorem worstOf_isWorst {window : List Int} (h : window ≠ []) : isWorst window (worstOf 0 window) := by
  rcases worstOf_cases 0 window with ⟨-, hall⟩ | ⟨hw, -⟩
  · obtain ⟨x, hx⟩ := List.exists_mem_of_ne_nil window h
    simpa using hall x hx
  · exact hw

/-- G of a window: the mean of a full one, the worst entry of any other, and over an empty one as it was (R36). -/
theorem gradeOf_leaves (frozen : Int) (window : List Int) :
    (window.length = 16 → isMean window (gradeOf frozen window)) ∧ (window = [] → gradeOf frozen window = frozen) ∧
      (window ≠ [] → window.length ≠ 16 → isWorst window (gradeOf frozen window)) := by
  refine ⟨fun h => ?_, fun h => by simp [gradeOf, h], fun hne h => ?_⟩
  · rw [gradeOf, if_pos h]
    exact meanOf_isMean window
  · rw [gradeOf, if_neg h, if_neg hne]
    exact worstOf_isWorst hne

/-! ## A reading at standstill (R35 to R37) -/

theorem plausible_iff {x : Int} : plausible x = true ↔ x.natAbs ≤ 600 := by simp [plausible]

/-- Two measurements have the grade in common: window, count, flag and G. -/
def Measure.sameGrade (m m' : Measure) : Prop :=
  m.window = m'.window ∧ m.implausible = m'.implausible ∧ m.forced = m'.forced ∧ m.grade = m'.grade

/-- A reading acts on the grade by the grade alone. -/
theorem Measure.takeGrade_sameGrade (h : m.sameGrade m') (x : Int) : (m.takeGrade x).sameGrade (m'.takeGrade x) := by
  obtain ⟨hw, hi, hf, hg⟩ := h
  unfold Measure.takeGrade
  rw [hw, hi, hf, hg]
  dsimp only
  repeat' split
  all_goals exact ⟨rfl, rfl, rfl, rfl⟩

/-- A plausible reading joins the window, and G follows it (R35 to R37). -/
theorem Measure.takeGrade_plausible (m : Measure) {x : Int} (hx : x.natAbs ≤ 600) :
    (m.takeGrade x).window = joined m.window x ∧ (m.takeGrade x).implausible = 0 ∧
      ((m.takeGrade x).window.length = 16 →
        (m.takeGrade x).forced = false ∧ isMean (m.takeGrade x).window (m.takeGrade x).grade) ∧
      ((m.takeGrade x).window.length ≠ 16 →
        (m.takeGrade x).forced = m.forced ∧ (m.forced = true → (m.takeGrade x).grade = 600) ∧
          (m.forced = false → isWorst (m.takeGrade x).window (m.takeGrade x).grade)) := by
  obtain ⟨hmean, -, hworst⟩ := gradeOf_leaves m.grade (joined m.window x)
  have hne := joined_ne_nil m.window x
  unfold Measure.takeGrade
  rw [if_pos (plausible_iff.2 hx)]
  dsimp only
  rw [joinWindow_eq_joined]
  cases hf : m.forced with
  | true =>
    by_cases hl : (joined m.window x).length = 16
    · simp [hl, meanOf_isMean]
    · simp [hl]
  | false => simpa [hf] using ⟨hmean, hworst hne⟩

/-- An implausible reading counts, and the fifth in a row forces G (R37). -/
theorem Measure.takeGrade_implausible (m : Measure) {x : Int} (hx : 600 < x.natAbs) :
    (m.forced = true →
        (m.takeGrade x).forced = true ∧ (m.takeGrade x).window = [] ∧ (m.takeGrade x).grade = 600) ∧
      (m.forced = false → m.implausible < 4 →
        (m.takeGrade x).forced = false ∧ (m.takeGrade x).window = m.window ∧
          (m.takeGrade x).implausible = m.implausible + 1 ∧ (m.takeGrade x).grade = gradeOf m.grade m.window) ∧
      (m.forced = false → 4 ≤ m.implausible →
        (m.takeGrade x).forced = true ∧ (m.takeGrade x).window = [] ∧ (m.takeGrade x).implausible = 0 ∧
          (m.takeGrade x).grade = 600) := by
  have hp : ¬plausible x = true := by rw [plausible_iff]; omega
  unfold Measure.takeGrade
  rw [if_neg hp]
  refine ⟨fun hf => by simp [hf], fun hf hi => ?_, fun hf hi => ?_⟩
  · rw [if_neg (by simp [hf]), if_pos (by omega)]
    exact ⟨hf, rfl, rfl, rfl⟩
  · rw [if_neg (by simp [hf]), if_neg (by omega)]
    exact ⟨rfl, rfl, rfl, rfl⟩

/-! ## A sample -/

theorem State.measured_taken (s : State) (r : SampleSet) : (s.measured r).meas.sameGrade (s.taken r) := by
  rw [State.measured_meas]
  exact ⟨rfl, rfl, rfl, rfl⟩

/-- Off standstill a sample leaves the grade (R35). -/
theorem State.measured_grade_off (r : SampleSet) (hm : s.mon.motion ≠ .standstill) :
    (s.measured r).meas.sameGrade s.meas := by
  have ht : (s.taken r).sameGrade s.meas := by
    simp [State.taken, State.atStandstill, hm, Measure.sameGrade]
  obtain ⟨hw, hi, hf, hg⟩ := s.measured_taken r
  obtain ⟨hw', hi', hf', hg'⟩ := ht
  exact ⟨hw.trans hw', hi.trans hi', hf.trans hf', hg.trans hg'⟩

/-- At standstill a sample's accelerometer reading acts on the grade (R35 to R37). -/
theorem State.measured_grade_at (r : SampleSet) (hm : s.mon.motion = .standstill) :
    (s.measured r).meas.sameGrade (s.meas.takeGrade r.acx) := by
  have ht : (s.taken r).sameGrade (s.meas.takeGrade r.acx) := by
    simp only [State.taken, State.atStandstill, hm, beq_self_eq_true, if_true]
    refine Measure.takeGrade_sameGrade ?_ _
    exact ⟨rfl, rfl, rfl, rfl⟩
  obtain ⟨hw, hi, hf, hg⟩ := s.measured_taken r
  obtain ⟨hw', hi', hf', hg'⟩ := ht
  exact ⟨hw.trans hw', hi.trans hi', hf.trans hf', hg.trans hg'⟩

/-- An implausible reading at standstill raises SENSOR (R37). -/
theorem State.measured_implausible (r : SampleSet) (hm : s.mon.motion = .standstill) (hx : 600 < r.acx.natAbs) :
    (s.measured r).link.pending.getLsbD 5 = true := by
  have hp : plausible r.acx = false := by
    rw [Bool.eq_false_iff, ne_eq, plausible_iff]
    omega
  unfold State.measured State.measure
  dsimp only
  rw [State.withMeas_link]
  exact State.raiseIf_bits _ _ _ _ (by simp [State.raiseIf, State.atStandstill, hm, hp, Source.bit])

/-- Settles O37: the grade of a sample is the reading's act on the window, and nothing that follows in the event touches
it. -/
theorem gradeFollowsTheWindow : Obligations.GradeFollowsTheWindow := by
  intro s r hp hm hn
  have hd : s.sampleDue = true := State.sampleDue_iff.2 ⟨hm, hn⟩
  obtain ⟨t, ht⟩ : ∃ t, t = State.conclude (s.shown r) ((s.shown r).sample r) := ⟨_, rfl⟩
  obtain ⟨hmeas, hbits, -⟩ := State.sample_leaves ht
  refine ⟨t, by rw [exec_sampleArrival hp, hd, ht]; rfl, fun hoff => ?_, fun hst hx => ?_, fun hst hx => ?_⟩
  · rw [hmeas]
    exact State.measured_grade_off (s := s.shown r) r hoff
  · obtain ⟨hw, hi, hf, hg⟩ := State.measured_grade_at (s := s.shown r) r hst
    rw [hmeas, hw, hi, hf, hg]
    exact (s.shown r).meas.takeGrade_plausible hx
  · obtain ⟨hw, hi, hf, hg⟩ := State.measured_grade_at (s := s.shown r) r hst
    obtain ⟨hforced, hcounts, hfifth⟩ := (s.shown r).meas.takeGrade_implausible hx
    obtain ⟨hmean, hempty, hworst⟩ := gradeOf_leaves s.meas.grade s.meas.window
    refine ⟨hbits 5 (State.measured_implausible (s := s.shown r) r hst hx), ?_⟩
    rw [hmeas, hw, hi, hf, hg]
    refine ⟨hforced, fun hnf hc => ?_, hfifth⟩
    obtain ⟨h1, h2, h3, h4⟩ := hcounts hnf hc
    rw [h4]
    exact ⟨h1, h2, h3, hempty, hmean, hworst⟩

end Sys2Proof.Machine

/-! # SLEEP, taken and entered (O24) -/

namespace Sys2Proof.Machine

variable {s t : State}

/-- Every exchange is taken by the one rule of R163 and R164, with the meaning of its own request (R169). -/
theorem exec_isExchange {i : Instr} (h : isExchange i = true) :
    ∃ take : State → State, ∀ s, exec i s = .next (s.exchange take) := by
  cases i <;> cases h <;> exact ⟨_, fun _ => rfl⟩

/-- The conditions of SLEEP as the part tests them (R162). -/
theorem State.sleepConditions_iff : s.sleepConditions = true ↔ s.maySleep := by
  simp [State.sleepConditions, State.maySleep, State.atStandstill, and_assoc]

/-! ## The end of an exchange while sleep is pending (R163) -/

theorem State.exchange_enters (hp : s.powered = true) (hm : s.ctl.mode ≠ .sleep) (hs : s.ctl.sleepPending = true)
    (hc : s.maySleep) (take : State → State) : s.exchange take = State.conclude s s.enterSleep := by
  simp [State.exchange, hp, hm, hs, State.sleepConditions_iff.2 hc]

theorem State.exchange_stays (hp : s.powered = true) (hm : s.ctl.mode ≠ .sleep) (hs : s.ctl.sleepPending = true)
    (hc : ¬s.maySleep) (take : State → State) :
    s.exchange take = ({ s with ctl := { s.ctl with sleepPending := false } } : State).exchange take := by
  have hno : ¬s.sleepConditions = true := fun h => hc (State.sleepConditions_iff.1 h)
  have htakes : ({ s with ctl := { s.ctl with sleepPending := false } } : State).takes := ⟨hp, hm, rfl⟩
  rw [State.exchange_takes htakes, State.exchange, if_neg (by simp [hp]), if_neg hm, if_pos hs, if_neg hno]
  rfl

theorem exec_sleepEntry_enters (hp : s.powered = true) (hs : s.ctl.sleepPending = true) (hc : s.maySleep) :
    exec .sleepEntry s = .next (State.conclude s s.enterSleep) := by
  show Host.Outcome.next (if s.powered ∧ s.ctl.sleepPending then _ else s) = _
  rw [if_pos ⟨hp, hs⟩, if_pos (State.sleepConditions_iff.2 hc)]

theorem exec_sleepEntry_stays (hp : s.powered = true) (hs : s.ctl.sleepPending = true) (hc : ¬s.maySleep) :
    exec .sleepEntry s = .next { s with ctl := { s.ctl with sleepPending := false } } := by
  show Host.Outcome.next (if s.powered ∧ s.ctl.sleepPending then _ else s) = _
  rw [if_pos ⟨hp, hs⟩, if_neg fun h => hc (State.sleepConditions_iff.1 h)]
  rfl

/-! ## The entry into SLEEP (R163) -/

/-- The entry leaves the table's records, so its event ends with WARN alone. -/
theorem State.conclude_enterSleep (s : State) : State.conclude s s.enterSleep = s.enterSleep.refreshWarn :=
  State.conclude_of_table rfl

theorem State.enterSleep_warn (s : State) : s.enterSleep.refreshWarn.mon.warn = .off := rfl

/-- SLEEP forces every output (R86). -/
theorem State.sleep_drives (hm : s.ctl.mode = .sleep) (c : Chan) : s.serviceDrive c = 0 ∧ s.springDrive c = false := by
  simp [State.serviceDrive, State.springDrive, State.forced, hm]

theorem State.enterSleep_chan (s : State) (c : Chan) : (s.enterSleep.chans.get c) = (s.chans.get c).sleep := by
  show (Six.ofFn fun d => (s.chans.get d).sleep).get c = _
  rw [Six.get_ofFn]

/-- Settles O24: both moments ask for the same conditions, and the entry is one event that no opening follows. -/
theorem sleepIsTakenAndEntered : Obligations.SleepIsTakenAndEntered := by
  refine ⟨fun s ht hm => ?_, fun s hp hm hs => ⟨fun hc => ⟨?_, fun i hi => ?_⟩, fun hc => ⟨?_, fun i hi => ?_⟩⟩⟩
  · have hown := exec_own (i := .sleep) (r := .sleep) ht rfl (by rw [hm]; rfl)
    refine ⟨fun hc => ?_, fun hc => ?_⟩
    · rw [hown, if_pos (State.sleepConditions_iff.2 hc)]
      rfl
    · rw [hown, if_neg fun h => hc (State.sleepConditions_iff.1 h)]
      rfl
  · refine ⟨s.enterSleep.refreshWarn, ?_, rfl, rfl, rfl, rfl, rfl, rfl, rfl, s.enterSleep_warn, rfl, rfl, fun c => ?_⟩
    · rw [exec_sleepEntry_enters hp hs hc, State.conclude_enterSleep]
    · obtain ⟨hservice, hspring⟩ := State.sleep_drives (s := s.enterSleep.refreshWarn) rfl c
      exact ⟨hservice, hspring, s.enterSleep_chan c⟩
  · obtain ⟨take, he⟩ := exec_isExchange hi
    rw [he, exec_sleepEntry_enters hp hs hc, State.exchange_enters hp hm hs hc]
  · exact exec_sleepEntry_stays hp hs hc
  · obtain ⟨take, he⟩ := exec_isExchange hi
    rw [he, he, State.exchange_stays hp hm hs hc]

end Sys2Proof.Machine

/-! # Wheel pulses (O50) -/

namespace Sys2Proof.Machine

variable {s t : State} {n : Chan}

/-! ## What no hold moves in the monitor -/

/-- The course of the truck as the monitor keeps it: the part that the holds leave aside, but for what the pendant wants, and
the moment of each input's last pulse. -/
def Monitor.course (m : Monitor) : Monitor.Aside × Six (Option Nat) :=
  ({ m.aside with pendantWant := .none }, Six.ofFn fun c => (m.wheels.get c).lastPulse)

@[simp] theorem Monitor.course_secure (m : Monitor) : m.secure.course = m.course := rfl

@[simp] theorem Monitor.course_setReference (m : Monitor) : m.setReference.course = m.course := rfl

@[simp] theorem Monitor.course_emptied (m : Monitor) (b : Bool) : (m.emptied b).course = m.course := by cases b <;> rfl

@[simp] theorem Monitor.course_retired (m : Monitor) (gone : List Record) : (m.retired gone).course = m.course := by
  unfold Monitor.retired; dsimp only; repeat' split
  all_goals rfl

@[simp] theorem State.reportConfirmed_course (s : State) : s.reportConfirmed.mon.course = s.mon.course := by
  rcases s.reportConfirmed_mon with h | h <;> simp [h]

@[simp] theorem State.distributeWith_course (s : State) (loads : Six Nat) (fresh : Bool) :
    (s.distributeWith loads fresh).mon.course = s.mon.course := by
  rcases s.distributeWith_mon loads fresh with h | h <;> simp [h]

@[simp] theorem State.holdSetChange_course (s : State) (parkBefore : Bool) :
    (s.holdSetChange parkBefore).mon.course = s.mon.course := by
  rcases s.holdSetChange_mon parkBefore with h | h <;> simp [h]

@[simp] theorem State.retire_course (s : State) (h : Nat) (driveOff : Bool) :
    (s.retire h driveOff).mon.course = s.mon.course := by
  rw [State.retire_eq]
  split <;> simp

@[simp] theorem State.openRecord_course (s : State) (make : Nat → Record) :
    (s.openRecord make).mon.course = s.mon.course := by
  rw [State.openRecord_eq]
  unfold State.opening
  split <;> simp

@[simp] theorem State.want_course (s : State) (w : PendantWant) : (s.want w).mon.course = s.mon.course := rfl

theorem Sequel.course (h : Sequel s t) : t.mon.course = s.mon.course :=
  h.keep (P := fun t => t.mon.course = s.mon.course) rfl (fun _ _ hu => by simpa using hu)
    (fun _ _ _ hu => by simpa using hu) fun _ _ _ hu => hu

@[simp] theorem State.gateEvaluate_course (s : State) : s.gateEvaluate.mon.course = s.mon.course := by
  unfold State.gateEvaluate State.driveOff
  split <;> simp

@[simp] theorem State.gateDecide_course (s : State) : s.gateDecide.mon.course = s.mon.course := by
  unfold State.gateDecide
  dsimp only
  repeat' split
  all_goals simp

@[simp] theorem State.release_course (s : State) (r : Record) : (s.release r).mon.course = s.mon.course := by
  unfold State.release State.gateArm
  dsimp only
  repeat' split
  all_goals simp

@[simp] theorem State.pendantOpen_course (s : State) (told : Bool) : (s.pendantOpen told).mon.course = s.mon.course := by
  unfold State.pendantOpen State.pendantTry
  repeat' split
  all_goals simp

@[simp] theorem State.pendantStop_course (s : State) : s.pendantStop.mon.course = s.mon.course := by
  unfold State.pendantStop
  dsimp only
  repeat' split
  all_goals simp

@[simp] theorem State.pendantAsRead_course (s : State) : s.pendantAsRead.mon.course = s.mon.course := by
  unfold State.pendantAsRead
  repeat' split
  all_goals simp

/-- A wake sets the driver as the SEAT line reads, and moves nothing else of the course (R125, R137). -/
theorem State.wakeUp_course (s : State) :
    s.wakeUp.mon.course =
      ({ s.mon.course.1 with driverPresent := s.lines.seat.raw, seatTimer := .stopped }, s.mon.course.2) := by
  have hrun : s.waking.mon.course =
      ({ s.mon.course.1 with driverPresent := s.lines.seat.raw, seatTimer := .stopped }, s.mon.course.2) := by
    have hc := State.distributeWith_course s.roused.rewired.deriveWeight s.roused.rewired.deriveWeight.meas.loads true
    have hm : s.roused.rewired.deriveWeight.mon = s.mon := rfl
    have hl : s.waking.mon.driverPresent = s.lines.seat.raw := by simp [State.waking, State.rewired, State.roused, Lines.settle, Line.settle]
    rw [hm] at hc
    rw [← hc, ← hl]
    rfl
  rw [State.wakeUp_eq, State.pendantAsRead_course, hrun]

/-- A limit pulse moves the rollaway stage and the holds alone (R129). -/
@[simp] theorem State.limitPulse_course (s : State) : s.limitPulse.mon.course = s.mon.course := by
  unfold State.limitPulse
  split
  · exact (sequel_monitorOpening (s.withMon { s.mon with stage := .caught }) .rollaway).course
  · rfl
  · rfl
  · rfl

/-! ## A pulse in its parts (R123) -/

/-- The part once a pulse is counted, before what a limit pulse does. -/
def State.pulsed (s : State) (n : Chan) : State :=
  (s.pulseMotion n).withMon ((s.pulseMotion n).mon.count n s.vehicle.creepLimit.toNat)

/-- The wheel inputs after the motion of a pulse. -/
theorem State.pulseMotion_wheels (s : State) (n : Chan) :
    (s.pulseMotion n).mon.wheels = s.mon.wheels.put n { s.mon.wheels.get n with lastPulse := some s.now } := by
  unfold State.pulseMotion
  dsimp only
  split <;> rfl

theorem State.pulseMotion_ref (s : State) (n : Chan) : (s.pulseMotion n).mon.ref = s.mon.ref := by
  unfold State.pulseMotion
  dsimp only
  split <;> rfl

/-- The pulse counted is a limit pulse just where the model's own test says so (R128). -/
theorem State.limitOn_iff :
    (s.pulseMotion n).mon.limitOn n s.vehicle.creepLimit.toNat = true ↔ s.limitBy n := by
  simp [Monitor.limitOn, State.limitBy, State.pulseMotion_wheels, State.pulseMotion_ref, Wheel.counted, creepMax, and_assoc]

/-- A pulse that is no limit pulse is counted, and no more. -/
theorem State.pulse_counts (h : ¬s.limitBy n) : s.pulse n = s.pulsed n := by
  have hv : (s.pulseMotion n).vehicle = s.vehicle := by simp [State.vehicle]
  unfold State.pulse
  dsimp only
  rw [hv, if_neg fun hl => h (State.limitOn_iff.1 hl)]
  rfl

/-- A limit pulse acts on a part that is awake, or has been waked for it (R129, R164). -/
theorem State.pulse_limit (h : s.limitBy n) :
    s.pulse n = (if s.awake then s.pulsed n else (s.pulsed n).wakeUp).limitPulse := by
  have hv : (s.pulseMotion n).vehicle = s.vehicle := by simp [State.vehicle]
  have ha : (s.pulsed n).awake = s.awake := by simp [State.awake, State.pulsed]
  rw [← ha]
  unfold State.pulse
  dsimp only
  rw [hv, if_pos (State.limitOn_iff.2 h)]
  rfl

/-- The monitor once a pulse is counted (R123, R128). -/
theorem State.pulsed_mon (s : State) (n : Chan) :
    (s.pulsed n).mon =
      (s.mon.pulse n s.now (Config.ms s.vehicle.movingInterval.toNat)).count n s.vehicle.creepLimit.toNat := by
  unfold State.pulsed State.pulseMotion
  dsimp only
  split <;> rfl

/-- The end of standstill is told to the Measurement Unit (R35, R37). -/
theorem State.pulsed_meas (s : State) (n : Chan) :
    (s.pulsed n).meas = if s.mon.motion = .standstill then s.meas.endStandstill else s.meas := by
  unfold State.pulsed State.pulseMotion State.atStandstill
  simp only [beq_iff_eq]
  split <;> rfl

/-- Counting moves no part of the course. -/
theorem Monitor.count_course (m : Monitor) (limit : Nat) : (m.count n limit).course = m.course := by
  unfold Monitor.count
  split
  · rfl
  · refine Prod.ext rfl (Six.ext_get fun c => ?_)
    show ((Six.ofFn _).get c : Option Nat) = (Six.ofFn _).get c
    rw [Six.get_ofFn, Six.get_ofFn, Six.get_put]
    split
    · rename_i h
      rw [h]
    · rfl

/-- The course after a pulse, whatever the pulse does besides (R122, R123, R139). -/
structure State.ridesTo (s t : State) (n : Chan) : Prop where
  standstill : t.mon.standstill = .running 0
  lastPulse : (t.mon.wheels.get n).lastPulse = some s.now
  moving : t.mon.moving = s.mon.movingAfter n s.now (Config.ms s.vehicle.movingInterval.toNat)
  motion : t.mon.motion = if t.mon.moving.isSome then .moving else .creeping
  autopark : t.mon.autopark = if s.mon.motion = .standstill then .stopped else s.mon.autopark

theorem State.ridesTo_pulsed (s : State) (n : Chan) : s.ridesTo (s.pulsed n) n := by
  have hc : (s.pulsed n).mon.course = (s.mon.pulse n s.now (Config.ms s.vehicle.movingInterval.toNat)).course := by
    rw [State.pulsed_mon, Monitor.count_course]
  have hl := congrArg (fun x => Six.get x.2 n) hc
  simp only [Monitor.course, Six.get_ofFn, Monitor.pulse, Six.get_put_same] at hl
  exact ⟨congrArg (fun x => x.1.standstill) hc, hl, congrArg (fun x => x.1.moving) hc,
    (congrArg (fun x => x.1.motion) hc).trans (by rw [show (s.pulsed n).mon.moving = _ from congrArg (fun x => x.1.moving) hc]; rfl),
    congrArg (fun x => x.1.autopark) hc⟩

/-- A later state of the same course. -/
theorem State.ridesTo_of {u : State} (h : s.ridesTo u n) (hd : ∃ p x, t.mon.course =
    ({ u.mon.course.1 with driverPresent := p, seatTimer := x }, u.mon.course.2)) : s.ridesTo t n := by
  obtain ⟨p, x, hc⟩ := hd
  have hstandstill : t.mon.standstill = u.mon.standstill := congrArg (fun x => x.1.standstill) hc
  have hmoving : t.mon.moving = u.mon.moving := congrArg (fun x => x.1.moving) hc
  have hmotion : t.mon.motion = u.mon.motion := congrArg (fun x => x.1.motion) hc
  have hautopark : t.mon.autopark = u.mon.autopark := congrArg (fun x => x.1.autopark) hc
  have hlast : (t.mon.wheels.get n).lastPulse = (u.mon.wheels.get n).lastPulse := by
    simpa [Monitor.course] using congrArg (fun x => Six.get x.2 n) hc
  exact ⟨hstandstill.trans h.standstill, hlast.trans h.lastPulse, hmoving.trans h.moving,
    by rw [hmotion, hmoving, h.motion], hautopark.trans h.autopark⟩

theorem State.ridesTo_pulse (s : State) (n : Chan) : s.ridesTo (s.pulse n) n := by
  by_cases hl : s.limitBy n
  · rw [State.pulse_limit hl]
    refine State.ridesTo_of (s.ridesTo_pulsed n) ?_
    rw [State.limitPulse_course]
    split
    · exact ⟨_, _, rfl⟩
    · exact ⟨_, _, (s.pulsed n).wakeUp_course⟩
  · rw [State.pulse_counts hl]
    exact s.ridesTo_pulsed n

/-- The end of standstill empties the window, whether or not the pulse wakes the part (R35, R37). -/
theorem State.pulse_meas (s : State) (n : Chan) :
    (s.mon.motion = .standstill → (s.pulse n).meas.window = [] ∧ (s.pulse n).meas.implausible = 0) ∧
      (s.mon.motion ≠ .standstill → s.ctl.mode ≠ .sleep → (s.pulse n).meas = s.meas) := by
  have hpulsed : (s.mon.motion = .standstill → (s.pulsed n).meas.window = [] ∧ (s.pulsed n).meas.implausible = 0) ∧
      (s.mon.motion ≠ .standstill → (s.pulsed n).meas = s.meas) := by
    rw [State.pulsed_meas]
    exact ⟨fun h => by rw [if_pos h]; exact ⟨rfl, rfl⟩, fun h => if_neg h⟩
  obtain ⟨hat, hoff⟩ := hpulsed
  by_cases hl : s.limitBy n
  · rw [State.pulse_limit hl, State.limitPulse_meas]
    refine ⟨fun h => ?_, fun h hm => ?_⟩
    · split
      · exact hat h
      · obtain ⟨loads, t, -, hw⟩ := (s.pulsed n).waking_meas
        rw [State.wakeUp_eq, State.pendantAsRead_meas, hw]
        exact ⟨rfl, rfl⟩
    · rw [if_pos (by simpa [State.awake] using hm)]
      exact hoff h
  · rw [State.pulse_counts hl]
    exact ⟨hat, fun h _ => hoff h⟩

/-- The first pulse of an input has no interval to judge (R123). -/
theorem Monitor.movingAfter_first {m : Monitor} {now interval : Nat} (h : (m.wheels.get n).lastPulse = none) :
    m.movingAfter n now interval = m.moving := by
  simp [Monitor.movingAfter, Monitor.shortInterval, h]

/-- A short interval starts the moving timer, and any other leaves it (R123). -/
theorem Monitor.movingAfter_next {m : Monitor} {now interval last : Nat} (h : (m.wheels.get n).lastPulse = some last) :
    m.movingAfter n now interval = if now - last < interval then some interval else m.moving := by
  simp [Monitor.movingAfter, Monitor.shortInterval, h]

/-- A counted pulse touches its own input alone, and leaves its mark unless it is a limit pulse (R128). -/
theorem State.pulsed_counts (h : ¬s.limitBy n) :
    ((s.pulsed n).mon.wheels.get n).reached = (s.mon.wheels.get n).reached ∧
      ((s.pulsed n).mon.wheels.get n).creep =
        (if s.mon.ref = .clear then (s.mon.wheels.get n).creep else min ((s.mon.wheels.get n).creep + 1) 40) ∧
      (∀ m, m ≠ n → (s.pulsed n).mon.wheels.get m = s.mon.wheels.get m) ∧ (s.pulsed n).mon.ref = s.mon.ref := by
  have hw := s.pulseMotion_wheels n
  have hr := s.pulseMotion_ref n
  have hno : (s.pulseMotion n).mon.limitOn n s.vehicle.creepLimit.toNat = false := by
    rw [Bool.eq_false_iff, ne_eq, State.limitOn_iff]
    exact h
  rw [State.pulsed, State.withMon_mon, Monitor.count, hr]
  by_cases hc : s.mon.ref = .clear
  · rw [if_pos hc, if_pos hc, hw, hr]
    exact ⟨by simp, by simp, fun m hm => by simp [hm], rfl⟩
  · rw [if_neg hc, if_neg hc, hno, hw]
    exact ⟨by simp, by simp [Wheel.counted, creepMax], fun m hm => by simp [hm], rfl⟩

/-- Settles O50: the course of the truck is a pulse's own, whatever wakes or opens in its event; a pulse that is no limit pulse
leaves the rest as it was. -/
theorem pulsesAreCounted : Obligations.PulsesAreCounted := by
  intro s n hp
  have hexec : exec (.wheelPulse n) s = .next (State.conclude s (s.pulse n)) := by
    show Host.Outcome.next (s.event fun t => t.pulse n) = _
    rw [State.event_powered hp]
  have hq := sequel_conclude s (s.pulse n)
  have hride : s.ridesTo (State.conclude s (s.pulse n)) n :=
    State.ridesTo_of (s.ridesTo_pulse n) ⟨_, _, hq.course⟩
  obtain ⟨hat, hoff⟩ := s.pulse_meas n
  obtain ⟨-, hnow, -⟩ := hq.keepsRest
  refine ⟨_, hexec, hexec, hride.standstill, hride.lastPulse, ?_, fun h => ?_, fun h => ?_, fun h => ?_, fun h hm => ?_,
    fun hl => ?_, ?_, ?_⟩
  · rw [hride.moving]
    cases hlast : (s.mon.wheels.get n).lastPulse with
    | none => exact Monitor.movingAfter_first hlast
    | some last => exact Monitor.movingAfter_next hlast
  · rw [hride.motion, if_pos h]
  · rw [hride.motion, h]
    rfl
  · obtain ⟨hwindow, hcount⟩ := hat h
    rw [hq.meas, hride.autopark, if_pos h]
    exact ⟨hwindow, hcount, rfl⟩
  · rw [hq.meas, hride.autopark, if_neg h]
    exact ⟨rfl, hoff h hm⟩
  · have ht : State.conclude s (s.pulse n) = (s.pulsed n).refreshWarn := by
      rw [State.pulse_counts hl, State.conclude_of_table (by simp [State.pulsed])]
    obtain ⟨hreached, hcreep, hothers, href⟩ := State.pulsed_counts hl
    rw [ht]
    refine ⟨by simp [State.pulsed], by simp [State.pulsed], by simp [State.pulsed], by simp [State.pulsed], href,
      fun h => ?_, hreached, hcreep, hothers⟩
    show (s.pulsed n).mon.inhibit = false
    rw [State.pulsed_mon]
    unfold Monitor.count
    split <;> simp [Monitor.pulse, h]
  · rw [hnow]
    simp
  · rw [hq.store]
    simp

end Sys2Proof.Machine

/-! # An armed gate, through the events that it judges (O32) -/

namespace Sys2Proof.Machine

variable {s t u v w m : State} {x : Record} {b : Bool} {c : Chan} {before : Six Sensor}

/-! ## The one record under an armed gate -/

/-- The gate is armed over the one live record, which is RELEASING (6.2). -/
structure State.armedOver (s : State) (x : Record) : Prop where
  armed : s.gate.armed = true
  handle : s.gate.handle = x.handle
  records : s.table.records = [x]
  releasing : x.state = .releasing

theorem State.armedOver_of (hs : s.holdsSound) (ha : s.gate.armed = true) : ∃ x, s.armedOver x := by
  obtain ⟨hrec, hlen, -⟩ := State.gateSoundIf_armed (State.holdsSoundIf_true.2 hs).2 ha
  obtain ⟨x, hx⟩ := List.length_eq_one_iff.1 hlen
  obtain ⟨hst, hh⟩ := hrec x (by simp [hx])
  exact ⟨x, ha, hh.symm, hx, hst⟩

/-- A report changes no record that is RELEASING (R9). -/
theorem heardRecords_of_releasing (b : Bool) {records : List Record} (h : ∀ r ∈ records, r.state = .releasing) :
    heardRecords b records = records := by
  cases b
  · rfl
  · exact (List.map_congr_left fun r hr => by simp [Record.hold, h r hr]).trans (List.map_id _)

theorem State.armedOver_heard (h : s.armedOver x) (b : Bool) : heardRecords b s.table.records = s.table.records :=
  heardRecords_of_releasing b (by simp [h.records, h.releasing])

/-- The supply cause of the armed gate, as R112 has it. -/
theorem State.supplyCauseHolds_iff (ha : v.gate.armed = true) (hh : v.gate.handle = x.handle)
    (hr : v.table.records = [x]) : v.supplyCauseHolds = true ↔ x.cls = .park ∧ v.lowSpring := by
  have hrec : v.record v.gate.handle = some x := by simp [State.record, hr, hh]
  unfold State.supplyCauseHolds
  rw [hrec]
  simp [ha, ← State.lowSpring_iff]

theorem State.armedOver_heldLow (h : m.armedOver x) : m.heldLow v ↔ x.cls = .park ∧ v.lowSpring := by
  simp [State.heldLow, h.records]

/-- Whether a spring channel is supply-low is read from the circuits, the profile and E (R112). -/
theorem State.lowSpring_mono (hp : t.store = s.store) (hm : t.meas = s.meas)
    (hc : ∀ c, (t.chans.get c).state.tested = true → (s.chans.get c).state.tested = true) (h : t.lowSpring) : s.lowSpring := by
  obtain ⟨c, he, hs, hl⟩ := h
  have hi : t.items c = s.items c := by simp [State.items, hp]
  rw [State.eligible_iff, hi] at he
  obtain ⟨hf, ht⟩ := he
  refine ⟨c, State.eligible_iff.2 ⟨hf, hc c ht⟩, hi ▸ hs, ?_⟩
  rw [State.lowSupply, hi, hm] at hl
  exact hl

theorem State.lowSpring_runsTo (hr : s.runsTo t) (hp : t.store = s.store) (hm : t.meas = s.meas) :
    t.lowSpring ↔ s.lowSpring :=
  ⟨State.lowSpring_mono hp hm fun c h => by rw [← hr.tested]; exact h,
    State.lowSpring_mono hp.symm hm.symm fun c h => by rw [hr.tested]; exact h⟩

/-! ## Runs and faults between two judgements -/

/-- What runs, reports and the fault of a channel make of a part whose gate they do not ask: the table is heard, no notice is
taken back, counters at 0 stay so, no channel comes into E, and the gate, the forces and the rest of the reference stand. -/
structure State.calmTo (u w : State) : Prop where
  hears : u.hears w
  meas : w.meas = u.meas
  store : w.store = u.store
  aside : w.mon.aside = u.mon.aside
  inhibit : w.mon.inhibit = u.mon.inhibit
  ref : w.mon.ref = u.mon.ref
  watchAfter : w.mon.watchAfter = u.mon.watchAfter
  counters : u.countersAtZero → w.countersAtZero
  bits : ∀ n, u.link.pending.getLsbD n = true → w.link.pending.getLsbD n = true
  tested : ∀ c, (w.chans.get c).state.tested = true → (u.chans.get c).state.tested = true

theorem State.calmTo_refl : u.calmTo u :=
  ⟨State.hears_refl, rfl, rfl, rfl, rfl, rfl, rfl, id, fun _ h => h, fun _ h => h⟩

theorem State.calmTo_lowSpring (h : u.calmTo w) (hl : w.lowSpring) : u.lowSpring :=
  State.lowSpring_mono h.store h.meas h.tested hl

theorem State.distributeWith_calmTo (u : State) (loads : Six Nat) (fresh : Bool) : u.calmTo (u.distributeWith loads fresh) where
  hears := State.hears_distributeWith u loads fresh
  meas := by simp
  store := by simp
  aside := by simp
  inhibit := by simp
  ref := by simp
  watchAfter := by simp
  counters := State.distributeWith_countersAtZero loads fresh
  bits := (u.distributeWith_runsTo loads fresh).bits
  tested c hc := by rwa [(u.distributeWith_runsTo loads fresh).tested] at hc

theorem State.reportConfirmed_calmTo (u : State) : u.calmTo u.reportConfirmed where
  hears := State.hears_reportConfirmed u
  meas := by simp
  store := by simp
  aside := by simp
  inhibit := by simp
  ref := by simp
  watchAfter := by simp
  counters := State.reportConfirmed_countersAtZero
  bits := u.reportConfirmed_runsTo.bits
  tested c hc := by rwa [u.reportConfirmed_runsTo.tested] at hc

theorem State.testPressures_calmTo (u : State) : u.calmTo u.testPressures where
  hears := ⟨⟨false, by simp⟩, by simp, by simp⟩
  meas := by simp
  store := by simp
  aside := by simp
  inhibit := by simp
  ref := by simp
  watchAfter := by simp
  counters hz := by simpa [State.countersAtZero] using hz
  bits := u.testPressures_runsTo.bits
  tested c hc := by rwa [u.testPressures_runsTo.tested] at hc

theorem State.supplyOnSample_calmTo (u : State) (lowChanged first : Bool) :
    u.calmTo (u.supplyOnSample lowChanged first) := by
  unfold State.supplyOnSample
  split
  · exact State.distributeWith_calmTo _ _ _
  · split
    · exact State.distributeWith_calmTo _ _ _
    · exact State.calmTo_refl

/-- A channel that faults goes out of E, and no other moves. -/
theorem State.faulting_calmTo (u : State) (c : Chan) (cause : FaultCause) : u.calmTo (u.faulting c cause) where
  hears := ⟨⟨false, by simp [State.faulting]⟩, by simp [State.faulting], by simp [State.faulting]⟩
  meas := by simp [State.faulting]
  store := by simp [State.faulting]
  aside := by simp [State.faulting]
  inhibit := by simp [State.faulting]
  ref := by simp [State.faulting]
  watchAfter := by simp [State.faulting]
  counters hz := by simpa [State.countersAtZero, State.faulting] using hz
  bits n hn := by simp [State.faulting, hn]
  tested d hd := by
    by_cases h : d = c
    · subst h
      rw [State.faulting_get_same] at hd
      cases hd
    · rwa [State.faulting_get_other _ _ h] at hd

/-! ## The gate waits, or the truck has driven off -/

/-- The gate of `m` waits still, with its supply cause as given: the record stands, with the forces and the measurements, and
SUPPLY has told of a change of the cause (R112, R114). -/
structure State.waits (m v : State) (b : Bool) : Prop where
  gate : v.gate = { m.gate with supplyCause := b }
  told : b ≠ m.gate.supplyCause → v.link.pending.getLsbD 4 = true
  records : v.table.records = m.table.records
  force : v.force = m.force
  meas : v.meas = m.meas
  store : v.store = m.store
  aside : v.mon.aside = m.mon.aside
  inhibit : v.mon.inhibit = m.mon.inhibit

/-- The truck has driven off over the gate of `m`, whose condition was met with no cause of suspension left (R116). -/
structure State.gone (m v : State) (x : Record) : Prop where
  met : m.gateMet = true
  free : m.gate.modeCause = false
  told : m.gate.supplyCause = true → v.link.pending.getLsbD 4 = true
  gate : v.gate = .idle
  holds : v.link.pending.getLsbD 0 = true
  records : v.table.records = []
  fresh : v.freshForce
  counters : v.countersAtZero
  ref : v.mon.ref = .clear
  watchAfter : v.mon.watchAfter = .stopped
  inhibit : v.mon.inhibit = (m.mon.inhibit || x.cause == some .autopark)
  aside : v.mon.aside = m.mon.aside
  meas : v.meas = m.meas
  store : v.store = m.store

theorem State.waits_refl : m.waits m m.gate.supplyCause :=
  ⟨rfl, fun h => absurd rfl h, rfl, rfl, rfl, rfl, rfl, rfl⟩

theorem State.waits_calm (hm : m.armedOver x) (h : m.waits v b) (hc : v.calmTo w) : m.waits w b := by
  obtain ⟨⟨c, ht⟩, hg, hf⟩ := hc.hears
  exact
    { gate := hg.trans h.gate
      told := fun hb => hc.bits 4 (h.told hb)
      records := by rw [ht, h.records]; exact State.armedOver_heard hm c
      force := hf.trans h.force
      meas := hc.meas.trans h.meas
      store := hc.store.trans h.store
      aside := hc.aside.trans h.aside
      inhibit := hc.inhibit.trans h.inhibit }

theorem State.gone_calm (h : m.gone v x) (hc : v.calmTo w) : m.gone w x := by
  obtain ⟨⟨c, ht⟩, hg, hf⟩ := hc.hears
  have hr : w.table.records = [] := by rw [ht, h.records]; simp
  exact
    { met := h.met
      free := h.free
      told := fun hb => hc.bits 4 (h.told hb)
      gate := hg.trans h.gate
      holds := hc.bits 0 h.holds
      records := hr
      fresh := State.freshForce_congr hf (by rw [ht]) hc.meas hc.store (by rw [hr, h.records]) h.fresh
      counters := hc.counters h.counters
      ref := hc.ref.trans h.ref
      watchAfter := hc.watchAfter.trans h.watchAfter
      inhibit := hc.inhibit.trans h.inhibit
      aside := hc.aside.trans h.aside
      meas := hc.meas.trans h.meas
      store := hc.store.trans h.store }

/-- The gate of a part that waits with no cause of suspension judges by the gate condition of `m` (R108, R109). -/
theorem State.waits_gateMet (h : m.waits v b) : v.gateMet = m.gateMet := by
  have hv : v.vehicle = m.vehicle := by simp [State.vehicle, h.store]
  simp [State.gateMet, h.force, h.meas, hv]

/-- A drive-off of the part that waits (R116). -/
theorem State.waits_driveOff (hm : m.armedOver x) (h : m.waits v false) (hmode : m.gate.modeCause = false)
    (hmet : m.gateMet = true) : m.gone v.driveOff x := by
  have hx : v.table.records = [x] := h.records.trans hm.records
  have hg : v.gate.handle = x.handle := by rw [h.gate]; exact hm.handle
  obtain ⟨hrec, hgate, hbit, hfresh, hzero, href, hwatch, hinh, haside, -⟩ := State.driveOff_leaves hx hg
  have hbits : v.link.pending.getLsbD 4 = true → v.driveOff.link.pending.getLsbD 4 = true := by
    intro hb
    have hr := State.linksTo_bits (v.retire_linksTo v.gate.handle true) 4 hb
    simp [State.driveOff, hr]
  exact
    { met := hmet
      free := hmode
      told := fun hs => hbits (h.told (by simp [hs]))
      gate := hgate
      holds := hbit
      records := hrec
      fresh := hfresh
      counters := hzero
      ref := href
      watchAfter := hwatch
      inhibit := by rw [hinh, h.inhibit]
      aside := haside.trans h.aside
      meas := by simpa [State.driveOff] using h.meas
      store := by simpa [State.driveOff] using h.store }

/-- The gate judges while it has no cause of suspension, and else waits on (R109). -/
theorem State.waits_evaluates (hm : m.armedOver x) (h : m.waits v b) :
    v.gateEvaluate = v ∧ (b = false → m.gate.modeCause = false → m.gateMet = false) ∨ b = false ∧ m.gone v.gateEvaluate x := by
  have ha : v.gate.armed = true := by rw [h.gate]; exact hm.armed
  have hsus : v.gate.suspended = (b || m.gate.modeCause) := by rw [h.gate]; rfl
  have hmet := State.waits_gateMet h
  unfold State.gateEvaluate
  by_cases hgo : (v.gate.armed && !v.gate.suspended && v.gateMet) = true
  · rw [if_pos hgo]
    simp only [ha, hsus, hmet, Bool.true_and, Bool.and_eq_true, Bool.not_eq_true', Bool.or_eq_false_iff] at hgo
    obtain ⟨⟨hb, hmode⟩, hg⟩ := hgo
    subst hb
    exact .inr ⟨rfl, State.waits_driveOff hm h hmode hg⟩
  · rw [if_neg hgo]
    refine .inl ⟨rfl, fun hb hmode => ?_⟩
    simpa [ha, hsus, hmet, hb, hmode] using hgo

/-- The gate decides its supply cause afresh (R112, R114, R115). -/
theorem State.waits_decides (hm : m.armedOver x) (h : m.waits v b) :
    (∃ b', m.waits v.gateDecide b' ∧ (b' = true ↔ m.heldLow v)) ∨ m.gone v.gateDecide x ∧ ¬m.heldLow v := by
  have ha : v.gate.armed = true := by rw [h.gate]; exact hm.armed
  have hcause : v.gate.supplyCause = b := by rw [h.gate]
  have hlow : v.supplyCauseHolds = true ↔ m.heldLow v := by
    rw [State.armedOver_heldLow hm]
    exact State.supplyCauseHolds_iff ha (by rw [h.gate]; exact hm.handle) (h.records.trans hm.records)
  unfold State.gateDecide
  rw [if_pos ha]
  dsimp only
  by_cases hsame : v.supplyCauseHolds = v.gate.supplyCause
  · rw [if_pos hsame]
    exact .inl ⟨b, h, by rw [← hlow, hsame, hcause]⟩
  · rw [if_neg hsame]
    have hw : m.waits ((v.withGate { v.gate with supplyCause := v.supplyCauseHolds }).raise .supply) v.supplyCauseHolds :=
      { gate := by simp [h.gate]
        told := fun _ => by simp [Source.bit]
        records := h.records
        force := h.force
        meas := h.meas
        store := h.store
        aside := h.aside
        inhibit := h.inhibit }
    by_cases hh : v.supplyCauseHolds = true
    · rw [if_pos hh]
      exact .inl ⟨_, hw, hlow⟩
    · rw [if_neg hh]
      rcases State.waits_evaluates hm hw with ⟨he, -⟩ | ⟨-, hg⟩
      · rw [he]
        exact .inl ⟨_, hw, hlow⟩
      · exact .inr ⟨hg, fun hl => hh (hlow.2 hl)⟩

/-! ## The gate on a sample -/

/-- The gate of `m` within a sample: it waits, or the truck has driven off with the supply cause away (R115). -/
def State.underway (m v : State) (x : Record) : Prop := (∃ b, m.waits v b) ∨ m.gone v x ∧ ¬m.heldLow v

theorem State.underway_calm (hm : m.armedOver x) (h : m.underway v x) (hc : v.calmTo w) : m.underway w x := by
  rcases h with ⟨b, h⟩ | ⟨h, hl⟩
  · exact .inl ⟨b, State.waits_calm hm h hc⟩
  · exact .inr ⟨State.gone_calm h hc, fun hw => hl ⟨hw.1, State.calmTo_lowSpring hc hw.2⟩⟩

/-- Under way, a gate that decides its supply cause has it as the part shows it now (R112). -/
theorem State.underway_decides (hm : m.armedOver x) (h : m.underway v x) :
    (∃ b, m.waits v.gateDecide b ∧ (b = true ↔ m.heldLow v.gateDecide)) ∨
      m.gone v.gateDecide x ∧ ¬m.heldLow v.gateDecide := by
  have hlow : m.heldLow v.gateDecide ↔ m.heldLow v :=
    and_congr_right fun _ => State.lowSpring_runsTo v.gateDecide_runsTo (by simp) (by simp)
  rw [hlow]
  rcases h with ⟨b, h⟩ | ⟨h, hl⟩
  · exact State.waits_decides hm h
  · rw [State.gateDecide_idle (by rw [h.gate]; rfl)]
    exact .inr ⟨h, hl⟩

theorem State.sensorStep_underway (hm : m.armedOver x) (h : m.underway v x) (c : Chan) :
    m.underway (v.sensorStep before c) x := by
  unfold State.sensorStep
  split
  · rw [State.faultChannel_eq]
    have hf := State.underway_calm hm (State.underway_calm hm h (State.faulting_calmTo v c .sensor))
      (State.distributeWith_calmTo _ (v.faulting c .sensor).meas.loads false)
    exact (State.underway_decides hm hf).imp_left fun ⟨b, hb, _⟩ => ⟨b, hb⟩
  · exact h

theorem State.sensorFaults_underway (hm : m.armedOver x) (h : m.underway v x) (before : Six Sensor) :
    m.underway (v.sensorFaults before) x := by
  rw [State.sensorFaults_eq]
  induction allChans generalizing v with
  | nil => exact h
  | cons c cs ih => exact ih (State.sensorStep_underway hm h c)

/-- The gate at the end of a sample: it waits under the supply cause as it is now, or under the mode, or over a condition that is
not met; or the truck has driven off (R109, R112, R115). -/
theorem State.sample_underway (r : SampleSet) (hm : (s.offered r).armedOver x) :
    (∃ b, (s.offered r).waits (s.sample r) b ∧ (b = true ↔ (s.offered r).heldLow (s.sample r)) ∧
        (b = false → (s.offered r).gate.modeCause = false → (s.offered r).gateMet = false)) ∨
      (s.offered r).gone (s.sample r) x ∧ ¬(s.offered r).heldLow (s.sample r) := by
  rw [State.sample_eq, State.channelsOnSample_eq]
  have hfaults := State.sensorFaults_underway hm (v := s.offered r) (.inl ⟨_, State.waits_refl⟩) s.meas.psv
  have htests := State.underway_calm hm hfaults (State.testPressures_calmTo _)
  have hreport := State.underway_calm hm htests (State.reportConfirmed_calmTo _)
  have hsupply := State.underway_calm hm hreport (State.supplyOnSample_calmTo _
    (s.meas.supplyA.low != (s.measure r).meas.supplyA.low || s.meas.supplyB.low != (s.measure r).meas.supplyB.low)
    s.meas.awaitsFirstSample)
  rcases State.underway_decides hm hsupply with ⟨b, hw, hb⟩ | ⟨hg, hl⟩
  · rcases State.waits_evaluates hm hw with ⟨he, hmet⟩ | ⟨rfl, hg⟩
    · rw [he]
      exact .inl ⟨b, hw, hb, hmet⟩
    · refine .inr ⟨hg, fun hl => ?_⟩
      have hlow := (State.lowSpring_runsTo (State.gateEvaluate_runsTo _) (by simp) (by simp)).1 hl.2
      exact absurd (hb.2 ⟨hl.1, hlow⟩) (by simp)
  · rw [State.gateEvaluate_idle (by rw [hg.gate]; rfl)]
    exact .inr ⟨hg, hl⟩

/-! ## What the judgement comes to -/

/-- The part right before its gate judges, `m`, against the part at the beginning of the event, `s`. -/
structure State.sameHolds (s m : State) : Prop where
  gate : m.gate = s.gate
  records : m.table.records = s.table.records
  aside : m.mon.aside = s.mon.aside
  inhibit : m.mon.inhibit = s.mon.inhibit
  store : m.store = s.store

theorem State.armedOver_sameHolds (h : s.sameHolds m) (hs : s.armedOver x) : m.armedOver x where
  armed := by rw [h.gate]; exact hs.armed
  handle := by rw [h.gate]; exact hs.handle
  records := h.records.trans hs.records
  releasing := hs.releasing

/-- A drive-off to the end of its event (R116, R126, R138, R139). -/
theorem State.drivenOff_of_gone (h : s.sameHolds m) (hs : s.armedOver x) (hg : m.gone v x) :
    s.drivenOff (State.conclude s v) := by
  have hq := sequel_conclude s v
  have hn : v.noneReleasing := by simp [State.noneReleasing, hg.records]
  refine ⟨hq.gate hg.gate, hq.bits 0 hg.holds, hq.freshForce hg.fresh, hq.countersAtZero hg.counters, fun y hy => ?_,
    fun he => ?_, fun hf => ?_⟩
  · obtain rfl : y = x := by simpa [hs.records] using hy
    rw [State.inhibitedBy, hq.inhibit hn, hg.inhibit, h.inhibit]
    exact ⟨fun hc => by simp [hc], fun hc => by simp [hc]⟩
  · obtain ⟨w, z, hw⟩ := hq.of_empty hn he
    exact ⟨by rw [hw]; exact hg.ref, by rw [hw]; exact hg.watchAfter, State.freshForce_empty (hq.freshForce hg.fresh) he⟩
  · rw [State.conclude_of_nothingFollows (State.nothingFollows_congr (hg.aside.trans h.aside) hf)]
    exact hg.records

/-- A gate that waits leaves the end of its event to WARN. -/
theorem State.conclude_waits (h : s.sameHolds m) (hw : m.waits v b) : State.conclude s v = v.refreshWarn :=
  State.conclude_of_table (hw.records.trans h.records)

/-- The gate's judgement, where the condition it met or missed is that of R108 over the figures told. -/
theorem State.judgedBy_of {f : Force} {d : Int} (h : s.sameHolds m) (hs : s.armedOver x)
    (hmet : m.gateMet = true ↔ s.letsGo f d) (hv : m.waits v false ∧ m.gateMet = false ∨ m.gone v x) :
    s.judgedBy (State.conclude s v) f d := by
  rcases hv with ⟨hw, hno⟩ | hg
  · refine ⟨fun hgo => absurd (hmet.2 hgo) (by simp [hno]), fun _ => ?_⟩
    rw [State.conclude_waits h hw]
    exact ⟨hw.gate.trans (by rw [h.gate]), hw.records.trans h.records⟩
  · refine ⟨fun _ => ⟨?_, State.drivenOff_of_gone h hs hg⟩, fun hno => absurd (hmet.1 hg.met) hno⟩
    exact (sequel_conclude s v).noneReleasing (by simp [State.noneReleasing, hg.records])

/-- The gate condition reads of a run F_grade and F_signed alone (R108), which the holds do not enter (R50, R51). -/
theorem State.gateMet_letsGo (h : s.sameHolds m) (hf : m.force = m.calculate) (ht : t.force = t.calculate)
    (hm : t.meas = m.meas) : m.gateMet = true ↔ s.letsGo t.force m.meas.drive := by
  rw [State.gateMet_iff, State.letsGo, State.letsGo, hf, ht]
  simp only [State.calculate, State.vehicle, h.store, hm]

/-! ## The drive and drum reports -/

/-- The run of a report leaves the gate and the record that it waits over (R9). -/
theorem State.runAndOffer_sameHolds (h : s.sameHolds u) (hs : s.armedOver x) : s.sameHolds u.runAndOffer := by
  obtain ⟨b, hb⟩ := u.runAndOffer_table
  have hinhibit : u.runAndOffer.mon.inhibit = u.mon.inhibit := by
    rcases u.runAndOffer_mon with he | he <;> rw [he]
    rfl
  exact
    { gate := by simpa using h.gate
      records := by rw [hb, h.records]; exact State.armedOver_heard hs b
      aside := by simpa using h.aside
      inhibit := hinhibit.trans h.inhibit
      store := by simpa using h.store }

/-- What a drive report does to the watch-after is no part of what the gate waits over (R127). -/
theorem State.waits_driveEndsWatch (h : m.waits v b) : m.waits v.driveEndsWatch b := by
  unfold State.driveEndsWatch
  split
  · exact { h with }
  · exact h

theorem State.gone_driveEndsWatch (h : m.gone v x) : v.driveEndsWatch = v := by simp [State.driveEndsWatch, h.ref]

/-- The part with a drive report taken and run, before the gate judges it (R42). -/
def State.driveRun (s : State) (force : Word16) (gear : Gear) : State :=
  ((s.withSlot (doneAnswer 0x30 (signed2 (effectiveDrive gear (clampForce force.toInt))))).driven force.toInt gear).runAndOffer

theorem exec_driveState (ht : s.takes) (hm : s.ctl.mode ≠ .degraded) (hs : s.ctl.mode ≠ .safe) {force : Word16} {gear : Byte}
    {g : Gear} (hg : gearOf gear = some g) :
    exec (.driveState force gear) s = .next (State.conclude s (s.driveRun force g).gateEvaluate.driveEndsWatch) := by
  rw [exec_own (r := .driveState) ht rfl (by cases hk : s.ctl.mode <;> simp_all [Request.admitted])]
  simp only [hg]
  rfl

theorem State.driveRun_drive (s : State) (force : Word16) (g : Gear) :
    (s.driveRun force g).meas.drive = effectiveDrive g (clampForce force.toInt) := by
  simp [State.driveRun, State.driven, Measure.drive, Timer.isRunning]

theorem State.driveRun_sameHolds (hs : s.armedOver x) (force : Word16) (g : Gear) : s.sameHolds (s.driveRun force g) :=
  State.runAndOffer_sameHolds ⟨rfl, rfl, rfl, rfl, rfl⟩ hs

/-- The gate's judgement of a drive report (R109). -/
theorem State.driveRun_judged (hs : s.armedOver x) (hc : s.gate.supplyCause = false) (hmode : s.gate.modeCause = false)
    (force : Word16) (g : Gear) {t : State}
    (ht : t = State.conclude s (s.driveRun force g).gateEvaluate.driveEndsWatch) :
    s.judgedBy t t.force (effectiveDrive g (clampForce force.toInt)) := by
  set m := s.driveRun force g with hm
  have h : s.sameHolds m := State.driveRun_sameHolds hs force g
  have hmo : m.armedOver x := State.armedOver_sameHolds h hs
  have hfresh : m.force = m.calculate := State.runAndOffer_fresh _
  have hself : m.waits m false := by
    have := State.waits_refl (m := m)
    rwa [h.gate, hc] at this
  have hmeas : t.meas = m.meas := by rw [ht, (sequel_conclude s _).meas]; simp
  rcases State.waits_evaluates hmo hself with ⟨he, hno⟩ | ⟨-, hg⟩
  · have hw : m.waits m.driveEndsWatch false := State.waits_driveEndsWatch hself
    rw [he, State.conclude_waits h hw] at ht
    have htf : t.force = t.calculate := by
      have hf : t.force = m.force := by rw [ht]; exact hw.force
      rw [hf, hfresh]
      exact State.calculate_congr hmeas.symm (by rw [ht]; exact hw.store.symm) (by rw [ht]; exact congrArg holdSet hw.records.symm)
    rw [← State.driveRun_drive s, ht, ← State.conclude_waits h hw]
    refine State.judgedBy_of h hs ?_ (.inl ⟨hw, hno rfl (by rw [h.gate]; exact hmode)⟩)
    rw [State.conclude_waits h hw, ← ht]
    exact State.gateMet_letsGo h hfresh htf hmeas
  · rw [State.gone_driveEndsWatch hg] at ht
    have htf : t.force = t.calculate := by rw [ht]; exact ((sequel_conclude s _).freshForce hg.fresh).1
    rw [← State.driveRun_drive s]
    have hj := State.judgedBy_of h hs (State.gateMet_letsGo h hfresh htf hmeas) (.inr hg)
    rwa [← ht] at hj

/-- A gate that is suspended judges nothing (R109). -/
theorem State.gateEvaluate_suspended (h : s.gate.supplyCause = true ∨ s.gate.modeCause = true) : s.gateEvaluate = s := by
  have hsus : s.gate.suspended = true := by simpa [Gate.suspended] using h
  simp [State.gateEvaluate, hsus]

/-- Under a suspended gate a drive report comes to its run, and the end of the watch-after (R42, R109). -/
theorem State.driveRun_suspended (hs : s.armedOver x) (hc : s.gate.supplyCause = true ∨ s.gate.modeCause = true)
    (force : Word16) (g : Gear) :
    ∃ m : Monitor, State.conclude s (s.driveRun force g).gateEvaluate.driveEndsWatch = (s.driveRun force g).withMon m := by
  have h := State.driveRun_sameHolds hs force g
  obtain ⟨m, hm, -⟩ := (s.driveRun force g).driveEndsWatch_eq
  rw [State.gateEvaluate_suspended (by rw [h.gate]; exact hc), hm, State.conclude_of_table (by exact h.records)]
  exact ⟨_, rfl⟩

/-- The lapse of a drive report (R43). -/
theorem exec_driveReportStale (hp : s.powered = true) {n : Nat} (hr : s.meas.driveAge = .running n) (hn : Config.ms 200 ≤ n) :
    exec .driveReportStale s =
      .next (State.conclude s (s.withMeas { s.meas with driveAge := .stopped }).gateEvaluate) := by
  show Host.Outcome.next (s.event fun t => if t.driveStaleDue then _ else t) = _
  rw [State.event_powered hp, if_pos (by simp [State.driveStaleDue, hr, hn])]

/-- The gate's judgement of the lapse of a drive report, over the run as it stood (R43, R109). -/
theorem State.stale_judged (hs : s.armedOver x) (hc : s.gate.supplyCause = false) (hmode : s.gate.modeCause = false) :
    s.judgedBy (State.conclude s (s.withMeas { s.meas with driveAge := .stopped }).gateEvaluate) s.force 0 := by
  set m := s.withMeas { s.meas with driveAge := .stopped } with hm
  have h : s.sameHolds m := ⟨rfl, rfl, rfl, rfl, rfl⟩
  have hself : m.waits m false := by
    have := State.waits_refl (m := m)
    rwa [h.gate, hc] at this
  refine State.judgedBy_of h hs ?_ ?_
  · rw [State.gateMet_iff]
    rfl
  · rcases State.waits_evaluates (State.armedOver_sameHolds h hs) hself with ⟨he, hno⟩ | ⟨-, hg⟩
    · rw [he]
      exact .inl ⟨hself, hno rfl hmode⟩
    · exact .inr hg

/-- A drum report makes a run and is never judged (R44, R109). -/
theorem exec_drumState (ht : s.takes) (hm : s.ctl.mode ≠ .degraded) (hs : s.ctl.mode ≠ .safe) {mode flag : Byte} {weight : Word16}
    {d : DrumMode} (hd : drumModeOf mode = some d) (hw : flag ≠ 0 → weight.toNat ≤ 40000) :
    exec (.drumState mode flag weight) s =
      .next (State.conclude s (((s.done 0x31 []).withMeas
        { s.meas with drum := d, cRep := if flag = 0 then none else some weight.toNat }).runAndOffer)) := by
  rw [exec_own (r := .drumState) ht rfl (by cases hk : s.ctl.mode <;> simp_all [Request.admitted])]
  simp only [hd]
  rw [if_neg (by rintro ⟨hf, hw'⟩; have := hw hf; omega)]

/-! ## A sample -/

/-- A sample set leaves the drive report (R32, R43). -/
theorem State.measured_drive (s : State) (r : SampleSet) : (s.measured r).meas.drive = s.meas.drive := by
  have hgrade : ∀ (m : Measure) (y : Int), (m.takeGrade y).drive = m.drive := by
    intro m y
    unfold Measure.takeGrade
    dsimp only
    repeat' split
    all_goals rfl
  have htaken : (s.taken r).drive = s.meas.drive := by
    unfold State.taken
    dsimp only
    split
    · exact hgrade _ _
    · rfl
  rw [State.measured_meas, ← htaken]
  rfl

/-- Over a hold a sample makes a run, which leaves the gate and its record (R47). -/
theorem State.offered_sameHolds (hs : s.armedOver x) (r : SampleSet) :
    s.sameHolds (s.offered r) ∧ (s.offered r).force = (s.offered r).calculate := by
  have ho : s.offered r = (s.measured r).runAndOffer := if_pos (.inr (by simp [hs.records]))
  have hm : s.sameHolds (s.measured r) :=
    ⟨by simp [State.measured], by simp, by simp [State.measured], by simp [State.measured], by simp [State.measured]⟩
  rw [ho]
  exact ⟨State.runAndOffer_sameHolds hm hs, State.runAndOffer_fresh _⟩

/-- The gate on a sample (R109, R112, R114, R115). -/
theorem State.sample_judged (hs : s.armedOver x) (r : SampleSet) (ht : t = State.conclude s (s.sample r)) :
    (s.heldLow t → t.gate = { s.gate with supplyCause := true } ∧ t.table.records = s.table.records ∧
        (s.gate.supplyCause = false → t.link.pending.getLsbD 4 = true)) ∧
      (¬s.heldLow t → s.gate.supplyCause = true → t.link.pending.getLsbD 4 = true) ∧
      (¬s.heldLow t → s.gate.modeCause = true →
        t.gate = { s.gate with supplyCause := false } ∧ t.table.records = s.table.records) ∧
      (¬s.heldLow t → s.gate.modeCause = false → s.judgedBy t t.force s.meas.drive) := by
  obtain ⟨h, hfresh⟩ := State.offered_sameHolds hs r
  have hm := State.armedOver_sameHolds h hs
  have hq : Sequel (s.sample r) t := ht ▸ sequel_conclude s (s.sample r)
  have hdrive : (s.offered r).meas.drive = s.meas.drive := by rw [State.offered_meas, State.measured_drive]
  have hmeas : t.meas = (s.offered r).meas := by rw [hq.meas, State.sample_meas, State.offered_meas]
  have hlow : s.heldLow t ↔ (s.offered r).heldLow (s.sample r) := by
    unfold State.heldLow
    rw [h.records, State.lowSpring_runsTo hq.runsTo hq.store hq.meas]
  have hsupply : (s.offered r).gate.supplyCause = s.gate.supplyCause := by rw [h.gate]
  have hmode : (s.offered r).gate.modeCause = s.gate.modeCause := by rw [h.gate]
  rw [hlow]
  rcases State.sample_underway r hm with ⟨b, hw, hb, hmet⟩ | ⟨hg, hl⟩
  · have hend : t = (s.sample r).refreshWarn := ht.trans (State.conclude_waits h hw)
    have hgate : t.gate = { s.gate with supplyCause := b } := by rw [hend, ← h.gate]; exact hw.gate
    have hrecords : t.table.records = s.table.records := by rw [hend]; exact hw.records.trans h.records
    have htold : b ≠ s.gate.supplyCause → t.link.pending.getLsbD 4 = true := fun hne => by
      rw [hend]
      exact hw.told (by rwa [hsupply])
    have hoff : ¬(s.offered r).heldLow (s.sample r) → b = false := fun hn => by
      rw [Bool.eq_false_iff]
      exact fun hbt => hn (hb.1 hbt)
    refine ⟨fun hh => ?_, fun hn hc => htold (by rw [hoff hn, hc]; simp), fun hn _ => ?_, fun hn hno => ?_⟩
    · obtain rfl := hb.2 hh
      exact ⟨hgate, hrecords, fun hc => htold (by simp [hc])⟩
    · rw [hgate, hoff hn]
      exact ⟨rfl, hrecords⟩
    · obtain rfl := hoff hn
      have htf : t.force = t.calculate := by
        have hf : t.force = (s.offered r).force := by rw [hend]; exact hw.force
        rw [hf, hfresh]
        exact State.calculate_congr hmeas.symm (by rw [hend]; exact hw.store.symm)
          (by rw [hend]; exact congrArg holdSet hw.records.symm)
      have hj := State.judgedBy_of h hs (State.gateMet_letsGo h hfresh htf hmeas) (.inl ⟨hw, hmet rfl (hmode.trans hno)⟩)
      rwa [← ht, hdrive] at hj
  · have hfree : s.gate.modeCause = false := hmode ▸ hg.free
    have htf : t.force = t.calculate := (hq.freshForce hg.fresh).1
    refine ⟨fun hh => absurd hh hl, fun _ hc => hq.bits 4 (hg.told (by rw [hsupply, hc])),
      fun _ hc => absurd hc (by simp [hfree]), fun _ _ => ?_⟩
    have hj := State.judgedBy_of h hs (State.gateMet_letsGo h hfresh htf hmeas) (.inr hg)
    rwa [← ht, hdrive] at hj

/-- Settles O32: each event's run leaves the gate waiting over its record, and what follows is the gate's own judgement. -/
theorem gateFollowsTheDrive : Obligations.GateFollowsTheDrive := by
  intro s hs ha
  obtain ⟨x, hx⟩ := State.armedOver_of hs ha
  obtain ⟨-, -, -, hmode, hsafe, -⟩ := State.gateSoundIf_armed (State.holdsSoundIf_true.2 hs).2 ha
  refine ⟨fun hc hm => ⟨fun force gear ht hg => ?_, fun n hp hr hn => ?_⟩,
    fun hc => ⟨fun force gear ht hd hg => ?_, fun n hp hr hn => ?_⟩, fun mode flag weight ht hd h1 h4 hw => ?_,
    fun r hp hn => ?_⟩
  · obtain ⟨g, hgear, -, hdrive⟩ := gearOf_some hg.1 hg.2
    have hrun : s.ctl.mode = .run := by
      by_contra hne
      simp [hmode.2 hne] at hm
    refine ⟨_, exec_driveState ht (by simp [hrun]) (by simp [hrun]) hgear, ?_⟩
    rw [← hdrive]
    exact State.driveRun_judged hx hc hm force g rfl
  · exact ⟨_, exec_driveReportStale hp hr hn, State.stale_judged hx hc hm⟩
  · obtain ⟨g, hgear, -, hdrive⟩ := gearOf_some hg.1 hg.2
    obtain ⟨m, hm⟩ := State.driveRun_suspended hx hc force g
    have h := State.driveRun_sameHolds hx force g
    obtain ⟨-, -, hforce, happ, -⟩ := State.report_leaves (s := s)
      (u := (s.withSlot (doneAnswer 0x30 (signed2 (effectiveDrive g (clampForce force.toInt))))).driven force.toInt g)
      ⟨rfl, rfl, rfl, rfl, rfl, rfl⟩ rfl rfl m
    refine ⟨(s.driveRun force g).withMon m, ?_, h.gate, h.records, ?_, hforce, happ⟩
    · rw [exec_driveState ht hd hsafe hgear, hm]
    · rw [← hdrive]
      exact State.driveRun_drive s force g
  · refine ⟨(s.withMeas { s.meas with driveAge := .stopped }).warnNext, ?_⟩
    rw [exec_driveReportStale hp hr hn, State.gateEvaluate_suspended (by exact hc), State.conclude_of_table (by simp)]
    rfl
  · obtain ⟨d, hdm, hcode⟩ := drumModeOf_some h1 h4
    obtain ⟨m, hm⟩ := s.drummed_result d (if flag = 0 then none else some weight.toNat) 0x31 []
    have h : s.sameHolds ((s.withSlot (doneAnswer 0x31 [])).drummed d (if flag = 0 then none else some weight.toNat)).runAndOffer :=
      State.runAndOffer_sameHolds ⟨rfl, rfl, rfl, rfl, rfl⟩ hx
    obtain ⟨-, hmeas, hforce, happ, -⟩ := State.report_leaves (s := s)
      (u := (s.withSlot (doneAnswer 0x31 [])).drummed d (if flag = 0 then none else some weight.toNat))
      ⟨rfl, rfl, rfl, rfl, rfl, rfl⟩ rfl rfl m
    exact ⟨_, d, (exec_drumState ht hd hsafe hdm hw).trans (congrArg _ hm), hcode, hmeas, h.gate, h.records, hforce, happ⟩
  · have hz : s.ctl.mode ≠ .sleep := by
      obtain ⟨-, -, -, -, -, h⟩ := State.gateSoundIf_armed (State.holdsSoundIf_true.2 hs).2 ha
      exact h trivial
    refine ⟨State.conclude (s.shown r) ((s.shown r).sample r), ?_, ?_⟩
    · rw [exec_sampleArrival hp, if_pos (State.sampleDue_iff.2 ⟨hz, hn⟩)]
    · exact State.sample_judged (s := s.shown r) ⟨hx.armed, hx.handle, hx.records, hx.releasing⟩ r rfl

end Sys2Proof.Machine

/-! # What a wake sets, and what its event leaves of it (O25) -/

namespace Sys2Proof.Machine

variable {s t x : State}

/-! ## What no run, hold or gate moves -/

/-- What a wake sets and the holds leave: the answer, the enables, and of each channel its PWM count and its lift level. -/
def State.fixtures (s : State) : Answer × Byte × Six (Option Nat × Bool) :=
  (s.link.slot, s.link.enable, Six.ofFn fun c => ((s.chans.get c).pwm, (s.chans.get c).lift))

theorem State.fixtures_congr (hl : t.link.slot = s.link.slot) (he : t.link.enable = s.link.enable)
    (hc : ∀ c, (t.chans.get c).pwm = (s.chans.get c).pwm ∧ (t.chans.get c).lift = (s.chans.get c).lift) :
    t.fixtures = s.fixtures := by
  simp [State.fixtures, hl, he, hc]

/-- A command sets the outputs and the tests of its channel alone (R87). -/
theorem State.handOver_fixed (s : State) (d : Distribution) (fresh : Bool) (c : Chan) :
    ((s.handOver d fresh).get c).pwm = (s.chans.get c).pwm ∧ ((s.handOver d fresh).get c).lift = (s.chans.get c).lift := by
  unfold State.handOver
  rw [Six.get_ofFn]
  dsimp only
  split
  · split
    · exact ⟨rfl, rfl⟩
    · exact ⟨rfl, rfl⟩
  · exact ⟨rfl, rfl⟩

theorem State.linksTo_enable (h : s.linksTo t) : t.link.enable = s.link.enable := by
  rcases h with h | h
  · rw [h]
  · rw [h]
    rfl

@[simp] theorem State.reportConfirmed_fixtures (s : State) : s.reportConfirmed.fixtures = s.fixtures :=
  State.fixtures_congr (by simp) (by simp) (by simp)

@[simp] theorem State.distributeWith_fixtures (s : State) (loads : Six Nat) (fresh : Bool) :
    (s.distributeWith loads fresh).fixtures = s.fixtures :=
  State.fixtures_congr (State.linksTo_slot (s.distributeWith_linksTo loads fresh))
    (State.linksTo_enable (s.distributeWith_linksTo loads fresh)) fun c => by
      rw [State.distributeWith_chans]
      exact s.handOver_fixed _ _ c

@[simp] theorem State.holdSetChange_fixtures (s : State) (parkBefore : Bool) :
    (s.holdSetChange parkBefore).fixtures = s.fixtures := by
  rcases s.holdSetChange_cases parkBefore with ⟨he, -⟩ | he
  · rw [he]
    rfl
  · rw [he]
    exact State.distributeWith_fixtures _ _ _

@[simp] theorem State.retire_fixtures (s : State) (h : Nat) (driveOff : Bool) :
    (s.retire h driveOff).fixtures = s.fixtures := by
  obtain ⟨m, hm⟩ := s.retire_withMon h driveOff
  rw [hm]
  exact State.holdSetChange_fixtures (s.parting h) _

@[simp] theorem State.openRecord_fixtures (s : State) (make : Nat → Record) :
    (s.openRecord make).fixtures = s.fixtures := by
  obtain ⟨m, hm⟩ := s.opening_withMon make
  rw [State.openRecord_eq, State.reportConfirmed_fixtures, hm]
  exact State.holdSetChange_fixtures (s.seating make) _

@[simp] theorem State.want_fixtures (s : State) (w : PendantWant) : (s.want w).fixtures = s.fixtures := rfl

@[simp] theorem State.raiseHolds_fixtures (s : State) (h : Nat) (reason : Reason) :
    (s.raiseHolds h reason).fixtures = s.fixtures := rfl

@[simp] theorem State.raise_fixtures (s : State) (src : Source) : (s.raise src).fixtures = s.fixtures := rfl

@[simp] theorem State.withGate_fixtures (s : State) (g : Gate) : (s.withGate g).fixtures = s.fixtures := rfl

@[simp] theorem State.withMon_fixtures (s : State) (m : Monitor) : (s.withMon m).fixtures = s.fixtures := rfl

@[simp] theorem State.withTable_fixtures (s : State) (y : HoldTable) : (s.withTable y).fixtures = s.fixtures := rfl

theorem Sequel.fixtures (h : Sequel s t) : t.fixtures = s.fixtures :=
  h.keep (P := fun t => t.fixtures = s.fixtures) rfl (fun _ _ hu => by simpa using hu)
    (fun _ _ _ hu => by simpa using hu) fun _ _ _ hu => hu

@[simp] theorem State.gateEvaluate_fixtures (s : State) : s.gateEvaluate.fixtures = s.fixtures := by
  unfold State.gateEvaluate State.driveOff
  split <;> simp

@[simp] theorem State.gateDecide_fixtures (s : State) : s.gateDecide.fixtures = s.fixtures := by
  unfold State.gateDecide
  dsimp only
  repeat' split
  all_goals simp

@[simp] theorem State.release_fixtures (s : State) (r : Record) : (s.release r).fixtures = s.fixtures := by
  unfold State.release State.gateArm
  dsimp only
  repeat' split
  all_goals simp

@[simp] theorem State.pendantOpen_fixtures (s : State) (told : Bool) : (s.pendantOpen told).fixtures = s.fixtures := by
  unfold State.pendantOpen State.pendantTry
  repeat' split
  all_goals simp

@[simp] theorem State.pendantStop_fixtures (s : State) : s.pendantStop.fixtures = s.fixtures := by
  unfold State.pendantStop
  dsimp only
  repeat' split
  all_goals simp

@[simp] theorem State.pendantAsRead_fixtures (s : State) : s.pendantAsRead.fixtures = s.fixtures := by
  unfold State.pendantAsRead
  repeat' split
  all_goals simp

/-- A limit pulse moves the holds, the monitor and the notices alone (R130, R132). -/
@[simp] theorem State.limitPulse_fixtures (s : State) : s.limitPulse.fixtures = s.fixtures := by
  unfold State.limitPulse
  split
  · exact (sequel_monitorOpening (s.withMon { s.mon with stage := .caught }) .rollaway).fixtures
  · rfl
  · rfl
  · rfl

/-! ## The motion and the notices -/

theorem State.runsTo_raise (src : Source) : s.runsTo (s.raise src) :=
  State.runsTo_of rfl (fun n hn => by simp [hn]) rfl rfl

theorem State.pendantAsRead_runsTo (s : State) : s.runsTo s.pendantAsRead := by
  unfold State.pendantAsRead
  split
  · split
    · exact State.runsTo_trans (State.runsTo_raise _) (State.pendantOpen_runsTo _ _)
    · exact State.pendantOpen_runsTo _ _
  · exact State.pendantStop_runsTo _

theorem State.limitPulse_runsTo (s : State) : s.runsTo s.limitPulse := by
  have hcaught : s.runsTo (s.withMon { s.mon with stage := .caught }) := State.runsTo_withMon rfl
  unfold State.limitPulse
  split
  · exact State.runsTo_trans hcaught
      (State.runsTo_trans (sequel_monitorOpening _ .rollaway).runsTo (State.runsTo_raise .rollaway))
  · exact State.runsTo_refl
  · exact State.runsTo_of rfl (fun n hn => by simp [State.secondRollaway, State.markCollected, hn]) rfl rfl
  · exact State.runsTo_refl

/-! ## The channels at a wake (R101) -/

/-- A channel that is fitted and not FAULTED takes its lift line's level at a wake: LIFTED just where the line is raised, and in
a state of E where it is not (R97 to R99, R101). -/
theorem Channel.wake_line {ch : Channel} {line : LiftLine} (hf : ch.state ≠ .faulted) (ha : ch.state ≠ .absent)
    (raised : Bool) (c : Chan) :
    (ch.wake (some line) raised c).lift = raised ∧
      ((ch.wake (some line) raised c).state.tested = !raised) ∧
      ((ch.wake (some line) raised c).state = .lifted ↔ raised = true) := by
  unfold Channel.wake
  rw [if_neg (by simp [hf])]
  unfold Channel.takeLift Channel.lifted Channel.joining
  cases raised <;> cases hs : ch.state <;> simp_all [ChanState.tested]

/-- A wake starts the PWM periods of every channel (R85). -/
theorem Channel.wake_pwm (ch : Channel) (line : Option LiftLine) (raised : Bool) (c : Chan) :
    (ch.wake line raised c).pwm = some (Config.ms c.val) := by
  unfold Channel.wake Channel.takeLift Channel.lifted Channel.joining
  dsimp only
  repeat' split
  all_goals rfl

/-! ## The part as a wake begins it -/

/-- The channels of a wake before its run, each as its lift line reads (R101). -/
theorem State.rewired_get (s : State) (c : Chan) :
    s.roused.rewired.chans.get c = (s.chans.get c).wake (s.items c).line (s.roused.liftLevel c) c := by
  simp [State.rewired, State.roused, State.items, State.liftLevel]

theorem State.roused_liftLevel {c : Chan} {line : LiftLine} (h : (s.items c).line = some line) :
    s.roused.liftLevel c = (s.lines.lift line).raw := by
  have hi : (s.roused.items c).line = some line := h
  unfold State.liftLevel
  rw [hi]
  cases line <;> rfl

theorem State.waking_runsTo (s : State) : s.roused.rewired.runsTo s.waking := by
  have hw : s.roused.rewired.runsTo s.roused.rewired.deriveWeight := State.runsTo_of rfl (fun _ h => h) rfl rfl
  have hd := State.distributeWith_runsTo s.roused.rewired.deriveWeight s.roused.rewired.deriveWeight.meas.loads true
  refine State.runsTo_trans hw (State.runsTo_trans hd ?_)
  unfold State.waking
  dsimp only
  generalize s.roused.rewired.deriveWeight.distributeWith s.roused.rewired.deriveWeight.meas.loads true = u
  exact State.runsTo_withMon rfl

theorem State.waking_fixtures (s : State) : s.waking.fixtures = s.roused.rewired.fixtures := by
  unfold State.waking
  dsimp only
  rw [State.withMon_fixtures, State.distributeWith_fixtures]
  rfl

/-- A wake takes every line as it reads (R83, R137, R143). -/
theorem State.waking_lines (s : State) : s.waking.lines = s.lines.settle := by
  simp [State.waking, State.rewired, State.roused]

theorem State.waking_force (s : State) : s.waking.force = s.force := by
  simp [State.waking, State.rewired, State.roused]

/-- The run of a wake is the one that its measurements call for (R101). -/
theorem State.waking_settled (s : State) : s.waking.settled := by
  unfold State.settled State.waking
  dsimp only
  have h := State.distributeWith_settled s.roused.rewired.deriveWeight s.roused.rewired.deriveWeight.meas.loads true
  have hm := State.distributeWith_meas s.roused.rewired.deriveWeight s.roused.rewired.deriveWeight.meas.loads true
  generalize s.roused.rewired.deriveWeight.distributeWith s.roused.rewired.deriveWeight.meas.loads true = u at h hm ⊢
  rw [State.withMon_dist, State.withMon_meas, hm]
  exact h

end Sys2Proof.Machine

/-! # The causes of a wake (O25) -/

namespace Sys2Proof.Machine

variable {s t x : State} {cause : WakeCause}

/-- The cause wakes a part in SLEEP (R164). -/
def State.rousedBy (s : State) : WakeCause → Prop
  | .chipSelect => True
  | .line reading => s.lines.wakes reading = true
  | .pulse n => s.limitBy n

/-- The part as the cause of its wake finds it: the line as it reads, the pulse counted (R123, R135). -/
def State.stirred (s : State) : WakeCause → State
  | .chipSelect => s
  | .line reading => s.withLines (s.lines.readRaw reading)
  | .pulse n => s.pulsed n

/-- What the cause does once the part is awake: a limit pulse acts by the stage (R129). -/
def State.struck (s : State) : WakeCause → State
  | .chipSelect => s
  | .line _ => s
  | .pulse _ => s.limitPulse

/-- A wake is the wake over what its cause has stirred, with what the cause then does, ended as every event (R164). -/
theorem exec_wake_rouses (hp : s.powered = true) (hm : s.ctl.mode = .sleep) (hc : s.rousedBy cause) :
    exec (.wake cause) s = .next (State.conclude s ((s.stirred cause).wakeUp.struck cause)) := by
  have hw : s.awake = false := by simp [State.awake, hm]
  cases cause with
  | chipSelect =>
    show Host.Outcome.next (if s.powered ∧ s.ctl.mode = .sleep then _ else _) = _
    rw [if_pos ⟨hp, hm⟩]
    rfl
  | line reading =>
    have hr : s.lines.wakes reading = true := hc
    show Host.Outcome.next (s.lineChange reading) = _
    unfold State.lineChange
    rw [if_neg (by simp [hw])]
    dsimp only
    rw [if_pos (by simp [hp, hr])]
    rfl
  | pulse n =>
    show Host.Outcome.next (s.event fun t => t.pulse n) = _
    rw [State.event_powered hp, State.pulse_limit hc, if_neg (by simp [hw])]
    rfl

/-! ## What the cause leaves -/

/-- The blocks that no cause touches before the part is awake. -/
structure State.stirsTo (s x : State) : Prop where
  ctl : x.ctl = s.ctl
  link : x.link = s.link
  table : x.table = s.table
  chans : x.chans = s.chans
  dist : x.dist = s.dist
  force : x.force = s.force
  gate : x.gate = s.gate
  store : x.store = s.store
  meas : x.meas = s.meas ∨ x.meas = s.meas.endStandstill
  lift : ∀ line, (x.lines.lift line).raw = (s.lines.lift line).raw

theorem Lines.readRaw_lift {l : Lines} {r : LineReading} (h : l.wakes r = true) (line : LiftLine) :
    (l.readRaw r).lift line = l.lift line := by
  cases r with
  | lift _ _ => cases h
  | _ => cases line <;> rfl

theorem State.stirred_stirs (hc : s.rousedBy cause) : s.stirsTo (s.stirred cause) := by
  cases cause with
  | chipSelect => exact ⟨rfl, rfl, rfl, rfl, rfl, rfl, rfl, rfl, .inl rfl, fun _ => rfl⟩
  | line reading =>
    exact ⟨rfl, rfl, rfl, rfl, rfl, rfl, rfl, rfl, .inl rfl, fun line => congrArg Line.raw (Lines.readRaw_lift hc line)⟩
  | pulse n =>
    constructor
    case meas =>
      rw [State.stirred, State.pulsed_meas]
      split
      · exact .inr rfl
      · exact .inl rfl
    all_goals simp [State.stirred, State.pulsed]

/-- Without a pulse the monitor stands until the part is awake. -/
theorem State.stirred_mon (h : ∀ n, cause ≠ .pulse n) : (s.stirred cause).mon = s.mon := by
  cases cause with
  | chipSelect => rfl
  | line _ => rfl
  | pulse n => exact absurd rfl (h n)

theorem State.struck_idle (h : ∀ n, cause ≠ .pulse n) : s.struck cause = s := by
  cases cause with
  | chipSelect => rfl
  | line _ => rfl
  | pulse n => exact absurd rfl (h n)

/-! ## What the cause then leaves -/

@[simp] theorem State.struck_ctl (s : State) (cause : WakeCause) : (s.struck cause).ctl = s.ctl := by
  cases cause <;> simp [State.struck]

@[simp] theorem State.struck_meas (s : State) (cause : WakeCause) : (s.struck cause).meas = s.meas := by
  cases cause <;> simp [State.struck]

@[simp] theorem State.struck_lines (s : State) (cause : WakeCause) : (s.struck cause).lines = s.lines := by
  cases cause <;> simp [State.struck]

@[simp] theorem State.struck_store (s : State) (cause : WakeCause) : (s.struck cause).store = s.store := by
  cases cause <;> simp [State.struck]

@[simp] theorem State.struck_fixtures (s : State) (cause : WakeCause) : (s.struck cause).fixtures = s.fixtures := by
  cases cause <;> simp [State.struck]

@[simp] theorem State.struck_course (s : State) (cause : WakeCause) : (s.struck cause).mon.course = s.mon.course := by
  cases cause <;> simp [State.struck]

theorem State.struck_runsTo (s : State) (cause : WakeCause) : s.runsTo (s.struck cause) := by
  cases cause with
  | chipSelect => exact State.runsTo_refl
  | line _ => exact State.runsTo_refl
  | pulse n => exact s.limitPulse_runsTo

/-! ## What every wake leaves -/

section Wakes

variable (hx : s.stirsTo x) (ht : Sequel (x.wakeUp.struck cause) t)

include ht in
theorem State.wakes_runsTo : x.roused.rewired.runsTo t := by
  have hwake : x.waking.runsTo x.wakeUp := x.waking.pendantAsRead_runsTo
  have hend := State.runsTo_trans (x.wakeUp.struck_runsTo cause) ht.runsTo
  exact State.runsTo_trans x.waking_runsTo (State.runsTo_trans hwake hend)

include hx ht

/-- START with the first keepalive due, whatever the event opens (R153, R164). -/
theorem State.wakes_ctl :
    t.ctl =
      { s.ctl with
        mode := .start
        timer := .running 0
        token := 0
        phase := .first
        window := none
        clock := .measuring 0 } := by
  rw [ht.ctl, State.struck_ctl, State.wakeUp_eq, State.pendantAsRead_ctl, State.waking_ctl, hx.ctl]
  rfl

/-- A wake and its event leave the profile. -/
theorem State.wakes_store : t.store = s.store := by
  rw [ht.store, State.struck_store, State.wakeUp_eq, State.pendantAsRead_store, State.waking_store, hx.store]

/-- The answer, the enables and the PWM counts are those of the wake (R85, R164). -/
theorem State.wakes_fixtures :
    t.link.slot = ⟨0, .done, .none, [0, 0, 0, 0, 0, 0, 0, 0]⟩ ∧ t.link.enable = s.link.enable ∧
      ∀ c, (t.chans.get c).pwm = some (Config.ms c.val) ∧ (t.chans.get c).lift = (x.roused.rewired.chans.get c).lift := by
  have hf : t.fixtures = x.roused.rewired.fixtures := by
    rw [ht.fixtures, State.struck_fixtures, State.wakeUp_eq, State.pendantAsRead_fixtures, State.waking_fixtures]
  have hc : ∀ c, ((t.chans.get c).pwm, (t.chans.get c).lift) =
      ((x.roused.rewired.chans.get c).pwm, (x.roused.rewired.chans.get c).lift) := fun c => by
    simpa only [State.fixtures, Six.get_ofFn] using congrArg (fun f => Six.get f.2.2 c) hf
  have hslot : t.link.slot = x.roused.rewired.link.slot := congrArg (fun f => f.1) hf
  have henable : t.link.enable = x.roused.rewired.link.enable := congrArg (fun f => f.2.1) hf
  refine ⟨hslot, henable.trans (congrArg (fun l => l.enable) hx.link), fun c => ?_⟩
  obtain ⟨hp, hl⟩ := Prod.mk.inj (hc c)
  exact ⟨by rw [hp, State.rewired_get, Channel.wake_pwm], hl⟩

omit hx in
/-- MODE is raised, and nothing takes it back (R164). -/
theorem State.wakes_mode : t.link.pending.getLsbD 6 = true := by
  have hr : x.roused.rewired.link.pending = x.link.pending ||| Source.mode.bit := rfl
  exact (State.wakes_runsTo ht).bits 6 (by rw [hr]; simp [Source.bit])

/-- The sensors are UNREAD, the window empty and the first sample set 10 ms away, and G and the levels at the pins stand
(R32, R34, R35, R43). -/
theorem State.wakes_meas :
    (∀ c, t.meas.psv.get c = .unread ∧ t.meas.psu.get c = .unread) ∧ t.meas.window = [] ∧ t.meas.driveAge = .stopped ∧
      t.meas.grade = s.meas.grade ∧ t.meas.sampleTimer = .running 0 ∧ t.meas.inputs = s.meas.inputs := by
  obtain ⟨loads, u, -, hw⟩ := x.waking_meas
  have hm : t.meas = x.waking.meas := by
    rw [ht.meas, State.struck_meas, State.wakeUp_eq, State.pendantAsRead_meas]
  rw [hm, hw]
  have hkept : x.meas.grade = s.meas.grade ∧ x.meas.inputs = s.meas.inputs := by
    rcases hx.meas with h | h
    · rw [h]
      exact ⟨rfl, rfl⟩
    · rw [h]
      exact ⟨rfl, rfl⟩
  exact ⟨fun c => ⟨by simp [Measure.wake], by simp [Measure.wake]⟩, rfl, rfl, hkept.1, rfl, hkept.2⟩

omit hx in
theorem State.wakes_lines : t.lines = x.lines.settle := by
  obtain ⟨-, -, hl, -⟩ := ht.keepsRest
  rw [hl, State.struck_lines, State.wakeUp_eq, State.pendantAsRead_lines, State.waking_lines]

/-- Every lift line has the level it reads (R83, R101). -/
theorem State.wakes_lift (line : LiftLine) :
    t.lines.lift line = ⟨(s.lines.lift line).raw, (s.lines.lift line).raw, .stopped⟩ := by
  have hl : t.lines.lift line = (x.lines.lift line).settle := by
    rw [State.wakes_lines ht]
    cases line <;> rfl
  rw [hl, Line.settle, hx.lift]

omit hx in
/-- The driver is present as the SEAT line reads (R137). -/
theorem State.wakes_driver : t.mon.driverPresent = t.lines.seat.raw := by
  have hc : t.mon.course = x.wakeUp.mon.course := by rw [ht.course, State.struck_course]
  rw [State.wakeUp_course] at hc
  have hd : t.mon.driverPresent = x.lines.seat.raw := congrArg (fun m => m.1.driverPresent) hc
  rw [hd, State.wakes_lines ht]
  rfl

omit hx in
/-- The pendant pair is what its lines read, and a LINE_FAULT then read raises SENSOR (R140, R143). -/
theorem State.wakes_pair :
    t.lines.pair = pairRead t.lines.pa t.lines.pb ∧ (t.lines.pa = t.lines.pb → t.link.pending.getLsbD 5 = true) ∧
      t.lines.pa = x.lines.pa ∧ t.lines.pb = x.lines.pb := by
  have hl := State.wakes_lines ht
  have hpair : t.lines.pair = pairRead t.lines.pa t.lines.pb := by
    rw [hl, ← pairOf_eq]
    rfl
  refine ⟨hpair, fun he => ?_, by rw [hl]; rfl, by rw [hl]; rfl⟩
  have hfault : x.waking.lines.pair = .lineFault := by
    rw [State.waking_lines, ← hl, hpair, pairRead, if_pos he]
  have hwake : x.wakeUp.link.pending.getLsbD 5 = true := by
    rw [State.wakeUp_eq, State.pendantAsRead, if_pos (by rw [hfault]; rfl), if_pos hfault]
    exact (State.pendantOpen_runsTo _ _).bits 5 (by simp [Source.bit])
  exact ht.runsTo.bits 5 ((x.wakeUp.struck_runsTo cause).bits 5 hwake)

/-- A FAULTED channel stands but for its PWM count (R101). -/
theorem State.wakes_faulted {c : Chan} (hf : (s.chans.get c).state = .faulted) :
    t.chans.get c = { s.chans.get c with pwm := some (Config.ms c.val) } := by
  have hget : x.roused.rewired.chans.get c = { s.chans.get c with pwm := some (Config.ms c.val) } := by
    rw [State.rewired_get, hx.chans, Channel.wake_faulted hf]
  rw [(State.wakes_runsTo ht).stands c (by rw [hget]; simp [hf, ChanState.tested]), hget]

/-- Every other channel on a lift line takes the level that the line reads (R97 to R99, R101). -/
theorem State.wakes_onLine (hd : s.distSound) {c : Chan} {line : LiftLine} (hf : (s.chans.get c).state ≠ .faulted)
    (hi : (s.items c).isFitted = true) (hl : (s.items c).line = some line) :
    (t.chans.get c).lift = (s.lines.lift line).raw ∧
      ((t.chans.get c).state = .lifted ↔ (s.lines.lift line).raw = true) := by
  obtain ⟨-, -, habsent, -⟩ := hd c
  have hpresent : (s.chans.get c).state ≠ .absent := fun h => by
    rw [habsent.1 h] at hi
    cases hi
  have hitem : (x.items c).line = some line := by
    rw [State.items, hx.store]
    exact hl
  have hget : x.roused.rewired.chans.get c = (s.chans.get c).wake (some line) (s.lines.lift line).raw c := by
    rw [State.rewired_get, hx.chans, State.roused_liftLevel hitem, hitem, hx.lift]
  obtain ⟨hlift, htested, hstate⟩ := Channel.wake_line (line := line) hf hpresent (s.lines.lift line).raw c
  rw [← hget] at hlift htested hstate
  have hrun := State.wakes_runsTo ht
  obtain ⟨-, -, hfix⟩ := State.wakes_fixtures hx ht
  refine ⟨(hfix c).2.trans hlift, ?_⟩
  cases hraw : (s.lines.lift line).raw with
  | true =>
    rw [hraw] at htested hstate
    rw [hrun.stands c htested, hstate]
  | false =>
    rw [hraw] at htested
    have ht' := (hrun.tested c).trans htested
    refine ⟨fun h => ?_, nofun⟩
    rw [h] at ht'
    cases ht'

end Wakes

end Sys2Proof.Machine

/-! # The rollaway of a limit pulse that wakes (O25) -/

namespace Sys2Proof.Machine

variable {s t x : State}

/-! ## Where no rollaway has been caught -/

/-- The stage is NONE and no ROLLAWAY record is live (R129). -/
def State.unrolled (s : State) : Prop := s.mon.stage = .none ∧ ∀ r ∈ s.table.records, r.cause ≠ some .rollaway

theorem isRollaway_of {records : List Record} (h : ∀ r ∈ records, r.cause ≠ some .rollaway) :
    records.any Record.isRollaway = false :=
  List.any_eq_false.2 fun r hr => by simpa [Record.isRollaway] using h r hr

/-- Retirements of other records leave the stage (R133). -/
theorem Monitor.retired_stage {m : Monitor} {gone : List Record} (h : ∀ r ∈ gone, r.cause ≠ some .rollaway) :
    (m.retired gone).stage = m.stage := by
  unfold Monitor.retired
  rw [isRollaway_of h]
  dsimp only
  split <;> simp

/-- Records heard by a report keep their causes. -/
theorem heardRecords_cause {b : Bool} {records : List Record} {p : Option Cause → Prop} (h : ∀ r ∈ records, p r.cause) :
    ∀ r ∈ heardRecords b records, p r.cause := by
  intro r hr
  obtain ⟨y, hy, rfl | rfl⟩ := mem_heardRecords hr
  · exact h _ hy
  · simpa using h y hy

theorem State.reportConfirmed_unrolled (h : s.unrolled) : s.reportConfirmed.unrolled := by
  obtain ⟨hstage, hrec⟩ := h
  unfold State.reportConfirmed State.engagingToHeld
  split
  · have hno : (s.table.records.any fun r => r.isRollaway && r.state == .engaging) = false :=
      List.any_eq_false.2 fun r hr => by simp [Record.isRollaway, hrec r hr]
    dsimp only
    rw [hno, if_neg (by simp)]
    exact ⟨hstage, heardRecords_cause (b := true) (p := fun c => c ≠ some .rollaway) hrec⟩
  · exact ⟨hstage, hrec⟩

theorem State.distributeWith_unrolled (h : s.unrolled) (loads : Six Nat) (fresh : Bool) :
    (s.distributeWith loads fresh).unrolled := by
  refine State.reportConfirmed_unrolled ?_
  unfold State.raiseShort
  split
  · exact h
  · exact h

theorem State.holdSetChange_unrolled (h : s.unrolled) (parkBefore : Bool) : (s.holdSetChange parkBefore).unrolled := by
  have hu : ((s.withForce s.calculate).withTable
      { s.table with applied := s.calculate.fReq, relief := .stopped }).unrolled := h
  rcases s.holdSetChange_cases parkBefore with ⟨he, -⟩ | he
  · rwa [he]
  · rw [he]
    exact State.distributeWith_unrolled hu _ _

theorem State.retire_unrolled (h : s.unrolled) (n : Nat) (driveOff : Bool) : (s.retire n driveOff).unrolled := by
  obtain ⟨hstage, hrec⟩ := h
  have hparting : (s.parting n).unrolled :=
    ⟨(Monitor.retired_stage fun r hr => hrec r (List.mem_filter.1 hr).1).trans hstage,
      fun r hr => hrec r (mem_othersThan.1 hr).1⟩
  obtain ⟨hchanged, hkept⟩ := State.holdSetChange_unrolled hparting (parkLive s.table.records)
  rw [State.retire_eq]
  split
  · cases driveOff <;> exact ⟨hchanged, hkept⟩
  · exact ⟨hchanged, hkept⟩

/-- The opening of the pendant's record catches no rollaway. -/
theorem State.openPendant_unrolled (h : s.unrolled) : (s.openRecord pendantRecord).unrolled := by
  obtain ⟨hstage, hrec⟩ := h
  have hseating : (s.seating pendantRecord).unrolled := by
    refine ⟨(Monitor.retired_stage fun r hr => hrec r (List.mem_filter.1 hr).1).trans hstage, fun r hr => ?_⟩
    rcases List.mem_append.1 hr with hk | hn
    · exact hrec r (mem_notReleasing.1 hk).1
    · rw [List.mem_singleton.1 hn]
      exact nofun
  have hchange := State.holdSetChange_unrolled hseating (parkLive s.table.records)
  rw [State.openRecord_eq]
  refine State.reportConfirmed_unrolled ?_
  unfold State.opening
  split
  · exact hchange
  · exact hchange

theorem State.gateEvaluate_unrolled (h : s.unrolled) : s.gateEvaluate.unrolled := by
  unfold State.gateEvaluate
  split
  · exact State.retire_unrolled h _ _
  · exact h

theorem State.gateDecide_unrolled (h : s.unrolled) : s.gateDecide.unrolled := by
  unfold State.gateDecide
  dsimp only
  split
  · split
    · exact h
    · split
      · exact h
      · exact State.gateEvaluate_unrolled h
  · exact h

theorem State.armed_unrolled (h : s.unrolled) (n : Nat) : (s.armed n).unrolled := by
  obtain ⟨hstage, hrec⟩ := h
  refine ⟨hstage, fun r hr => ?_⟩
  obtain ⟨y, hy, rfl⟩ := List.mem_map.1 hr
  split
  · exact hrec y hy
  · exact hrec y hy

theorem State.release_unrolled (h : s.unrolled) (r : Record) : (s.release r).unrolled := by
  unfold State.release
  split
  · exact h
  · split
    · exact State.retire_unrolled h _ _
    · exact State.gateEvaluate_unrolled (State.gateDecide_unrolled (State.armed_unrolled h r.handle))

theorem State.pendantOpen_unrolled (h : s.unrolled) (told : Bool) : (s.pendantOpen told).unrolled := by
  unfold State.pendantOpen State.pendantTry
  split
  · split
    · exact h
    · split
      · exact State.openPendant_unrolled h
      · cases told <;> exact h
  · exact h

theorem State.pendantStop_unrolled (h : s.unrolled) : s.pendantStop.unrolled := by
  unfold State.pendantStop
  dsimp only
  split
  · split
    · exact h
    · exact State.release_unrolled (s := s.want .none) h _
  · exact h

theorem State.pendantAsRead_unrolled (h : s.unrolled) : s.pendantAsRead.unrolled := by
  unfold State.pendantAsRead
  split
  · split
    · exact State.pendantOpen_unrolled (s := s.raise .sensor) h false
    · exact State.pendantOpen_unrolled h false
  · exact State.pendantStop_unrolled h

theorem State.wakeUp_unrolled (h : s.unrolled) : s.wakeUp.unrolled := by
  have hrun := State.distributeWith_unrolled (s := s.roused.rewired.deriveWeight) h
    s.roused.rewired.deriveWeight.meas.loads true
  rw [State.wakeUp_eq]
  refine State.pendantAsRead_unrolled ?_
  unfold State.waking
  dsimp only
  generalize s.roused.rewired.deriveWeight.distributeWith s.roused.rewired.deriveWeight.meas.loads true = u at hrun ⊢
  exact hrun

theorem State.pulsed_unrolled (h : s.unrolled) (n : Chan) : (s.pulsed n).unrolled := by
  obtain ⟨hstage, hrec⟩ := h
  refine ⟨?_, by simpa [State.pulsed] using hrec⟩
  rw [State.pulsed_mon]
  unfold Monitor.count
  split
  · exact hstage
  · exact hstage

/-! ## The first limit pulse -/

/-- The first limit pulse opens the ROLLAWAY hold and raises ROLLAWAY (R129, R130). -/
theorem State.limitPulse_first (h : s.unrolled) :
    s.limitPulse.noneReleasing ∧ (∃ r ∈ s.limitPulse.table.records, r.cause = some .rollaway) ∧
      s.limitPulse.link.pending.getLsbD 1 = true := by
  obtain ⟨hstage, hrec⟩ := h
  obtain ⟨u, hu⟩ : ∃ u, u = s.withMon { s.mon with stage := .caught } := ⟨_, rfl⟩
  have hcause : u.hasCause .rollaway = false := by
    rw [Bool.eq_false_iff, ne_eq, State.hasCause_iff, hu]
    rintro ⟨r, hr, hrc⟩
    exact hrec r hr hrc
  have hpulse : s.limitPulse =
      ((u.openRecord (monitorRecord .rollaway)).raiseHolds u.table.newHandle .none).raise .rollaway := by
    unfold State.limitPulse
    rw [hstage]
    dsimp only
    unfold State.firstRollaway State.monitorOpening
    rw [← hu, if_neg (by simp [hcause])]
  obtain ⟨r, hr, hrc, -⟩ := u.openRecord_hasCause .rollaway
  rw [hpulse]
  refine ⟨?_, ⟨r, by simpa using hr, hrc⟩, by simp [Source.bit]⟩
  exact State.openRecord_noneReleasing u (monitorRecord_state .rollaway)

end Sys2Proof.Machine

/-! # The holds through a wake (O25) -/

namespace Sys2Proof.Machine

variable {s t u x : State} {cause : WakeCause}

/-! ## What a limit pulse leaves of the holds -/

/-- Holds added at their end, none of them being released, with forces that stay fresh. -/
def State.addsTo (s t : State) : Prop :=
  t.noneReleasing ∧ holdSet s.table.records <+: holdSet t.table.records ∧ (s.freshForce → t.freshForce)

theorem State.addsTo_refl (h : s.noneReleasing) : s.addsTo s := ⟨h, List.prefix_refl _, id⟩

theorem Sequel.adds (h : Sequel s t) (hs : s.noneReleasing) : s.addsTo t := ⟨h.noneReleasing hs, h.holds hs, h.freshForce⟩

/-- A rollaway record's mark leaves the holds (R18). -/
theorem State.secondRollaway_adds (hs : s.noneReleasing) : s.addsTo s.secondRollaway := by
  have hmark : s.secondRollaway.table =
      { s.table with
        records := s.table.records.map fun r => if r.isRollaway then { r with collected := false } else r } := rfl
  have hset : holdSet s.secondRollaway.table.records = holdSet s.table.records := by
    rw [hmark]
    exact holdSet_map (fun r => by split <;> rfl) (fun r => by split <;> rfl) _
  refine ⟨fun r hr => ?_, by rw [hset], State.freshForce_congr rfl rfl rfl rfl hset⟩
  rw [hmark] at hr
  obtain ⟨y, hy, rfl⟩ := List.mem_map.1 hr
  split
  · exact hs y hy
  · exact hs y hy

theorem State.limitPulse_adds (hs : s.noneReleasing) : s.addsTo s.limitPulse := by
  unfold State.limitPulse
  split
  · have hq := (sequel_monitorOpening (s.withMon { s.mon with stage := .caught }) .rollaway).adds hs
    obtain ⟨hn, hp, hf⟩ := hq
    exact ⟨hn, hp, fun h => State.freshForce_congr rfl rfl rfl rfl rfl (hf (State.freshForce_withMon _ h))⟩
  · exact State.addsTo_refl hs
  · exact State.secondRollaway_adds hs
  · exact State.addsTo_refl hs

/-- An opening of the part's own brings no PENDANT record. -/
theorem State.monitorOpening_owners (c : Cause) (h : ∀ r ∈ s.table.records, r.owner ≠ .pendant) :
    ∀ r ∈ (s.monitorOpening c).table.records, r.owner ≠ .pendant := by
  unfold State.monitorOpening
  split
  · exact h
  · intro r hr
    rw [State.raiseHolds_table, State.openRecord_records] at hr
    obtain ⟨y, hy, he⟩ := mem_heardRecords hr
    have ho : y.owner ≠ .pendant := by
      rcases List.mem_append.1 hy with hk | hn
      · exact h y (mem_notReleasing.1 hk).1
      · rw [List.mem_singleton.1 hn]
        exact nofun
    rcases he with rfl | rfl
    · exact ho
    · simpa using ho

theorem State.limitPulse_owners (h : ∀ r ∈ s.table.records, r.owner ≠ .pendant) :
    ∀ r ∈ s.limitPulse.table.records, r.owner ≠ .pendant := by
  unfold State.limitPulse
  split
  · exact State.monitorOpening_owners (s := s.withMon { s.mon with stage := .caught }) .rollaway h
  · exact h
  · intro r hr
    obtain ⟨y, hy, rfl⟩ := List.mem_map.1 hr
    split
    · exact h y hy
    · exact h y hy
  · exact h

/-- A limit pulse leaves what the pendant wants. -/
theorem State.limitPulse_want (s : State) : s.limitPulse.mon.pendantWant = s.mon.pendantWant := by
  unfold State.limitPulse
  split
  · show ((s.withMon { s.mon with stage := .caught }).monitorOpening .rollaway).mon.pendantWant = _
    unfold State.monitorOpening
    split
    · rfl
    · rw [State.raiseHolds_mon]
      exact State.wants_of_aside (State.openRecord_aside _ _)
  · rfl
  · rfl
  · rfl

theorem State.struck_adds (hs : s.noneReleasing) (cause : WakeCause) : s.addsTo (s.struck cause) := by
  cases cause with
  | chipSelect => exact State.addsTo_refl hs
  | line _ => exact State.addsTo_refl hs
  | pulse n => exact State.limitPulse_adds hs

theorem State.struck_owners (h : ∀ r ∈ s.table.records, r.owner ≠ .pendant) (cause : WakeCause) :
    ∀ r ∈ (s.struck cause).table.records, r.owner ≠ .pendant := by
  cases cause with
  | chipSelect => exact h
  | line _ => exact h
  | pulse n => exact State.limitPulse_owners h

theorem State.struck_want (s : State) (cause : WakeCause) : (s.struck cause).mon.pendantWant = s.mon.pendantWant := by
  cases cause with
  | chipSelect => rfl
  | line _ => rfl
  | pulse n => exact s.limitPulse_want

/-- The pendant's opening, made or owed, ends no hold (R26). -/
theorem State.pendantOpen_adds (hs : s.noneReleasing) (told : Bool) : s.addsTo (s.pendantOpen told) := by
  have hwant : ∀ w, s.addsTo (s.want w) := fun w => (Follow.want w).one.adds hs
  have howed : s.addsTo ((s.raiseHolds 0 .full).want .untilRoom) :=
    ⟨hs, List.prefix_refl _, State.freshForce_congr rfl rfl rfl rfl rfl⟩
  unfold State.pendantOpen State.pendantTry
  split
  · rename_i hf
    split
    · exact hwant _
    · split
      · rename_i hn
        exact (Follow.pendant hf hn).one.adds hs
      · cases told
        · exact howed
        · exact hwant _
  · exact hwant _

/-- In START, with no opening of the pendant's owed for lack of room, nothing follows an event (R26, R138). -/
theorem State.conclude_start (before : State) (hm : s.ctl.mode = .start) (hw : s.mon.pendantWant ≠ .untilRoom) :
    State.conclude before s = s.refreshWarn := by
  have hpark : s.autoparkEvaluate = s := by simp [State.autoparkEvaluate, State.autoparkMet, hm]
  have hretry : s.pendantRetry = s := by simp [State.pendantRetry, hw]
  unfold State.conclude
  simp only [hpark, ite_self, hretry]

/-! ## The table as the pendant finds it -/

/-- Asleep no release is under way (R162). -/
theorem State.asleep_idle (hs : s.holdsSound) (hm : s.ctl.mode = .sleep) : s.gate = .idle ∧ s.noneReleasing := by
  have hg := (State.holdsSound_if (z := True) hs).2
  cases ha : s.gate.armed with
  | false => exact State.gateSoundIf_idle hg ha
  | true =>
    obtain ⟨-, -, -, -, -, hz⟩ := State.gateSoundIf_armed hg ha
    exact absurd hm (hz trivial)

/-- The holds of a part that wakes, before the pendant is read: those of its sleep, heard by the report of the wake's run, with
no release under way (R9, R101, R164). -/
structure State.rousesHolds (s w : State) : Prop where
  table : ∃ b, w.table = { s.table with records := heardRecords b s.table.records }
  before : s.table.sound
  sound : w.holdsSound
  gate : w.gate = .idle ∧ s.gate = .idle
  still : w.noneReleasing
  force : w.force = s.force
  mode : w.ctl.mode = .start
  vehicle : w.vehicle = s.vehicle

theorem State.waking_rousesHolds (hs : s.holdsSound) (hm : s.ctl.mode = .sleep) (hx : s.stirsTo x) :
    s.rousesHolds x.waking := by
  obtain ⟨hg, hn⟩ := State.asleep_idle hs hm
  obtain ⟨b, hb⟩ := x.waking_table
  rw [hx.table] at hb
  have hgate : x.waking.gate = .idle := by rw [State.waking_gate, hx.gate, hg]
  have hstill : x.waking.noneReleasing := by
    rw [State.noneReleasing, hb]
    exact heardRecords_noneReleasing hn
  refine ⟨⟨b, hb⟩, hs.1, State.holdsSoundIf_true.1 ⟨?_, State.gateSoundIf_of_idle hgate hstill⟩, ⟨hgate, hg⟩, hstill,
    ?_, ?_, ?_⟩
  · exact HoldTable.sound_heard hs.1 (b := b) (by rw [hb]) (by rw [hb])
  · rw [State.waking_force, hx.force]
  · rw [State.waking_ctl]
  · rw [State.vehicle, State.waking_store, hx.store]
    rfl

section Roused

variable {w : State} (h : s.rousesHolds w)

include h

theorem State.rousesHolds_holdSet : holdSet w.table.records = holdSet s.table.records := by
  obtain ⟨b, hb⟩ := h.table
  rw [hb, heardRecords_holdSet]

/-- A record of the sleep is live after the run, moved to HELD at most (R9). -/
theorem State.rousesHolds_mem {r : Record} (hr : r ∈ s.table.records) :
    ∃ r' ∈ w.table.records, r'.handle = r.handle ∧ r'.owner = r.owner := by
  obtain ⟨b, hb⟩ := h.table
  rw [hb]
  rcases mem_heardRecords_of (b := b) hr with hm | hm
  · exact ⟨r, hm, rfl, rfl⟩
  · exact ⟨r.hold, hm, by simp, by simp⟩

theorem State.rousesHolds_noPendant (hno : ∀ r ∈ s.table.records, r.owner ≠ .pendant) :
    ∀ r ∈ w.table.records, r.owner ≠ .pendant := by
  obtain ⟨b, hb⟩ := h.table
  intro r hr
  rw [hb] at hr
  obtain ⟨y, hy, rfl | rfl⟩ := mem_heardRecords hr
  · exact hno _ hy
  · simpa using hno y hy

/-! ## The pendant as read over them (R143) -/

/-- A line that asks over a PENDANT record asks for nothing more (R141). -/
theorem State.reads_needless (ha : w.lines.pair ≠ .notAsking) {r : Record} (hr : r ∈ s.table.records)
    (ho : r.owner = .pendant) :
    w.pendantAsRead = (if w.lines.pair = .lineFault then w.raise .sensor else w).want .none := by
  obtain ⟨r', hr', -, ho'⟩ := State.rousesHolds_mem h hr
  have hfree : w.pendantFree = false :=
    State.pendantFree_not h.sound fun hno => h.still r' hr' (hno r' hr' (ho'.trans ho))
  have hfree' : (w.raise .sensor).pendantFree = false := hfree
  unfold State.pendantAsRead State.pendantOpen
  rw [if_pos ((PairState.asks_iff _).2 ha)]
  split
  · rw [if_neg (by simp [hfree'])]
  · rw [if_neg (by simp [hfree])]

/-- A line that asks over no PENDANT record opens one, where the truck does not move and there is room (R26, R141). -/
theorem State.reads_opening (ha : w.lines.pair ≠ .notAsking) (hno : ∀ r ∈ s.table.records, r.owner ≠ .pendant)
    (hm : w.mon.motion ≠ .moving) (hc : nonMonitorCount s.table.records < 12) :
    w.pendantAsRead =
      ((if w.lines.pair = .lineFault then w.raise .sensor else w).openRecord pendantRecord).want .none := by
  have hnone := State.rousesHolds_noPendant h hno
  have hcount : nonMonitorCount w.table.records < 12 := by
    obtain ⟨b, hb⟩ := h.table
    rw [hb]
    exact (nonMonitorCount_of_owners (heardRecords_map Record.owner (fun r => by simp) b s.table.records)).trans_lt hc
  have hopen : ∀ v : State, v.table = w.table → v.mon = w.mon →
      v.pendantOpen false = (v.openRecord pendantRecord).want .none := by
    intro v hv hvm
    unfold State.pendantOpen State.pendantTry
    rw [if_pos (State.pendantFree_of fun r hr hp => absurd hp (hnone r (by rwa [hv] at hr))), if_neg (by rwa [hvm]),
      if_pos (by rwa [hv])]
  unfold State.pendantAsRead
  rw [if_pos ((PairState.asks_iff _).2 ha), hopen]
  · split <;> rfl
  · split <;> rfl

/-- A line that does not ask gives up what is owed, and over no PENDANT record no more (R142). -/
theorem State.reads_nothing (ha : w.lines.pair = .notAsking) (hno : ∀ r ∈ s.table.records, r.owner ≠ .pendant) :
    w.pendantAsRead = w.want .none := by
  unfold State.pendantAsRead
  have hlive := State.pendantLive_none (State.rousesHolds_noPendant h hno)
  rw [ha, if_neg (by simp [PairState.asks]), State.pendantStop_none hlive]

/-- A line that does not ask has the PENDANT record released (R27, R143). -/
theorem State.reads_release (ha : w.lines.pair = .notAsking) {r : Record} (hr : r ∈ w.table.records)
    (ho : r.owner = .pendant) :
    w.pendantAsRead = (w.want .none).release r := by
  have hlive : (w.want .none).pendantLive = some r := State.pendantLive_of h.sound hr ho
  have hsafe : (w.want .none).ctl.mode ≠ .safe := by
    show w.ctl.mode ≠ .safe
    rw [h.mode]
    exact nofun
  unfold State.pendantAsRead State.pendantStop
  rw [ha, if_neg (by simp [PairState.asks])]
  dsimp only
  rw [hlive]
  dsimp only
  rw [if_neg hsafe]

/-- Beside other holds the release retires the record (R19). -/
theorem State.reads_retirement (ha : w.lines.pair = .notAsking) {r : Record} (hr : r ∈ s.table.records)
    (ho : r.owner = .pendant) (hl : 1 < s.table.records.length) :
    w.pendantAsRead = (w.want .none).retire r.handle false := by
  obtain ⟨r', hr', hh, ho'⟩ := State.rousesHolds_mem h hr
  have hlen : 1 < w.table.records.length := by
    obtain ⟨b, hb⟩ := h.table
    simpa [hb] using hl
  obtain ⟨-, hret⟩ := State.release_retires (s := w.want .none) h.sound.1 h.still hr' hlen
  rw [State.reads_release h ha hr' (ho'.trans ho), hret, hh]

/-- The last hold is handed to the gate, which START suspends (R107, R113). -/
theorem State.reads_armed (ha : w.lines.pair = .notAsking) {r : Record} (ho : r.owner = .pendant)
    (hone : s.table.records = [r]) :
    w.pendantAsRead = (w.want .none).armed r.handle := by
  obtain ⟨r', hr', hh, ho'⟩ := State.rousesHolds_mem h (r := r) (by simp [hone])
  have hone' : w.table.records = [r'] := by
    obtain ⟨b, hb⟩ := h.table
    have hlen : w.table.records.length = 1 := by simp [hb, hone]
    obtain ⟨y, hy⟩ := List.length_eq_one_iff.1 hlen
    rw [hy, List.mem_singleton] at hr'
    rw [hy, hr']
  have hfirm : ¬(r'.cls = .park ∧ (w.want .none).lowSpring) := fun hp => by
    rw [Record.pendant_firm (h.sound.1.1 r' hr') (ho'.trans ho)] at hp
    cases hp.1
  have hrun : ¬((w.want .none).ctl.mode = .run ∧ (w.want .none).letsGo (w.want .none).force (w.want .none).meas.drive) :=
    fun hp => by
      have hstart : (w.want .none).ctl.mode = .start := h.mode
      rw [hstart] at hp
      cases hp.1
  obtain ⟨-, hrel⟩ := State.release_last (s := w.want .none) hone' (h.still r' hr')
  obtain ⟨-, hstays, -⟩ := State.armed_judged (s := w.want .none) hone'
  rw [State.reads_release h ha hr' (ho'.trans ho), hrel, hstays hfirm hrun, hh]

/-- The one PENDANT record of a sound table. -/
theorem State.rousesHolds_one {r y : Record} (hr : r ∈ w.table.records) (ho : r.owner = .pendant) (hy : y ∈ w.table.records)
    (hp : y.owner = .pendant) : y = r :=
  Option.some.inj ((State.pendantLive_of h.sound hy hp).symm.trans (State.pendantLive_of h.sound hr ho))

/-- The pendant as read leaves every hold of another owner, but where a PENDANT hold was the only one (R143). -/
theorem State.reads_keeps :
    (∃ r, s.table.records = [r] ∧ r.owner = .pendant) ∨
      w.pendantAsRead.noneReleasing ∧
        ∀ r ∈ s.table.records, r.owner ≠ .pendant → (r.handle, r.cls) ∈ holdSet w.pendantAsRead.table.records := by
  have hkept : ∀ r ∈ s.table.records, (r.handle, r.cls) ∈ holdSet w.table.records := fun r hr => by
    rw [State.rousesHolds_holdSet h]
    exact List.mem_map.2 ⟨r, hr, rfl⟩
  by_cases ha : w.lines.pair = .notAsking
  · by_cases hno : ∀ r ∈ s.table.records, r.owner ≠ .pendant
    · refine .inr ?_
      rw [State.reads_nothing h ha hno]
      exact ⟨h.still, fun r hr _ => hkept r hr⟩
    · simp only [not_forall, not_not] at hno
      obtain ⟨r, hr, ho⟩ := hno
      by_cases hl : 1 < s.table.records.length
      · refine .inr ?_
        rw [State.reads_retirement h ha hr ho hl]
        refine ⟨State.retire_noneReleasing (s := w.want .none) h.still _ _, fun y hy hne => ?_⟩
        obtain ⟨k, hk, he⟩ := List.mem_map.1 (hkept y hy)
        obtain ⟨hkh, -⟩ := Prod.mk.inj he
        rw [State.retire_holdSet, ← he]
        refine List.mem_map.2 ⟨k, List.mem_filter.2 ⟨hk, ?_⟩, rfl⟩
        have hyr : y.handle ≠ r.handle := fun hh => hne (HoldTable.sound_unique h.before hy hr hh ▸ ho)
        simpa [hkh] using hyr
      · refine .inl ⟨r, ?_, ho⟩
        obtain ⟨y, hy⟩ := List.length_eq_one_iff.1 (le_antisymm (not_lt.1 hl) (List.length_pos_of_mem hr))
        rw [hy, List.mem_singleton] at hr
        rw [hy, hr]
  · refine .inr ?_
    have hadds : w.addsTo w.pendantAsRead := by
      unfold State.pendantAsRead
      rw [if_pos ((PairState.asks_iff _).2 ha)]
      split
      · obtain ⟨hn, hp, hf⟩ := State.pendantOpen_adds (s := w.raise .sensor) h.still false
        exact ⟨hn, hp, fun hw => hf (State.freshForce_congr rfl rfl rfl rfl rfl hw)⟩
      · exact State.pendantOpen_adds h.still false
    obtain ⟨hn, hp, -⟩ := hadds
    exact ⟨hn, fun r hr _ => hp.subset (hkept r hr)⟩

/-! ## To the end of the wake's event -/

/-- Where the line asks as the table has it all stands but what the report of the wake's run heard (R101, R164). -/
theorem State.reads_stand (hset : w.settled) (ht : t = State.conclude s w.pendantAsRead)
    (ha : w.lines.pair = .notAsking ↔ ∀ r ∈ s.table.records, r.owner ≠ .pendant) :
    holdSet t.table.records = holdSet s.table.records ∧ t.table = { s.table with records := t.table.records } ∧
      t.gate = s.gate ∧ t.force = s.force ∧ t.dist = t.distribution t.meas.loads := by
  obtain ⟨v, hv, hread⟩ : ∃ v, (v = w ∨ v = w.raise .sensor) ∧ w.pendantAsRead = v.want .none := by
    by_cases hask : w.lines.pair = .notAsking
    · exact ⟨_, .inl rfl, State.reads_nothing h hask (ha.1 hask)⟩
    · have hlive : ¬∀ r ∈ s.table.records, r.owner ≠ .pendant := fun hno => hask (ha.2 hno)
      simp only [not_forall, not_not] at hlive
      obtain ⟨r, hr, ho⟩ := hlive
      refine ⟨_, ?_, State.reads_needless h hask hr ho⟩
      split
      · exact .inr rfl
      · exact .inl rfl
  obtain ⟨b, hb⟩ := h.table
  have htable : (v.want .none).table = w.table := by rcases hv with rfl | rfl <;> rfl
  have hend : t = (v.want .none).refreshWarn := by
    rw [ht, hread, State.conclude_of_heard (b := b) (by rw [htable, hb])]
  have htt : t.table = { s.table with records := heardRecords b s.table.records } := by
    rw [hend, State.refreshWarn_table, htable, hb]
  have hgate : t.gate = w.gate := by rw [hend]; rcases hv with rfl | rfl <;> rfl
  have hforce : t.force = w.force := by rw [hend]; rcases hv with rfl | rfl <;> rfl
  refine ⟨by rw [htt, heardRecords_holdSet], by rw [htt], by rw [hgate, h.gate.1, h.gate.2], hforce.trans h.force, ?_⟩
  rw [hend]
  rcases hv with rfl | rfl <;> exact hset

/-- A line that asks over no PENDANT record opens one, where there is room and the truck does not move (R26, R141, R143). -/
theorem State.reads_opened (ht : t = State.conclude s w.pendantAsRead) (ha : w.lines.pair ≠ .notAsking)
    (hm : w.mon.motion ≠ .moving) (hno : ∀ r ∈ s.table.records, r.owner ≠ .pendant)
    (hc : nonMonitorCount s.table.records < 12) : t.pendantOpened s s.table.records := by
  have hread := State.reads_opening h ha hno hm hc
  obtain ⟨v, hv, hve⟩ : ∃ v, v = (if w.lines.pair = .lineFault then w.raise .sensor else w) ∧
      (v = w ∨ v = w.raise .sensor) := by
    refine ⟨_, rfl, ?_⟩
    split
    · exact .inr rfl
    · exact .inl rfl
  rw [← hv] at hread
  have hvs : v.holdsSound := by rcases hve with rfl | rfl <;> exact h.sound
  have hvt : v.table = w.table := by rcases hve with rfl | rfl <;> rfl
  have hq : Sequel ((v.openRecord pendantRecord).want .none) t := by
    rw [← hread, ht]
    exact sequel_conclude s w.pendantAsRead
  have hwant : t.mon.pendantWant = .none := by
    rw [ht, hread]
    exact State.conclude_wants s (by simp [State.want])
  refine State.pendantOpened_of (s := s) (x := v) hvs.1 (State.openRecord_idle hvs.2 pendantRecord) hq hwant ?_ ?_
  · obtain ⟨b, hb⟩ := h.table
    intro hnil
    rw [hvt, hb, hnil, heardRecords_nil]
  · rw [hvt, notReleasing_of_none h.still, State.rousesHolds_holdSet h]

/-- A line that does not ask has a PENDANT record beside others retired (R19, R27, R143). -/
theorem State.reads_retired (ht : t = State.conclude s (w.pendantAsRead.struck cause)) (ha : w.lines.pair = .notAsking)
    {r : Record} (hr : r ∈ s.table.records) (ho : r.owner = .pendant) (hl : 1 < s.table.records.length) :
    holdSet (s.table.records.filter fun x => x.handle != r.handle) <+: holdSet t.table.records ∧
      (∀ x ∈ t.table.records, x.owner ≠ .pendant) ∧ t.freshForce := by
  have hread := State.reads_retirement h ha hr ho hl
  obtain ⟨y, hy⟩ : ∃ y, y = w.pendantAsRead := ⟨_, rfl⟩
  rw [← hy] at hread ht
  have hstill : y.noneReleasing := by
    rw [hread]
    exact State.retire_noneReleasing (s := w.want .none) h.still _ _
  have hfresh : y.freshForce := by
    rw [hread]
    exact State.retire_freshForce _ _ _
  have hset : holdSet y.table.records = holdSet (s.table.records.filter fun x => x.handle != r.handle) := by
    obtain ⟨b, hb⟩ := h.table
    rw [hread, State.retire_holdSet, State.want_table, hb]
    show holdSet (othersThan (heardRecords b s.table.records) r.handle) = _
    rw [heardRecords_othersThan, heardRecords_holdSet]
    rfl
  have howners : ∀ z ∈ y.table.records, z.owner ≠ .pendant := by
    obtain ⟨b, hb⟩ := (w.want .none).retire_records r.handle false
    obtain ⟨r', hr', hh, ho'⟩ := State.rousesHolds_mem h hr
    rw [hread, hb]
    intro z hz
    obtain ⟨k, hk, he⟩ := mem_heardRecords hz
    obtain ⟨hkm, hkh⟩ := mem_othersThan.1 hk
    have hko : k.owner ≠ .pendant := fun hp =>
      hkh (by rw [State.rousesHolds_one h hr' (ho'.trans ho) hkm hp, hh])
    rcases he with rfl | rfl
    · exact hko
    · simpa using hko
  have hwant : (y.struck cause).mon.pendantWant ≠ .untilRoom := by
    rw [State.struck_want, hread, State.wants_of_aside (State.retire_aside _ _ _)]
    exact nofun
  have hmode : (y.struck cause).ctl.mode = .start := by
    rw [State.struck_ctl, hy, State.pendantAsRead_ctl, h.mode]
  have hend : t = (y.struck cause).refreshWarn := ht.trans (State.conclude_start s hmode hwant)
  obtain ⟨-, hp, hf⟩ := State.struck_adds hstill cause
  rw [hend, State.refreshWarn_table, ← hset]
  exact ⟨hp, State.struck_owners howners cause, State.freshForce_withMon _ (hf hfresh)⟩

/-- A line that does not ask has the last hold, the pendant's, handed to the gate, which START suspends (R107, R113, R143). -/
theorem State.reads_handed (ht : t = State.conclude s w.pendantAsRead) (ha : w.lines.pair = .notAsking) {r : Record}
    (ho : r.owner = .pendant) (hone : s.table.records = [r]) :
    t.table = { s.table with records := [{ r with state := .releasing }] } ∧
      t.gate = ⟨true, r.handle, some (Config.ms s.vehicle.releaseTimeout.toNat), false, true⟩ := by
  have hread := State.reads_armed h ha ho hone
  have htable : ((w.want .none).armed r.handle).table = { s.table with records := [{ r with state := .releasing }] } := by
    obtain ⟨b, hb⟩ := h.table
    have hrec : updateRecord w.table.records r.handle (fun x => { x with state := .releasing }) =
        [{ r with state := .releasing }] := by
      rw [hb, hone]
      cases b <;> simp [heardRecords, updateRecord]
    show ({ w.table with
      records := updateRecord w.table.records r.handle fun x => { x with state := .releasing } } : HoldTable) = _
    rw [hrec, hb]
  have hend : t = ((w.want .none).armed r.handle).refreshWarn := by
    rw [ht, hread, State.conclude_armed hone (by rw [htable])]
  refine ⟨by rw [hend, State.refreshWarn_table, htable], ?_⟩
  rw [hend, State.refreshWarn_gate, State.armed_gate]
  show (⟨true, r.handle, some (Config.ms w.vehicle.releaseTimeout.toNat), false, w.ctl.mode != .run⟩ : Gate) = _
  rw [h.vehicle, h.mode]
  rfl

/-- The holds of the other owners are kept, each in its class (R164). -/
theorem State.reads_kept (ht : Sequel (w.pendantAsRead.struck cause) t) {r : Record} (hr : r ∈ s.table.records)
    (ho : r.owner ≠ .pendant) : (r.handle, r.cls) ∈ holdSet t.table.records := by
  rcases State.reads_keeps h with ⟨p, hone, hp⟩ | ⟨hstill, hkept⟩
  · rw [hone, List.mem_singleton] at hr
    exact absurd (hr ▸ hp) ho
  · obtain ⟨hn, hadds, -⟩ := State.struck_adds hstill cause
    obtain ⟨-, hends, -⟩ := ht.adds hn
    exact hends.subset (hadds.subset (hkept r hr ho))

end Roused

end Sys2Proof.Machine

/-! # WAKE (O25) -/

namespace Sys2Proof.Machine

variable {s t x : State} {cause : WakeCause}

/-- The lines at the end of a wake's event are those that the pendant was read by. -/
theorem State.wakes_pairRead (ht : Sequel (x.wakeUp.struck cause) t) : x.waking.lines = t.lines := by
  rw [State.wakes_lines ht, State.waking_lines]

theorem State.waking_motion (x : State) : x.waking.mon.motion = x.mon.motion := by
  rw [x.waking_runsTo.motion]
  rfl

/-- The pair's own reading of its lines that do not ask (R140). -/
theorem pairRead_notAsking (pa pb : Bool) : pairRead pa pb = .notAsking ↔ pa = false ∧ pb = true := by
  cases pa <;> cases pb <;> simp [pairRead]

/-- Settles O25: every wake is the wake over what its cause has stirred, and what a limit pulse then does. -/
theorem wakeStartsAfresh : Obligations.WakeStartsAfresh := by
  refine ⟨fun s => ⟨fun _ => rfl, fun _ => rfl⟩, fun s cause hp hm hcause => ⟨?_, fun i hi => ?_⟩⟩
  · have hc : s.rousedBy cause := by cases cause <;> exact hcause
    obtain ⟨x, hxe⟩ : ∃ x, x = s.stirred cause := ⟨_, rfl⟩
    have hx : s.stirsTo x := hxe ▸ State.stirred_stirs hc
    obtain ⟨t, ht⟩ : ∃ t, t = State.conclude s (x.wakeUp.struck cause) := ⟨_, rfl⟩
    have hq : Sequel (x.wakeUp.struck cause) t := ht ▸ sequel_conclude _ _
    have hexec : exec (.wake cause) s = .next t := by rw [exec_wake_rouses hp hm hc, ht, hxe]
    obtain ⟨hslot, henable, hfix⟩ := State.wakes_fixtures hx hq
    obtain ⟨hunread, hwindow, hage, hgrade, htimer, hinputs⟩ := State.wakes_meas hx hq
    obtain ⟨hpair, hfault, hpa, hpb⟩ := State.wakes_pair hq
    have hread := State.wakes_pairRead hq
    have hw := fun hs => State.waking_rousesHolds (x := x) hs hm hx
    have hquiet : (∀ n, cause ≠ .pulse n) → t = State.conclude s x.waking.pendantAsRead := fun hno => by
      rw [ht, State.struck_idle hno, State.wakeUp_eq]
    refine ⟨t, hexec, State.wakes_ctl hx hq, hslot, henable, State.wakes_mode hq, hunread, hwindow, hage, hgrade, htimer,
      hinputs, State.wakes_driver hq, State.wakes_store hx hq, fun c => (hfix c).1, State.wakes_lift hx hq,
      fun c hf => State.wakes_faulted hx hq hf, fun hd c line hf hi hl => State.wakes_onLine hx hq hd hf hi hl,
      fun hs r hr ho => State.reads_kept (hw hs) hq hr ho, fun hs hno ha => ?_, hpair, hfault, fun pa pb hline => ?_,
      fun hs hno ha hmo hnone hroom => ?_, fun hs ha r hr ho => ⟨fun hl => ?_, fun hone hno => ?_⟩,
      fun n hpulse hstage hnone => ?_⟩
    · refine State.reads_stand (hw hs) x.waking_settled (hquiet hno) ?_
      rw [hread, hpair, pairRead_notAsking]
      exact ha
    · rw [hpa, hpb, hxe, hline]
      exact ⟨rfl, rfl⟩
    · refine State.reads_opened (hw hs) (hquiet hno) (hread ▸ ha) ?_ hnone hroom
      rw [x.waking_motion, hxe, State.stirred_mon hno]
      exact hmo
    · exact State.reads_retired (hw hs) (by rw [ht, State.wakeUp_eq]) (hread ▸ ha) hr ho hl
    · exact State.reads_handed (hw hs) (hquiet hno) (hread ▸ ha) ho hone
    · have hunrolled : x.wakeUp.unrolled := by
        rw [hxe, hpulse]
        exact State.wakeUp_unrolled (State.pulsed_unrolled ⟨hstage, hnone⟩ n)
      obtain ⟨hstill, hrec, hbit⟩ := State.limitPulse_first hunrolled
      rw [hpulse] at hq
      exact ⟨hq.cause hstill hrec, hq.bits 1 hbit⟩
  · obtain ⟨take, he⟩ := exec_isExchange hi
    rw [he, exec_wake_rouses hp hm (cause := .chipSelect) trivial, State.exchange_sleep hp hm]
    rfl

end Sys2Proof.Machine
